-- ==== Sys2Proof/Word.lean ====
section
/-! DEFINITION. Words, sets, and the fixed-size tables the board's state is made of (spec/00_scope.md, Conventions). -/

namespace Sys2Proof

/-- A byte of a host frame (R189). -/
abbrev Byte := BitVec 8
/-- Board time: milliseconds since the last reset, modulo 2^32 (00_scope, Time). -/
abbrev BoardTime := BitVec 32
/-- A board serial (R87). -/
abbrev Serial := BitVec 48
/-- A set of outlets as R189 codes it: bit k stands for outlet k + 1. -/
abbrev OutletSet := BitVec 24
/-- A set of stations, or of branches, as R189 codes it: bit k stands for number k. -/
abbrev NumberSet := BitVec 16
/-- An outlet by its place in outlet number order: 0 is outlet 1 (R1). -/
abbrev OutletId := Fin 24
/-- A station number, 0 to 15 (R161). -/
abbrev StationId := Fin 16
/-- A branch number, 0 to 15 (R165). -/
abbrev BranchId := Fin 16

/-- The three banks of the strip (R1). -/
inductive Bank where
  | bankA
  | bankB
  | bankC
  deriving DecidableEq, Repr

/-- One value for each bank. -/
structure Banked (α : Type) where
  a : α
  b : α
  c : α
  deriving DecidableEq, Repr

namespace Banked
variable {α β : Type}

def get (t : Banked α) : Bank → α
  | .bankA => t.a
  | .bankB => t.b
  | .bankC => t.c

def set (t : Banked α) (k : Bank) (x : α) : Banked α :=
  match k with
  | .bankA => { t with a := x }
  | .bankB => { t with b := x }
  | .bankC => { t with c := x }

def fill (x : α) : Banked α := ⟨x, x, x⟩

/-- The value of each bank computed from the bank. -/
def build (f : Bank → α) : Banked α := ⟨f .bankA, f .bankB, f .bankC⟩

def map (f : α → β) (t : Banked α) : Banked β := ⟨f t.a, f t.b, f t.c⟩

def toList (t : Banked α) : List α := [t.a, t.b, t.c]

end Banked

/-- A table of exactly `n` values, in number order. -/
structure Tab (n : Nat) (α : Type) where
  cells : List α
  size : cells.length = n
  deriving DecidableEq, Repr

namespace Tab
variable {n : Nat} {α β : Type}

def get (t : Tab n α) (i : Fin n) : α := t.cells[i.val]'(by rw [t.size]; exact i.isLt)

def set (t : Tab n α) (i : Fin n) (x : α) : Tab n α := ⟨t.cells.set i.val x, by rw [List.length_set, t.size]⟩

def fill (n : Nat) (x : α) : Tab n α := ⟨List.replicate n x, List.length_replicate⟩

/-- `f` applied to each value and its place, the first place being `k`. -/
def mapFrom (f : Nat → α → β) : Nat → List α → List β
  | _, [] => []
  | k, x :: xs => f k x :: mapFrom f (k + 1) xs

theorem mapFrom_length (f : Nat → α → β) (k : Nat) (l : List α) : (mapFrom f k l).length = l.length := by
  induction l generalizing k with
  | nil => rfl
  | cons x xs ih => simp [mapFrom, ih]

/-- Every value rewritten from its place and itself. -/
def mapIdx (f : Nat → α → β) (t : Tab n α) : Tab n β := ⟨mapFrom f 0 t.cells, by rw [mapFrom_length, t.size]⟩

end Tab

/-- All outlets, in outlet number order. -/
def allOutlets : List OutletId :=
  [0, 1, 2, 3, 4, 5, 6, 7, 8, 9, 10, 11, 12, 13, 14, 15, 16, 17, 18, 19, 20, 21, 22, 23]

/-- All station numbers (and all branch numbers), lowest first. -/
def allNumbers : List (Fin 16) := [0, 1, 2, 3, 4, 5, 6, 7, 8, 9, 10, 11, 12, 13, 14, 15]

/-- The three banks in bank order (R107). -/
def allBanks : List Bank := [.bankA, .bankB, .bankC]

end Sys2Proof
end

