-- ==== Sys2Proof/Syntax.lean ====
section
/-! DEFINITION. The commands of the board, one constructor for each row of spec/opcode_table.json, and the operands they carry. -/

namespace Sys2Proof

/-- The jumper block JP1 (R161, 11.6): `true` where the jumper is installed. -/
structure Jumpers where
  st3 : Bool
  st2 : Bool
  st1 : Bool
  st0 : Bool
  lke : Bool
  trm : Bool
  deriving DecidableEq, Repr

/-- A read command and its argument bytes (R179, 11.2). -/
inductive ReadRequest where
  | status
  | outlet (outlet clearPeak : Byte)
  | bank (bank : Byte)
  | peer (station : Byte)
  | group (group : Byte)
  | event
  | result
  deriving DecidableEq, Repr

/-- What the port captures while select is low: the status byte, when select falls, or a reply, when the last argument byte of a read has been
taken (R174, R176, R179; log 9). -/
inductive PortCapture where
  | statusByte
  | reply (request : ReadRequest)
  deriving DecidableEq, Repr

/-- The argument bytes of SET BOARD (R164, 11.2). -/
structure BoardArgs where
  nominal : BitVec 16
  sagPercent : Byte
  recoveryWait : BitVec 16
  offGather : Byte
  onGather : BitVec 16
  claimWait : BitVec 16
  eventMask : BitVec 24
  deriving DecidableEq, Repr

/-- The argument bytes of SET BANK (R165, 11.2). -/
structure BankArgs where
  bank : Byte
  branch : Byte
  limit : BitVec 16
  sagShed : Byte
  deriving DecidableEq, Repr

/-- The argument bytes of SET PROFILE (R166, 11.2). -/
structure ProfileArgs where
  profile : Byte
  alignment : Byte
  alignLimit : Byte
  coilPulse : Byte
  settle : BitVec 16
  inrush : BitVec 16
  absorb : Byte
  deriving DecidableEq, Repr

/-- The argument bytes of SET OUTLET (R167, 11.2). -/
structure OutletArgs where
  outlet : Byte
  profile : Byte
  group : Byte
  tripThreshold : BitVec 16
  startState : Byte
  restoreOrder : Byte
  shedRank : Byte
  deriving DecidableEq, Repr

/-- The argument bytes of SET GROUP (R168, 11.2). -/
structure GroupArgs where
  group : Byte
  dwell : BitVec 16
  policy : Byte
  deriving DecidableEq, Repr

/-- The direction of a zero-crossing (R29). -/
inductive Edge where
  | rising
  | falling
  deriving DecidableEq, Repr

/-- What the samples of one half-cycle of a bank show (R30, R42): the bank's RMS voltage in 0.1 V and, for its eight outlets in number
order, the RMS current and the largest sampled magnitude since the step before, in 0.01 A (log 3). -/
structure HalfMeasure where
  volts : Nat
  amps : List Nat
  peaks : List Nat
  deriving DecidableEq, Repr

/-- What the samples of one window of a bank show (R33, R34): the bank's RMS voltage in 0.1 V and, for its eight outlets in number order,
the RMS current in 0.01 A and the real power in 0.1 W (log 3). -/
structure WindowMeasure where
  volts : Nat
  amps : List Nat
  watts : List Int
  deriving DecidableEq, Repr

/-- The identity of a group cycle (R137). -/
structure Tag where
  station : StationId
  seq : Fin 16
  deriving DecidableEq, Repr

/-- A group's policy (R135). -/
inductive Policy where
  | strict
  | lenient
  deriving DecidableEq, Repr

/-- The reasons a GROUP-ABORT frame carries (R153). -/
inductive AbortReason where
  | host
  | offTimeout
  | peerLost
  | rosterLost
  | rejoined
  deriving DecidableEq, Repr

/-- The eight frame kinds (R66). -/
inductive FrameKind where
  | join
  | status
  | claim
  | forget
  | openGroup
  | groupOff
  | groupOn
  | groupAbort
  deriving DecidableEq, Repr

/-- The payload of a JOIN (R87). Limits and held claims are in 0.1 A. -/
structure JoinPayload where
  serial : Serial
  map : Banked BranchId
  limits : Banked Nat
  helds : Banked Nat
  replyRequested : Bool
  groups : List Nat
  deriving DecidableEq, Repr

/-- What a STATUS says of one bank (R95). Load and held claim are in 0.1 A. -/
structure StatusBank where
  load : Nat
  held : Nat
  rank : Nat
  sag : Bool
  recovering : Bool
  deriving DecidableEq, Repr

/-- The payload of a CLAIM (R110); the amount is in 0.1 A. -/
structure ClaimPayload where
  bank : Bank
  branch : BranchId
  outlet : OutletId
  amount : Nat
  deriving DecidableEq, Repr

/-- The payload of an OPEN-GROUP (R139); the dwell is in seconds. -/
structure OpenGroupPayload where
  tag : Tag
  group : Nat
  dwell : Nat
  policy : Policy
  deriving DecidableEq, Repr

/-- The payload of a GROUP-OFF (R143). -/
structure GroupOffPayload where
  tag : Tag
  group : Nat
  opened : Nat
  held : Nat
  deriving DecidableEq, Repr

/-- The payload of a GROUP-ON (R149). -/
structure GroupOnPayload where
  tag : Tag
  group : Nat
  restored : Nat
  failed : Nat
  deriving DecidableEq, Repr

/-- The payload of a GROUP-ABORT (R153). -/
structure GroupAbortPayload where
  tag : Tag
  group : Nat
  reason : AbortReason
  deriving DecidableEq, Repr

/-- A peer frame's kind with its payload (R66, 11.4). -/
inductive PeerFrame where
  | join (p : JoinPayload)
  | status (p : Banked StatusBank)
  | claim (p : ClaimPayload)
  | forget (station : StationId)
  | openGroup (p : OpenGroupPayload)
  | groupOff (p : GroupOffPayload)
  | groupOn (p : GroupOnPayload)
  | groupAbort (p : GroupAbortPayload)
  deriving DecidableEq, Repr

/-- A frame that was not carried, as a receiver read it (R70): the bits from the key to the CRC in the order read, whether the bus was
found idle before the expected reject slot, and whether the reject slot was seen dominant (log 14). -/
structure Reception where
  bits : List Bool
  idleEarly : Bool
  rejectDominant : Bool
  deriving DecidableEq, Repr

/-- The commands of the board. `bits` is the number of bits clocked in while select was low (R174, R175). -/
inductive Instr where
  | powerOnReset (jumpers : Jumpers) (lock : Bool)
  | warmResetAssert
  | warmResetRelease (jumpers : Jumpers)
  | lockChange (asserted : Bool)
  | readStatus (bits : Nat)
  | readOutlet (bits : Nat) (outlet clearPeak : Byte)
  | readBank (bits : Nat) (bank : Byte)
  | readPeer (bits : Nat) (station : Byte)
  | readGroup (bits : Nat) (group : Byte)
  | readEvent (bits : Nat)
  | readResult (bits : Nat)
  | switchOn (bits : Nat) (outlet direction : Byte)
  | switchOff (bits : Nat) (outlet : Byte)
  | cycleOutlet (bits : Nat) (outlet : Byte) (dwell : BitVec 16)
  | cycleGroup (bits : Nat) (group : Byte) (dwell : BitVec 16)
  | abortGroup (bits : Nat) (group : Byte)
  | clearTrip (bits : Nat) (outlet : Byte)
  | resetEnergy (bits : Nat) (outlet : Byte)
  | setProtect (bits : Nat) (outlets : OutletSet)
  | forgetPeer (bits : Nat) (station : Byte)
  | setBoard (bits : Nat) (args : BoardArgs)
  | setBank (bits : Nat) (args : BankArgs)
  | setProfile (bits : Nat) (args : ProfileArgs)
  | setOutlet (bits : Nat) (args : OutletArgs)
  | setGroup (bits : Nat) (args : GroupArgs)
  | start (bits : Nat)
  | voltageZeroCrossing (bank : Bank) (edge : Edge) (micros : Fin 1000) (half : HalfMeasure) (window : WindowMeasure)
  | currentZeroCrossing (outlet : OutletId) (micros : Fin 1000) (peak : Nat)
  | halfCycleTimeout (bank : Bank) (half : HalfMeasure)
  | instantTrip (outlet : OutletId) (magnitude : Nat)
  | windowTimeout (bank : Bank) (window : WindowMeasure)
  | noCrossingTimeout (bank : Bank)
  | recoveryTimerExpiry (bank : Bank)
  | closingAlignExpiry (outlet : OutletId)
  | openingAlignExpiry (outlet : OutletId)
  | coilPulseEnd (outlet : OutletId)
  | closingSettleEnd (outlet : OutletId)
  | openingSettleEnd (outlet : OutletId)
  | localDwellExpiry (outlet : OutletId)
  | claimWaitExpiry (outlet : OutletId)
  | scheduledStatus
  | busIdleOffer (rivals : List Nat)
  | attemptFailed (mismatch : Bool)
  | failedFrame (reception : Reception)
  | joinApply (source : StationId) (payload : JoinPayload)
  | statusApply (source : StationId) (payload : Banked StatusBank)
  | forgetApply (source station : StationId)
  | claimApply (source : StationId) (payload : ClaimPayload)
  | openGroupApply (source : StationId) (payload : OpenGroupPayload)
  | groupOffApply (source : StationId) (payload : GroupOffPayload)
  | groupOnApply (source : StationId) (payload : GroupOnPayload)
  | groupAbortApply (source : StationId) (payload : GroupAbortPayload)
  | offGatherExpiry (group : Nat)
  | dwellExpiry (group : Nat)
  | onGatherExpiry (group : Nat)
  | peerLivenessExpiry (station : StationId)
  | joiningTimerExpiry
  | quietTimerExpiry
  | hostReplyCapture (what : PortCapture)
  | invalidHostFrame (bits : Nat) (command : Byte)
  deriving DecidableEq, Repr

end Sys2Proof
end

