-- ==== Sys2Proof/Decode.lean ====
section
/-! DEFINITION. The command a table word spells: no row of spec/opcode_table.json gives bits, so no word spells one. -/

namespace Sys2Proof

/-- No row gives bits, so the answer is none for every word. -/
def decodeTableWord (_nbits _w : Nat) : Option Instr := none

end Sys2Proof
end

