-- ==== Sys2Proof/Config.lean ====
section
/-! DEFINITION. The free values: what the manual leaves open and the board still produces. None has a body, so no proof can see which it is (log 5, 6). -/

namespace Sys2Proof.Config

/-- Which reading a bank's or an outlet's record holds (R33, R34), for `unstated`. -/
inductive Reading where
  | frequency
  | halfCycles
  | duration
  | realPowerMagnitude
  | powerFactor
  deriving DecidableEq, Repr

/-- Whether an exact half of `n / d` is rounded up: R33, R34 and R51 say "nearest" only (log 5). -/
opaque tieRoundsUp (n d : Nat) : Bool

/-- Whether the apparent power `n / d`, not a whole count of 0.1 VA, is rounded up: R34 does not say how it is rounded (log 5). -/
opaque apparentRoundsUp (n d : Nat) : Bool

/-- What a record shows for a reading whose exact value `n` lies outside the range R33 or R34 gives and for which no rule states a saturation (log 6). -/
opaque unstated (r : Reading) (n : Nat) : Nat

end Sys2Proof.Config
end

