-- ==== Sys2Proof/Machine/State.lean ====
section
/-! DEFINITION. The state of one board, block by block, and what each block holds after a power-on reset. -/

namespace Sys2Proof.Machine

/-- A moment: board time and the microseconds within that millisecond (log 3). -/
structure Stamp where
  ms : BoardTime
  us : Nat
  deriving DecidableEq, Repr

/-! Outlet switch unit (01). -/

/-- The eight outlet states (R2). -/
inductive OutletState where
  | off
  | claiming
  | closing
  | on
  | opening
  | dwell
  | shed
  | tripped
  deriving DecidableEq, Repr

/-- The steps of a relay sequence (R1). -/
inductive SubPhase where
  | align
  | coil
  | settle
  deriving DecidableEq, Repr

/-- The position the board intends for the contacts (R1). -/
inductive RelayCommand where
  | opened
  | closed
  deriving DecidableEq, Repr

/-- What the coil is being given (R1). -/
inductive CoilDrive where
  | off
  | pulse
  | hold
  deriving DecidableEq, Repr

/-- The final state of an accepted host request not yet reached (R21). -/
inductive HostTarget where
  | none
  | on
  | off
  deriving DecidableEq, Repr

/-- The kind of cycle an outlet is in; a local cycle carries its dwell in seconds (R1). -/
inductive CycleMember where
  | none
  | localCycle (dwell : Nat)
  | group
  deriving DecidableEq, Repr

/-- The configured fields of an outlet record (R1); the trip threshold is in 0.1 A. -/
structure OutletConfig where
  profile : Fin 4
  group : Nat
  tripThreshold : Nat
  startOn : Bool
  restoreOrder : Nat
  shedRank : Nat
  deriving DecidableEq, Repr

/-- An outlet record (R1). Timers are in ms; `stateTimer` counts down, `claimWait` counts up; `none` is stopped. -/
structure Outlet where
  cfg : OutletConfig
  state : OutletState
  sub : Option SubPhase
  relay : RelayCommand
  coil : CoilDrive
  target : HostTarget
  isProtected : Bool
  pendingOff : Bool
  restoreIntent : Bool
  cycle : CycleMember
  unalignedLast : Bool
  claimWait : Option Nat
  stateTimer : Option Nat
  alignLimitMs : Nat
  alignPeak : Nat
  deriving DecidableEq, Repr

/-- The alignment of a profile (R5). -/
inductive Alignment where
  | none
  | zero
  | strict
  deriving DecidableEq, Repr

/-- A switch profile (R4): half-cycles, ms, ms, 0.1 A, windows. -/
structure Profile where
  alignment : Alignment
  alignLimit : Nat
  coilPulse : Nat
  settle : Nat
  inrush : Nat
  absorb : Nat
  deriving DecidableEq, Repr

/-! Metering engine (02). -/

/-- A bank line record (R33). -/
structure LineRecord where
  volts : Nat
  frequency : Nat
  halves : Nat
  duration : Nat
  noLine : Bool
  endTime : BoardTime
  deriving DecidableEq, Repr

/-- An outlet window record (R34). -/
structure WindowRecord where
  amps : Nat
  watts : Int
  voltAmps : Nat
  powerFactor : Nat
  disturbed : Bool
  noLine : Bool
  reverse : Bool
  deriving DecidableEq, Repr

/-- An outlet's meter values (R34 to R42). -/
structure Meter where
  record : Option WindowRecord
  undisturbed : Option Nat
  energy : BitVec 48
  remainder : Nat
  reversePower : Bool
  peak : Nat
  overCount : Nat
  disturbed : Bool
  lastCross : Option Stamp
  deriving DecidableEq, Repr

/-- A bank's window and half-cycle in progress, and its line record (R30, R31, R33). -/
structure BankWindow where
  line : Option LineRecord
  start : BoardTime
  riseStart : Option Stamp
  cycles : Nat
  rises : Nat
  halves : Nat
  halfStart : Stamp
  halfOnCrossing : Bool
  deriving DecidableEq, Repr

/-! Line monitor (03). -/

/-- The line state of a bank (R51). -/
inductive LineState where
  | normal
  | sag
  | recovering
  deriving DecidableEq, Repr

/-- The line monitor's record of a bank (R51); the sag-shed enable stands with the bank's configuration. -/
structure Line where
  state : LineState
  low : Nat
  good : Nat
  lastCross : Option Stamp
  recovery : Option Nat
  shedInUse : Bool
  sagStart : Option BoardTime
  reentry : Nat
  deriving DecidableEq, Repr

/-! Link controller (04). -/

/-- The link states (R79). -/
inductive LinkState where
  | silent
  | joining
  | active
  | linkDown
  | isolated
  deriving DecidableEq, Repr

/-- A frame in the transmit queue with the key and the CRC it was queued with (R66, R75, R190). -/
structure QueuedFrame where
  key : Nat
  frame : PeerFrame
  crc : BitVec 16
  deriving DecidableEq, Repr

/-- The attempt in progress: its frame, which stays in the queue, and what waits for the end of the attempt (R76, R77). -/
structure Sending where
  frame : QueuedFrame
  removeAfter : Bool
  replacement : Option PeerFrame
  deriving DecidableEq, Repr

/-- The link controller's state (R83). -/
structure Link where
  state : LinkState
  queue : List QueuedFrame
  sending : Option Sending
  failures : Nat
  joining : Option Nat
  quiet : Option Nat
  rejectDriven : Bool
  deriving DecidableEq, Repr

/-! Peer table (05). -/

/-- The state of a peer table entry (R84). -/
inductive EntryState where
  | absent
  | live
  | lost
  deriving DecidableEq, Repr

/-- What only a JOIN writes (R84). -/
structure PeerInfo where
  serial : Serial
  map : Banked BranchId
  limits : Banked Nat
  deriving DecidableEq, Repr

/-- The line flags of a bank in a peer table entry (R84). -/
structure BankFlags where
  sag : Bool
  recovering : Bool
  deriving DecidableEq, Repr

/-- A peer table entry (R84). -/
structure Peer where
  state : EntryState
  info : Option PeerInfo
  loads : Banked Nat
  helds : Banked Nat
  ranks : Banked Nat
  flags : Banked BankFlags
  groups : List Nat
  conflict : Bool
  lastHeard : Option BoardTime
  becameLive : Option BoardTime
  deriving DecidableEq, Repr

/-! Budget unit (06, 07). -/

/-- The claim states (R105). -/
inductive ClaimState where
  | none
  | sent
  | granted
  deriving DecidableEq, Repr

/-- The ending mark of a granted claim (R105). -/
inductive EndingMark where
  | none
  | released
  | dropped
  deriving DecidableEq, Repr

/-- A bank's own claim record (R105); its branch is the bank's configured branch. -/
structure Claim where
  state : ClaimState
  outlet : Option OutletId
  amount : Nat
  withdrawn : Bool
  ending : EndingMark
  absorbTarget : Nat
  absorbCount : Nat
  denials : Nat
  retryWait : Option OutletId
  deriving DecidableEq, Repr

/-- The overload states (R124). -/
inductive OverloadState where
  | clear
  | overOnce
  | hold
  deriving DecidableEq, Repr

/-- A branch's overload record (R124). -/
structure Overload where
  state : OverloadState
  shedder : Option StationId
  loadTotal : Nat
  reported : Bool
  deriving DecidableEq, Repr

/-! Group engine (08). -/

/-- A group entry (R135) with the roster the peer table keeps for it (R86). -/
structure GroupEntry where
  group : Nat
  dwell : Nat
  policy : Policy
  pendingTag : Option Tag
  roster : NumberSet
  deriving DecidableEq, Repr

/-- The phases of a cycle record (R137). -/
inductive CyclePhase where
  | offPhase
  | dwell
  | onPhase
  | restoringAbort
  | done
  deriving DecidableEq, Repr

/-- The member statuses (R138). -/
inductive MemberStatus where
  | held
  | opening
  | opened
  | off
  | restoring
  | restored
  | failed
  deriving DecidableEq, Repr

/-- A member outlet in a cycle record; `wasOpened` is set once it has had status OPEN (R138, log 20). -/
structure Member where
  outlet : OutletId
  status : MemberStatus
  wasOpened : Bool
  deriving DecidableEq, Repr

/-- Why a cycle was aborted (R157). -/
inductive EndReason where
  | host
  | offTimeout
  | peerLost
  | rosterLost
  | rejoined
  | held
  | link
  deriving DecidableEq, Repr

/-- How a cycle ended (R137). -/
inductive CycleOutcome where
  | complete
  | incomplete
  | aborted (reason : EndReason)
  deriving DecidableEq, Repr

/-- A cycle record (R137). Timers are in ms, `none` is stopped. -/
structure CycleRecord where
  group : Nat
  tag : Tag
  dwell : Nat
  policy : Policy
  phase : CyclePhase
  awaited : NumberSet
  early : NumberSet
  gOpened : Nat
  gHeld : Nat
  gRestored : Nat
  gFailed : Nat
  offTimer : Option Nat
  dwellTimer : Option Nat
  onTimer : Option Nat
  abortOffered : Bool
  offOffered : Bool
  onOffered : Bool
  members : List Member
  outcome : Option CycleOutcome
  deriving DecidableEq, Repr

/-! Host port (10). -/

/-- The result codes (R178). -/
inductive ResultCode where
  | ok
  | badArg
  | phase
  | protectedSet
  | tripped
  | busy
  | badState
  | inCycle
  | notMember
  | rosterLost
  | late
  | locked
  | peerLive
  | linkBusy
  | linkDown
  | groupFull
  | configInvalid
  deriving DecidableEq, Repr

/-- The result slot (R177). -/
structure ResultSlot where
  code : ResultCode
  detail : Nat
  deriving DecidableEq, Repr

/-- The event kinds (R187). -/
inductive EventKind where
  | trip
  | switchDone
  | switchFailed
  | claimExpired
  | sagStart
  | sagEnd
  | overloadShed
  | branchOverload
  | energyWrap
  | peerJoined
  | peerLost
  | peerForgotten
  | branchConflict
  | duplicateStation
  | linkDown
  | linkUp
  | groupRequested
  | groupMerged
  | groupDone
  deriving DecidableEq, Repr

/-- An event record (R184); subject and detail are coded as 11.3 and 11.5 give. -/
structure Event where
  kind : EventKind
  time : BoardTime
  subject : Nat
  detail : Nat
  value : BitVec 32
  deriving DecidableEq, Repr

/-- A captured read that has not been executed (R179) and what has happened since that its execution asks about (R41, R180, R183). -/
structure Capture where
  request : ReadRequest
  result : ResultSlot
  hadEvent : Bool
  lossSince : Bool
  peakSince : Nat
  deriving DecidableEq, Repr

/-- The select line as the port takes it (R174, R175). -/
inductive SelectLine where
  /-- No frame is open. -/
  | high
  /-- A frame is open: select has fallen. -/
  | low
  /-- A frame is open that a reset has met: it is discarded at the next rising of select (R175). -/
  | discarded
  deriving DecidableEq, Repr

/-- The host port's state (R188), the select line, and the bytes out of the open or the latest frame: the status byte, and those after it
(R174). -/
structure Port where
  res : Bool
  lost : Bool
  rej : Bool
  slot : ResultSlot
  events : List Event
  capture : Option Capture
  select : SelectLine
  statusOut : Byte
  dataOut : List Byte
  deriving DecidableEq, Repr

/-! Start-up and configuration (09). -/

/-- The board phases (R162). -/
inductive Phase where
  | configuring
  | running
  deriving DecidableEq, Repr

/-- The items SET BOARD sets (R164): 0.1 V, %, 0.1 s, s, s, s, and the event mask. -/
structure BoardConfig where
  nominal : Nat
  sagPercent : Nat
  recoveryWait : Nat
  offGather : Nat
  onGather : Nat
  claimWait : Nat
  eventMask : BitVec 24
  deriving DecidableEq, Repr

/-- The items SET BANK sets (R165); the limit is in 0.1 A. -/
structure BankConfig where
  branch : BranchId
  limit : Nat
  sagShed : Bool
  deriving DecidableEq, Repr

/-- The board. `pending` is the queue of commands that wait, first in first out. -/
structure State where
  pending : List Instr
  inReset : Bool
  jumperPins : Jumpers
  lockPin : Bool
  serial : Serial
  boardTime : BoardTime
  phase : Phase
  station : StationId
  lke : Bool
  lockSample : Bool
  cfg : BoardConfig
  banks : Banked BankConfig
  profiles : Tab 4 Profile
  restoreSet : OutletSet
  startRestored : Bool
  outlets : Tab 24 Outlet
  meters : Tab 24 Meter
  windows : Banked BankWindow
  lines : Banked Line
  link : Link
  peers : Tab 16 Peer
  conflicts : NumberSet
  queues : Banked (List OutletId)
  claims : Banked Claim
  overload : Tab 16 Overload
  groups : List GroupEntry
  records : List CycleRecord
  seq : Fin 16
  port : Port
  deriving DecidableEq, Repr

/-- Why the board would stop with a fault: the manual gives it no such stop, so no command raises one (INVENTORY, Faults). -/
inductive Fault where
  deriving DecidableEq, Repr

/-- Why a command would be refused. -/
inductive Refusal where
  /-- Raised by a command that has no meaning yet, by its arm in Dispatch. Safe: the board goes on there, the model stops. No arm uses it. -/
  | notModelled (mnemonic : String)
  deriving DecidableEq, Repr

/-! The values after a reset. -/

def OutletConfig.default : OutletConfig := ⟨0, 0, 160, false, 128, 255⟩

/-- An outlet record after a power-on reset (R27). -/
def Outlet.reset : Outlet :=
  { cfg := .default, state := .off, sub := none, relay := .opened, coil := .off, target := .none, isProtected := false, pendingOff := false,
    restoreIntent := false, cycle := .none, unalignedLast := false, claimWait := none, stateTimer := none, alignLimitMs := 0, alignPeak := 0 }

/-- A profile's defaults (R4). -/
def Profile.default : Profile := ⟨.zero, 2, 20, 100, 80, 1⟩

/-- An outlet's meter values after a power-on reset (R49). -/
def Meter.reset : Meter :=
  { record := none, undisturbed := none, energy := 0, remainder := 0, reversePower := false, peak := 0, overCount := 0, disturbed := false, lastCross := none }

/-- A bank's first window after a reset: opened at board time 0 by the end of the reset, not by a crossing (R31, R49). The first half-cycle begins there
too and counts as not begun on a crossing (the model's choice, log 46). -/
def BankWindow.reset : BankWindow :=
  { line := none, start := 0, riseStart := none, cycles := 10, rises := 0, halves := 0, halfStart := ⟨0, 0⟩, halfOnCrossing := false }

/-- A bank's line record after a reset (R64). -/
def Line.reset : Line :=
  { state := .normal, low := 0, good := 0, lastCross := none, recovery := none, shedInUse := true, sagStart := none, reentry := 0 }

/-- The link controller after a reset (R83). -/
def Link.reset : Link :=
  { state := .silent, queue := [], sending := none, failures := 0, joining := none, quiet := none, rejectDriven := false }

/-- An ABSENT peer table entry (R84, R85). -/
def Peer.absent : Peer :=
  { state := .absent, info := none, loads := .fill 0, helds := .fill 0, ranks := .fill 255, flags := .fill ⟨false, false⟩, groups := [],
    conflict := false, lastHeard := none, becameLive := none }

/-- An own claim record after a reset (R105). -/
def Claim.reset : Claim :=
  { state := .none, outlet := none, amount := 0, withdrawn := false, ending := .none, absorbTarget := 1, absorbCount := 0, denials := 0, retryWait := none }

/-- An overload record after a reset (R124). -/
def Overload.reset : Overload := ⟨.clear, none, 0, false⟩

/-- The event mask with every kind of 11.3 enabled (R164, R188). -/
def allKinds : BitVec 24 := 0x07FFFF

/-- The defaults of R164. -/
def BoardConfig.default : BoardConfig := ⟨2300, 80, 20, 20, 300, 120, allKinds⟩

/-- The defaults of R165. -/
def BankConfig.defaults : Banked BankConfig := ⟨⟨0, 160, true⟩, ⟨1, 160, true⟩, ⟨2, 160, true⟩⟩

/-- The host port after a reset (R188). -/
def Port.reset : Port :=
  { res := false, lost := false, rej := false, slot := ⟨.ok, 0⟩, events := [], capture := none, select := .high, statusOut := 0, dataOut := [] }

/-- A jumper block with every jumper removed. -/
def jumpersRemoved : Jumpers := ⟨false, false, false, false, false, false⟩

/-- The board right after a power-on reset (R172), with every jumper removed, LOCK negated and serial 0 (log 15). -/
def State.reset : State :=
  { pending := [], inReset := false, jumperPins := jumpersRemoved, lockPin := false, serial := 0, boardTime := 0, phase := .configuring,
    station := 0, lke := false, lockSample := false, cfg := .default, banks := BankConfig.defaults, profiles := .fill 4 .default,
    restoreSet := 0, startRestored := false, outlets := .fill 24 .reset, meters := .fill 24 .reset, windows := .fill .reset,
    lines := .fill .reset, link := .reset, peers := .fill 16 .absent, conflicts := 0, queues := .fill [], claims := .fill .reset,
    overload := .fill 16 .reset, groups := [], records := [], seq := 0, port := .reset }

end Sys2Proof.Machine
end

