-- ==== Sys2Proof/Machine/Ops.lean ====
section
/-! DEFINITION. The operations every block uses: reading and rewriting one record, sets of numbers, board time, timers, rounding, and posting an event. -/

namespace Sys2Proof.Machine

/-! Banks and outlets (R1). -/

def bankOf (o : OutletId) : Bank := if o.val < 8 then .bankA else if o.val < 16 then .bankB else .bankC

def bankOutlets : Bank → List OutletId
  | .bankA => [0, 1, 2, 3, 4, 5, 6, 7]
  | .bankB => [8, 9, 10, 11, 12, 13, 14, 15]
  | .bankC => [16, 17, 18, 19, 20, 21, 22, 23]

/-- The number of an outlet, 1 to 24. -/
def outletNo (o : OutletId) : Nat := o.val + 1

/-- An outlet's place within its bank, 0 to 7. -/
def slotOf (o : OutletId) : Nat := o.val % 8

/-- The coding of a bank in frames and events (11.3). -/
def bankNo : Bank → Nat
  | .bankA => 0
  | .bankB => 1
  | .bankC => 2

/-! Sets of stations or branches (R189). -/

def hasNumber (s : NumberSet) (k : Fin 16) : Bool := s.getLsbD k.val

def addNumber (s : NumberSet) (k : Fin 16) : NumberSet := s ||| (1#16 <<< k.val)

def removeNumber (s : NumberSet) (k : Fin 16) : NumberSet := s &&& ~~~(1#16 <<< k.val)

/-- The set of the numbers that satisfy `p`. -/
def numbersWhere (p : Fin 16 → Bool) : NumberSet := allNumbers.foldl (fun s k => if p k then addNumber s k else s) 0

/-- The lowest number of a set, if it has one. -/
def lowestNumber (s : NumberSet) : Option (Fin 16) := allNumbers.find? (hasNumber s)

def hasOutlet (s : OutletSet) (o : OutletId) : Bool := s.getLsbD o.val

def addOutlet (s : OutletSet) (o : OutletId) : OutletSet := s ||| (1#24 <<< o.val)

def removeOutlet (s : OutletSet) (o : OutletId) : OutletSet := s &&& ~~~(1#24 <<< o.val)

/-- The set of the outlets that satisfy `p`. -/
def outletsWhere (p : OutletId → Bool) : OutletSet := allOutlets.foldl (fun s o => if p o then addOutlet s o else s) 0

/-! One record of the state. -/

def State.outlet (s : State) (o : OutletId) : Outlet := s.outlets.get o

def State.setOutlet (s : State) (o : OutletId) (x : Outlet) : State := { s with outlets := s.outlets.set o x }

def State.modOutlet (s : State) (o : OutletId) (f : Outlet → Outlet) : State := s.setOutlet o (f (s.outlet o))

def State.meter (s : State) (o : OutletId) : Meter := s.meters.get o

def State.modMeter (s : State) (o : OutletId) (f : Meter → Meter) : State := { s with meters := s.meters.set o (f (s.meter o)) }

def State.bank (s : State) (b : Bank) : BankConfig := s.banks.get b

def State.profile (s : State) (o : OutletId) : Profile := s.profiles.get (s.outlet o).cfg.profile

def State.line (s : State) (b : Bank) : Line := s.lines.get b

def State.modLine (s : State) (b : Bank) (f : Line → Line) : State := { s with lines := s.lines.set b (f (s.line b)) }

def State.window (s : State) (b : Bank) : BankWindow := s.windows.get b

def State.modWindow (s : State) (b : Bank) (f : BankWindow → BankWindow) : State := { s with windows := s.windows.set b (f (s.window b)) }

def State.queue (s : State) (b : Bank) : List OutletId := s.queues.get b

def State.setQueue (s : State) (b : Bank) (q : List OutletId) : State := { s with queues := s.queues.set b q }

def State.claim (s : State) (b : Bank) : Claim := s.claims.get b

def State.modClaim (s : State) (b : Bank) (f : Claim → Claim) : State := { s with claims := s.claims.set b (f (s.claim b)) }

def State.peer (s : State) (k : StationId) : Peer := s.peers.get k

def State.modPeer (s : State) (k : StationId) (f : Peer → Peer) : State := { s with peers := s.peers.set k (f (s.peer k)) }

def State.over (s : State) (n : BranchId) : Overload := s.overload.get n

def State.modOver (s : State) (n : BranchId) (f : Overload → Overload) : State := { s with overload := s.overload.set n (f (s.over n)) }

def State.modLink (s : State) (f : Link → Link) : State := { s with link := f s.link }

def State.modPort (s : State) (f : Port → Port) : State := { s with port := f s.port }

/-- A bank is held from entry into SAG until it is next NORMAL (R58). -/
def State.isHeld (s : State) (b : Bank) : Bool := decide ((s.line b).state ≠ .normal)

/-- An outlet is live while its coil drive is PULSE or HOLD (R3). -/
def Outlet.live (x : Outlet) : Bool := decide (x.coil ≠ .off)

/-- The banks the station's own map sends to branch `n` (R103). -/
def State.ownBanksOn (s : State) (n : BranchId) : List Bank := allBanks.filter (fun b => decide ((s.bank b).branch = n))

/-- The station uses branch `n` (R103). -/
def State.uses (s : State) (n : BranchId) : Bool := !(s.ownBanksOn n).isEmpty

/-- The station's limit for a branch it uses (R103); 0 for one it does not use. -/
def State.ownLimit (s : State) (n : BranchId) : Nat :=
  match s.ownBanksOn n with
  | [] => 0
  | b :: _ => (s.bank b).limit

/-! Rounding (log 5). -/

/-- `n / d` to the nearest whole number; an exact half goes the way of a free value. -/
def roundNearest (n d : Nat) : Nat :=
  if 2 * (n % d) < d then n / d
  else if 2 * (n % d) = d then (if Config.tieRoundsUp n d then n / d + 1 else n / d)
  else n / d + 1

/-! Board time (00_scope, Time). -/

/-- The milliseconds from `t` to `now`, modulo 2^32. -/
def msSince (now t : BoardTime) : Nat := (now - t).toNat

/-- The microseconds from `t` to `u`. -/
def microsBetween (t u : Stamp) : Nat := msSince u.ms t.ms * 1000 + u.us - t.us

/-- What a running countdown of `t` ms holds `dt` ms later; it waits at 0 until its expiry is taken (log 2). -/
def countdown (dt : Nat) (t : Option Nat) : Option Nat := t.map (· - dt)

/-- An outlet's timers `dt` ms later; `held` says whether its bank is held (R6, R20, R58). -/
def Outlet.age (dt limit : Nat) (held : Bool) (x : Outlet) : Outlet :=
  { x with
    stateTimer := if held && decide (x.state = .dwell) then x.stateTimer else countdown dt x.stateTimer
    claimWait := if held then x.claimWait else x.claimWait.map (fun t => min limit (t + dt)) }

/-- The dwell of a record is frozen while any bank holding one of its members is held (R147). -/
def State.dwellFrozen (s : State) (r : CycleRecord) : Bool := r.members.any (fun m => s.isHeld (bankOf m.outlet))

/-- A cycle record's timers `dt` ms later (R137, R147). -/
def CycleRecord.age (dt : Nat) (frozen : Bool) (r : CycleRecord) : CycleRecord :=
  { r with
    offTimer := countdown dt r.offTimer
    dwellTimer := if frozen then r.dwellTimer else countdown dt r.dwellTimer
    onTimer := countdown dt r.onTimer }

/-- `dt` ms of board time pass and every running timer that is not frozen runs (00_scope Time; R6, R9, R20, R57, R58, R79, R80, R147).
While RST is asserted nothing runs (log 17). -/
def State.passTime (s : State) (dt : Nat) : State :=
  if s.inReset then s
  else
    { s with
      boardTime := s.boardTime + BitVec.ofNat 32 dt
      outlets := s.outlets.mapIdx (fun i x => x.age dt (s.cfg.claimWait * 1000) (s.isHeld (bankOf (Fin.ofNat 24 i))))
      lines := s.lines.map (fun l => { l with recovery := countdown dt l.recovery })
      link := { s.link with joining := countdown dt s.link.joining, quiet := countdown dt s.link.quiet }
      records := s.records.map (fun r => r.age dt (s.dwellFrozen r)) }

/-- What the board does while no command waits: 1 ms passes (log 1). -/
def State.tick (s : State) : State := s.passTime 1

/-- A timer's expiry: the time the timer still has to run passes, then `fire` acts. A timer that is not running cannot expire (log 2). -/
def State.expire (s : State) (due : Option Nat) (fire : State → State) : State :=
  match due with
  | none => s
  | some d => fire (s.passTime d)

/-- Nothing but a reset or LOCK acts while RST is asserted (R28, R50, R83, R173, R175; log 17). -/
def State.unlessReset (s : State) (f : State → State) : State := if s.inReset then s else f s

/-! Events (R184, R185). -/

/-- The kind codes of 11.3. -/
def EventKind.code : EventKind → Nat
  | .trip => 1
  | .switchDone => 2
  | .switchFailed => 3
  | .claimExpired => 4
  | .sagStart => 5
  | .sagEnd => 6
  | .overloadShed => 7
  | .branchOverload => 8
  | .energyWrap => 9
  | .peerJoined => 10
  | .peerLost => 11
  | .peerForgotten => 12
  | .branchConflict => 13
  | .duplicateStation => 14
  | .linkDown => 15
  | .linkUp => 16
  | .groupRequested => 17
  | .groupMerged => 18
  | .groupDone => 19

/-- The kind with code k is bit k − 1 of the mask (11.2). -/
def maskEnables (mask : BitVec 24) (k : EventKind) : Bool := mask.getLsbD (k.code - 1)

/-- The records the event queue has room for (R184). -/
def eventCapacity : Nat := 64

/-- An event is posted to the port: masked kinds are dropped without trace; a full queue keeps its records and sets LOST (R184, R185). -/
def State.post (s : State) (k : EventKind) (subject detail value : Nat) : State :=
  if maskEnables s.cfg.eventMask k then
    if s.port.events.length < eventCapacity then
      s.modPort (fun p => { p with events := p.events ++ [⟨k, s.boardTime, subject, detail, BitVec.ofNat 32 value⟩] })
    else
      s.modPort (fun p => { p with lost := true, capture := p.capture.map (fun c => { c with lossSince := true }) })
  else s

end Sys2Proof.Machine
end

