-- ==== Sys2Proof/Machine/Flags.lean ====
section
/-! DEFINITION. The flags and outputs computed from the state: EVT, ALERT, the port status byte, the indicators, and the flag bytes of replies and frames. -/

namespace Sys2Proof.Machine

/-- The number whose only bit, if `b` is set, is bit `k`. -/
def bitAt (k : Nat) (b : Bool) : Nat := if b then 2 ^ k else 0

/-- EVT: the event queue holds at least one record (R176). -/
def Port.evt (p : Port) : Bool := !p.events.isEmpty

/-- ALERT is asserted while the event queue holds a record, and negated throughout a reset (R186). -/
def State.alert (s : State) : Bool := !s.inReset && s.port.evt

/-- The coding of the phase (11.2). -/
def Phase.code : Phase → Nat
  | .configuring => 0
  | .running => 1

/-- The port status byte (R176, 11.2). -/
def State.statusByte (s : State) : Byte :=
  BitVec.ofNat 8 (bitAt 7 s.port.res + bitAt 6 s.port.evt + bitAt 5 s.port.lost + bitAt 4 s.port.rej + s.phase.code)

/-- What an indicator shows (R25, R26). -/
inductive Led where
  | dark
  | steady
  | slowBlink
  | fastBlink
  deriving DecidableEq, Repr

/-- An outlet's LED by its state (R25). -/
def OutletState.led : OutletState → Led
  | .off => .dark
  | .on => .steady
  | .tripped => .fastBlink
  | .claiming | .closing | .opening | .dwell | .shed => .slowBlink

/-- The LINK LED by the link state (R26). -/
def LinkState.led : LinkState → Led
  | .active => .steady
  | .joining | .linkDown => .slowBlink
  | .silent | .isolated => .dark

/-- Whether an indicator is lit at a board time; all of one board blink in step (R25). -/
def Led.litAt (t : BoardTime) : Led → Bool
  | .dark => false
  | .steady => true
  | .slowBlink => decide (t.toNat % 1000 < 500)
  | .fastBlink => decide (t.toNat % 250 < 125)

/-- Whether an outlet's LED is lit; every LED is dark while RST is asserted (R25, R28). -/
def State.outletLedLit (s : State) (o : OutletId) : Bool := !s.inReset && (s.outlet o).state.led.litAt s.boardTime

/-- Whether the LINK LED is lit (R26, R28). -/
def State.linkLedLit (s : State) : Bool := !s.inReset && s.link.state.led.litAt s.boardTime

/-- LOCK refuses SET PROTECT: it is honoured while the LKE sample shows the jumper installed (R23, R24). -/
def State.lockHonoured (s : State) : Bool := s.lke && s.lockSample

/-- The flags byte of a bank in a STATUS and in READ PEER: bit 0 SAG, bit 1 RECOVERING (11.2, 11.4). -/
def bankFlagsByte (sag recovering : Bool) : Nat := bitAt 0 sag + bitAt 1 recovering

end Sys2Proof.Machine
end

