-- ==== Sys2Proof/Machine/Wire.lean ====
section
/-! DEFINITION. The peer frame on the wire: kinds, classes and keys (R66), payload fields (11.4), the CRC (R190), and how a receiver judges the bits it reads (R70, R189). -/

namespace Sys2Proof.Machine

/-! Codes (11.4, 11.5). -/

def frameKindCode : FrameKind → Nat
  | .join => 1
  | .status => 2
  | .claim => 3
  | .forget => 4
  | .openGroup => 5
  | .groupOff => 6
  | .groupOn => 7
  | .groupAbort => 8

/-- The class of a kind (R66). -/
def frameClass : FrameKind → Nat
  | .groupAbort => 0
  | .status => 1
  | .claim => 2
  | .openGroup | .groupOff | .groupOn | .forget => 3
  | .join => 4

def frameKind : PeerFrame → FrameKind
  | .join _ => .join
  | .status _ => .status
  | .claim _ => .claim
  | .forget _ => .forget
  | .openGroup _ => .openGroup
  | .groupOff _ => .groupOff
  | .groupOn _ => .groupOn
  | .groupAbort _ => .groupAbort

/-- The codes of the abort reasons a GROUP-ABORT may carry (11.5). -/
def abortReasonCode : AbortReason → Nat
  | .host => 3
  | .offTimeout => 4
  | .peerLost => 5
  | .rosterLost => 6
  | .rejoined => 7

def policyCode : Policy → Nat
  | .strict => 0
  | .lenient => 1

/-- A tag is one byte, originator in bits 7–4, sequence number in bits 3–0 (11.2). -/
def tagByte (t : Tag) : Nat := t.station.val * 16 + t.seq.val

/-! The ranges of R189: a payload outside them is a framing error. -/

def Banked.all (p : Nat → Bool) (t : Banked Nat) : Bool := p t.a && p t.b && p t.c

def inRange (lo hi n : Nat) : Bool := decide (lo ≤ n) && decide (n ≤ hi)

def statusBankInRange (x : StatusBank) : Bool := inRange 0 5200 x.load && inRange 0 600 x.held && inRange 1 255 x.rank

/-- The payload lies in the ranges of 11.4 (R189). The group of a GROUP-OFF, GROUP-ON or GROUP-ABORT, beside which 11.4 gives no range, may be any
byte, 0 included (the model's choice, log 45). -/
def payloadInRange : PeerFrame → Bool
  | .join p => Banked.all (inRange 10 800) p.limits && Banked.all (inRange 0 600) p.helds && decide (p.groups.length ≤ 16) && p.groups.all (inRange 0 255)
  | .status p => statusBankInRange p.a && statusBankInRange p.b && statusBankInRange p.c
  | .claim p => inRange 1 600 p.amount
  | .forget _ => true
  | .openGroup p => inRange 1 255 p.group && inRange 1 600 p.dwell
  | .groupOff p => inRange 0 255 p.group && inRange 0 24 p.opened && inRange 0 24 p.held
  | .groupOn p => inRange 0 255 p.group && inRange 0 24 p.restored && inRange 0 24 p.failed
  | .groupAbort p => inRange 0 255 p.group

/-! Bits. Every number is sent most significant bit first (R189). -/

/-- The low `w` bits of `n`, most significant first. -/
def natBits : Nat → Nat → List Bool
  | 0, _ => []
  | w + 1, n => n.testBit w :: natBits w n

/-- The number whose bits, most significant first, are given. -/
def bitsNat (l : List Bool) : Nat := l.foldl (fun n b => 2 * n + b.toNat) 0

/-- A frame field: its width in bits and its value. -/
abbrev Field := Nat × Nat

def fieldBits (f : Field) : List Bool := natBits f.1 f.2

/-- The payload fields of 11.4, in order. -/
def payloadFields : PeerFrame → List Field
  | .join p =>
    [(48, p.serial.toNat), (8, p.map.a.val), (8, p.map.b.val), (8, p.map.c.val), (16, p.limits.a), (16, p.limits.b), (16, p.limits.c),
      (16, p.helds.a), (16, p.helds.b), (16, p.helds.c), (8, bitAt 7 p.replyRequested), (8, p.groups.length)] ++ p.groups.map (fun g => (8, g))
  | .status p =>
    [(16, p.a.load), (16, p.a.held), (8, p.a.rank), (8, bankFlagsByte p.a.sag p.a.recovering),
      (16, p.b.load), (16, p.b.held), (8, p.b.rank), (8, bankFlagsByte p.b.sag p.b.recovering),
      (16, p.c.load), (16, p.c.held), (8, p.c.rank), (8, bankFlagsByte p.c.sag p.c.recovering)]
  | .claim p => [(8, bankNo p.bank), (8, p.branch.val), (8, outletNo p.outlet), (16, p.amount)]
  | .forget k => [(8, k.val)]
  | .openGroup p => [(8, tagByte p.tag), (8, p.group), (16, p.dwell), (8, policyCode p.policy)]
  | .groupOff p => [(8, tagByte p.tag), (8, p.group), (8, p.opened), (8, p.held)]
  | .groupOn p => [(8, tagByte p.tag), (8, p.group), (8, p.restored), (8, p.failed)]
  | .groupAbort p => [(8, tagByte p.tag), (8, p.group), (8, abortReasonCode p.reason)]

def payloadBits (f : PeerFrame) : List Bool := (payloadFields f).flatMap fieldBits

/-- The payload length of a frame, in bytes (11.4). -/
def payloadLength : PeerFrame → Nat
  | .join p => 23 + p.groups.length
  | .status _ => 18
  | .claim _ => 5
  | .forget _ => 1
  | .openGroup _ => 5
  | .groupOff _ => 4
  | .groupOn _ => 4
  | .groupAbort _ => 3

/-- The arbitration key read as a number: class times 128, urgency times 16, station (R66). -/
def frameKey (urgency : Nat) (station : StationId) (k : FrameKind) : Nat := frameClass k * 128 + urgency * 16 + station.val

/-- The bits the CRC runs over: key, kind, length and payload (R66, R190). -/
def checkedBits (key : Nat) (f : PeerFrame) : List Bool :=
  natBits 10 key ++ natBits 4 (frameKindCode (frameKind f)) ++ natBits 6 (payloadLength f) ++ payloadBits f

/-- One bit of the CRC computation (R190). -/
def crcStep (r : BitVec 16) (b : Bool) : BitVec 16 :=
  if b ^^ r.getLsbD 15 then (r <<< 1) ^^^ 0x1021#16 else r <<< 1

/-- The CRC of a run of bits: the register starts at 0xFFFF (R190). -/
def crc16 (l : List Bool) : BitVec 16 := l.foldl crcStep 0xFFFF#16

/-- A frame as it is queued: its key and its CRC are fixed then (R67, R190). -/
def queuedFrame (urgency : Nat) (station : StationId) (f : PeerFrame) : QueuedFrame :=
  let key := frameKey urgency station (frameKind f)
  ⟨key, f, crc16 (checkedBits key f)⟩

/-- The bits of a queued frame from the key to the CRC, as sent on every attempt (R66, R190). -/
def QueuedFrame.bits (q : QueuedFrame) : List Bool := checkedBits q.key q.frame ++ natBits 16 q.crc.toNat

/-! How a receiver judges a frame (R70). -/

/-- What a receiver finds: a frame without error, from a station, or one of the three errors of R70. -/
inductive Verdict where
  | good (source : StationId) (frame : PeerFrame)
  | crcError
  | lengthError
  | framingError
  deriving DecidableEq, Repr

/-- The next field of `w` bits and the bits after it. -/
def readField (w : Nat) (l : List Bool) : Option (Nat × List Bool) :=
  if w ≤ l.length then some (bitsNat (l.take w), l.drop w) else none

/-- The next fields of the given widths and the bits after them. -/
def readFields : List Nat → List Bool → Option (List Nat × List Bool)
  | [], l => some ([], l)
  | w :: ws, l =>
    match readField w l with
    | none => none
    | some (n, l') =>
      match readFields ws l' with
      | none => none
      | some (ns, l'') => some (n :: ns, l'')

def kindOfCode : Nat → Option FrameKind
  | 1 => some .join
  | 2 => some .status
  | 3 => some .claim
  | 4 => some .forget
  | 5 => some .openGroup
  | 6 => some .groupOff
  | 7 => some .groupOn
  | 8 => some .groupAbort
  | _ => none

/-- The lengths a kind allows (11.4). -/
def lengthAllowed : FrameKind → Nat → Bool
  | .join, n => inRange 23 39 n
  | .status, n => decide (n = 18)
  | .claim, n => decide (n = 5)
  | .forget, n => decide (n = 1)
  | .openGroup, n => decide (n = 5)
  | .groupOff, n => decide (n = 4)
  | .groupOn, n => decide (n = 4)
  | .groupAbort, n => decide (n = 3)

def numberOf (n : Nat) : Option (Fin 16) := if h : n < 16 then some ⟨n, h⟩ else none

def bankOfCode : Nat → Option Bank
  | 0 => some .bankA
  | 1 => some .bankB
  | 2 => some .bankC
  | _ => none

/-- An outlet from its number, 1 to 24. -/
def outletOfNo (n : Nat) : Option OutletId := if h : 1 ≤ n ∧ n ≤ 24 then some ⟨n - 1, by omega⟩ else none

def policyOfCode : Nat → Option Policy
  | 0 => some .strict
  | 1 => some .lenient
  | _ => none

def abortReasonOfCode : Nat → Option AbortReason
  | 3 => some .host
  | 4 => some .offTimeout
  | 5 => some .peerLost
  | 6 => some .rosterLost
  | 7 => some .rejoined
  | _ => none

def tagOfByte (n : Nat) : Tag := ⟨Fin.ofNat 16 (n / 16), Fin.ofNat 16 n⟩

def statusBankOf (load held rank flags : Nat) : StatusBank := ⟨load, held, rank, flags.testBit 0, flags.testBit 1⟩

/-- The widths of the payload fields of a kind whose payload is `n` bytes long (11.4). -/
def payloadWidths : FrameKind → Nat → List Nat
  | .join, n => [48, 8, 8, 8, 16, 16, 16, 16, 16, 16, 8, 8] ++ List.replicate (n - 23) 8
  | .status, _ => [16, 16, 8, 8, 16, 16, 8, 8, 16, 16, 8, 8]
  | .claim, _ => [8, 8, 8, 16]
  | .forget, _ => [8]
  | .openGroup, _ => [8, 8, 16, 8]
  | .groupOff, _ => [8, 8, 8, 8]
  | .groupOn, _ => [8, 8, 8, 8]
  | .groupAbort, _ => [8, 8, 8]

/-- The payload a kind's field values spell, or none where a field is outside its coding (R189). Ignored flag bits are dropped. A branch byte of a JOIN
above 15, beside which 11.4 gives no range, is outside too, for R84 has branch numbers 0 to 15 only (the model's choice, log 48). -/
def payloadOf : FrameKind → List Nat → Option PeerFrame
  | .join, serial :: ma :: mb :: mc :: la :: lb :: lc :: ha :: hb :: hc :: flags :: _ :: groups =>
    match numberOf ma, numberOf mb, numberOf mc with
    | some a, some b, some c => some (.join ⟨BitVec.ofNat 48 serial, ⟨a, b, c⟩, ⟨la, lb, lc⟩, ⟨ha, hb, hc⟩, flags.testBit 7, groups⟩)
    | _, _, _ => none
  | .status, [l1, h1, r1, f1, l2, h2, r2, f2, l3, h3, r3, f3] =>
    some (.status ⟨statusBankOf l1 h1 r1 f1, statusBankOf l2 h2 r2 f2, statusBankOf l3 h3 r3 f3⟩)
  | .claim, [b, n, o, amount] =>
    match bankOfCode b, numberOf n, outletOfNo o with
    | some b, some n, some o => some (.claim ⟨b, n, o, amount⟩)
    | _, _, _ => none
  | .forget, [k] => (numberOf k).map .forget
  | .openGroup, [t, g, d, p] => (policyOfCode p).map (fun p => .openGroup ⟨tagOfByte t, g, d, p⟩)
  | .groupOff, [t, g, o, h] => some (.groupOff ⟨tagOfByte t, g, o, h⟩)
  | .groupOn, [t, g, r, f] => some (.groupOn ⟨tagOfByte t, g, r, f⟩)
  | .groupAbort, [t, g, r] => (abortReasonOfCode r).map (fun r => .groupAbort ⟨tagOfByte t, g, r⟩)
  | _, _ => none

/-- A JOIN whose length does not agree with its group count is a length error (R87). -/
def lengthAgrees : FrameKind → List Nat → Nat → Bool
  | .join, ns, len => decide (ns[11]? = some (len - 23))
  | _, _, _ => true

/-- The judgement of a frame's payload bits and CRC, its header read (R70, R190). -/
def judgePayload (all : List Bool) (source : StationId) (k : FrameKind) (len : Nat) (rest : List Bool) : Verdict :=
  match readFields (payloadWidths k len) rest with
  | none => .lengthError
  | some (ns, tail) =>
    match readField 16 tail with
    | none => .framingError
    | some (crc, _) =>
      if crc ≠ (crc16 (all.take (20 + 8 * len))).toNat then .crcError
      else if !lengthAgrees k ns len then .lengthError
      else
        match payloadOf k ns with
        | none => .framingError
        | some f => if payloadInRange f then .good source f else .framingError

/-- How a receiver judges the bits it read, from the key to the CRC (R70, R189, R190). -/
def judge (l : List Bool) : Verdict :=
  match readFields [3, 3, 4, 4, 6] l with
  | some ([cls, _, source, code, len], rest) =>
    match kindOfCode code with
    | none => .framingError
    | some k =>
      if cls ≠ frameClass k then .framingError
      else if !lengthAllowed k len then .lengthError
      else judgePayload l (Fin.ofNat 16 source) k len rest
  | _ => .framingError

/-- The receiver finds the frame in error (R70). -/
def inError (l : List Bool) : Bool :=
  match judge l with
  | .good _ _ => false
  | _ => true

end Sys2Proof.Machine
end

