-- ==== Sys2Proof/Machine/Operands.lean ====
section
/-! DEFINITION. The operand forms of the host commands: frame lengths (R174, R175, 11.2), the coding and ranges of argument bytes (R163 to R168, R189), and the coding of values in replies (11.5). -/

namespace Sys2Proof.Machine

/-! Frame lengths (11.2). -/

/-- The command codes of 11.2. -/
def commandCodes : List Nat :=
  [0x01, 0x02, 0x03, 0x04, 0x05, 0x06, 0x07, 0x10, 0x11, 0x12, 0x13, 0x14, 0x15, 0x16, 0x17, 0x20, 0x21, 0x22, 0x23, 0x24, 0x25]

def isCommandCode (c : Byte) : Bool := commandCodes.contains c.toNat

/-- The argument bytes of a read (11.2). -/
def readArgBytes : ReadRequest → Nat
  | .status => 0
  | .outlet _ _ => 2
  | .bank _ => 1
  | .peer _ => 1
  | .group _ => 1
  | .event => 0
  | .result => 0

/-- The reply bytes of a read (11.2). -/
def readReplyBytes : ReadRequest → Nat
  | .status => 21
  | .outlet _ _ => 37
  | .bank _ => 89
  | .peer _ => 57
  | .group _ => 70
  | .event => 12
  | .result => 3

/-- A read frame is long enough to hold its command byte and its arguments, so that its reply is captured (R174). -/
def readCaptures (bits : Nat) (r : ReadRequest) : Bool := decide (8 * (1 + readArgBytes r) ≤ bits)

/-- The length check of R175 for a read: whole bytes, and no fewer than its command byte, its arguments and its whole reply. -/
def readLengthOk (bits : Nat) (r : ReadRequest) : Bool :=
  decide (bits % 8 = 0) && decide (8 * (1 + readArgBytes r + readReplyBytes r) ≤ bits)

/-- The length check of R175 for a command that is not a read: exactly its command byte plus its `args` argument bytes. -/
def actionLengthOk (bits args : Nat) : Bool := decide (bits = 8 * (1 + args))

/-! Argument bytes. -/

/-- An outlet argument, 1 to 24. -/
def outletArg (x : Byte) : Option OutletId := outletOfNo x.toNat

/-- A bank argument, 0 to 2. -/
def bankArg (x : Byte) : Option Bank := bankOfCode x.toNat

/-- A station argument, 0 to 15. -/
def stationArg (x : Byte) : Option StationId := numberOf x.toNat

/-- The position of the first field out of range, counted from 1 (R163, R189). -/
def firstOut : List Bool → Option Nat
  | [] => none
  | ok :: rest => if ok then (firstOut rest).map (· + 1) else some 1

/-- The field checks of SET BOARD (R164, 11.2); the event mask is never out of range (R189). -/
def boardChecks (x : BoardArgs) : List Bool :=
  [inRange 1000 2500 x.nominal.toNat, inRange 60 90 x.sagPercent.toNat, inRange 5 300 x.recoveryWait.toNat, inRange 5 120 x.offGather.toNat,
    inRange 30 900 x.onGather.toNat, inRange 10 600 x.claimWait.toNat]

/-- What SET BOARD sets; mask bits that name no kind are ignored (R189). -/
def boardOf (x : BoardArgs) : BoardConfig :=
  ⟨x.nominal.toNat, x.sagPercent.toNat, x.recoveryWait.toNat, x.offGather.toNat, x.onGather.toNat, x.claimWait.toNat, x.eventMask &&& allKinds⟩

/-- The field checks of SET BANK after its item number (R165, 11.2). -/
def bankChecks (x : BankArgs) : List Bool := [inRange 0 15 x.branch.toNat, inRange 10 800 x.limit.toNat, inRange 0 1 x.sagShed.toNat]

def bankOfArgs (x : BankArgs) : BankConfig := ⟨Fin.ofNat 16 x.branch.toNat, x.limit.toNat, decide (x.sagShed = 1)⟩

/-- The field checks of SET PROFILE after its item number (R4, R166, 11.2). -/
def profileChecks (x : ProfileArgs) : List Bool :=
  [inRange 0 2 x.alignment.toNat, inRange 1 8 x.alignLimit.toNat, inRange 5 100 x.coilPulse.toNat, inRange 10 500 x.settle.toNat,
    inRange 1 600 x.inrush.toNat, inRange 1 4 x.absorb.toNat]

def alignmentOf (n : Nat) : Alignment := if n = 0 then .none else if n = 1 then .zero else .strict

def profileOf (x : ProfileArgs) : Profile :=
  ⟨alignmentOf x.alignment.toNat, x.alignLimit.toNat, x.coilPulse.toNat, x.settle.toNat, x.inrush.toNat, x.absorb.toNat⟩

/-- The field checks of SET OUTLET after its item number (R1, R167, 11.2). -/
def outletChecks (x : OutletArgs) : List Bool :=
  [inRange 0 3 x.profile.toNat, inRange 0 255 x.group.toNat, inRange 5 200 x.tripThreshold.toNat, inRange 0 1 x.startState.toNat,
    inRange 0 255 x.restoreOrder.toNat, inRange 1 255 x.shedRank.toNat]

def outletOfArgs (x : OutletArgs) : OutletConfig :=
  ⟨Fin.ofNat 4 x.profile.toNat, x.group.toNat, x.tripThreshold.toNat, decide (x.startState = 1), x.restoreOrder.toNat, x.shedRank.toNat⟩

/-- The field checks of SET GROUP after its item number (R168, 11.2). -/
def groupChecks (x : GroupArgs) : List Bool := [inRange 1 600 x.dwell.toNat, inRange 0 1 x.policy.toNat]

def policyOfByte (x : Byte) : Policy := if x = 0 then .strict else .lenient

/-! The codes of 11.5 used in replies and events. -/

def resultCode : ResultCode → Nat
  | .ok => 0
  | .badArg => 1
  | .phase => 2
  | .protectedSet => 3
  | .tripped => 4
  | .busy => 5
  | .badState => 6
  | .inCycle => 7
  | .notMember => 8
  | .rosterLost => 9
  | .late => 10
  | .locked => 11
  | .peerLive => 12
  | .linkBusy => 13
  | .linkDown => 14
  | .groupFull => 15
  | .configInvalid => 16

def outletStateCode : OutletState → Nat
  | .off => 0
  | .claiming => 1
  | .closing => 2
  | .on => 3
  | .opening => 4
  | .dwell => 5
  | .shed => 6
  | .tripped => 7

def subPhaseCode : Option SubPhase → Nat
  | none => 0
  | some .align => 1
  | some .coil => 2
  | some .settle => 3

def hostTargetCode : HostTarget → Nat
  | .none => 0
  | .on => 1
  | .off => 2

def lineStateCode : LineState → Nat
  | .normal => 0
  | .sag => 1
  | .recovering => 2

def linkStateCode : LinkState → Nat
  | .silent => 0
  | .joining => 1
  | .active => 2
  | .linkDown => 3
  | .isolated => 4

def entryStateCode : EntryState → Nat
  | .absent => 0
  | .live => 1
  | .lost => 2

def claimStateCode : ClaimState → Nat
  | .none => 0
  | .sent => 1
  | .granted => 2

def endingMarkCode : EndingMark → Nat
  | .none => 0
  | .released => 1
  | .dropped => 2

def overloadStateCode : OverloadState → Nat
  | .clear => 0
  | .overOnce => 1
  | .hold => 2

def cyclePhaseCode : CyclePhase → Nat
  | .offPhase => 0
  | .dwell => 1
  | .onPhase => 2
  | .restoringAbort => 3
  | .done => 4

def memberStatusCode : MemberStatus → Nat
  | .held => 1
  | .opening => 2
  | .opened => 3
  | .off => 4
  | .restoring => 5
  | .restored => 6
  | .failed => 7

def endReasonCode : EndReason → Nat
  | .host => 3
  | .offTimeout => 4
  | .peerLost => 5
  | .rosterLost => 6
  | .rejoined => 7
  | .held => 8
  | .link => 9

def outcomeCode : CycleOutcome → Nat
  | .complete => 1
  | .incomplete => 2
  | .aborted r => endReasonCode r

def endReasonOf : AbortReason → EndReason
  | .host => .host
  | .offTimeout => .offTimeout
  | .peerLost => .peerLost
  | .rosterLost => .rosterLost
  | .rejoined => .rejoined

end Sys2Proof.Machine
end

