-- ==== Sys2Proof/Machine/Figures.lean ====
section
/-! DEFINITION. The figures of the budget: bank load (R36), reported held claim (R106), shed candidates (R127), the STATUS and JOIN a station composes (R87, R95), and the branch totals (R103, R125). -/

namespace Sys2Proof.Machine

/-- What an outlet adds to its bank load, in 0.01 A (R36). -/
def Meter.share (m : Meter) : Nat :=
  match m.undisturbed, m.record with
  | some a, _ => a
  | none, some r => r.amps
  | none, none => 0

/-- The bank load, in 0.1 A, the sum rounded up (R36). -/
def State.bankLoad (s : State) (b : Bank) : Nat := (((bankOutlets b).map (fun o => (s.meter o).share)).sum + 9) / 10

/-- The held claim the budget unit reports for a bank (R106). -/
def Claim.reported (c : Claim) : Nat := if c.state = .granted ∧ c.ending = .none then c.amount else 0

/-- An outlet is a shed candidate (R127). -/
def Outlet.isCandidate (x : Outlet) : Bool :=
  decide (x.state = .on) && !x.isProtected && decide (x.cycle ≠ .group) && inRange 1 254 x.cfg.shedRank

/-- The lowest shed rank among a bank's candidates, 255 when it has none (R127). -/
def State.bankRank (s : State) (b : Bank) : Nat :=
  (((bankOutlets b).filter (fun o => (s.outlet o).isCandidate)).map (fun o => (s.outlet o).cfg.shedRank)).foldl min 255

/-- What a STATUS composed now says of a bank (R95). -/
def State.statusBank (s : State) (b : Bank) : StatusBank :=
  ⟨s.bankLoad b, (s.claim b).reported, s.bankRank b, decide ((s.line b).state = .sag), decide ((s.line b).state = .recovering)⟩

/-- A STATUS composed now (R95). -/
def State.composeStatus (s : State) : PeerFrame := .status (Banked.build s.statusBank)

/-- A JOIN composed now (R87). -/
def State.composeJoin (s : State) (replyRequested : Bool) : PeerFrame :=
  .join
    { serial := s.serial
      map := s.banks.map (·.branch)
      limits := s.banks.map (·.limit)
      helds := s.claims.map (·.reported)
      replyRequested := replyRequested
      groups := s.groups.map (·.group) }

/-- An entry counts in totals, rosters and conflict checks while it is LIVE or LOST (R99, R103). -/
def Peer.known (p : Peer) : Bool := decide (p.state ≠ .absent)

/-- The map of an entry sends a bank to branch `n` (R103). -/
def Peer.onBranch (p : Peer) (n : BranchId) (b : Bank) : Bool :=
  match p.info with
  | none => false
  | some i => p.known && decide (i.map.get b = n)

/-- The sum of `f` over the entry's banks on branch `n`. -/
def Peer.sumOn (p : Peer) (n : BranchId) (f : Bank → Nat) : Nat := ((allBanks.filter (p.onBranch n)).map f).sum

/-- The figure at which a total saturates, 1 638.4 A (R103). -/
def totalCeiling : Nat := 16384

/-- The branch total T(n), in 0.1 A (R103). -/
def State.branchTotal (s : State) (n : BranchId) : Nat :=
  min totalCeiling ((s.peers.cells.map (fun p => p.sumOn n (fun b => p.loads.get b + p.helds.get b))).sum)

/-- The load total L(n), in 0.1 A (R125). -/
def State.branchLoad (s : State) (n : BranchId) : Nat :=
  min totalCeiling ((s.peers.cells.map (fun p => p.sumOn n (fun b => p.loads.get b))).sum)

/-- The members of group `g` at this station, in outlet number order (R136). -/
def State.members (s : State) (g : Nat) : List OutletId := allOutlets.filter (fun o => decide ((s.outlet o).cfg.group = g))

/-- The number of entries in a state, the station's own not counted (R83, R180). -/
def State.peersIn (s : State) (e : EntryState) : Nat :=
  (allNumbers.filter (fun k => decide (k ≠ s.station) && decide ((s.peer k).state = e))).length

end Sys2Proof.Machine
end

