-- ==== Sys2Proof/Machine/Queue.lean ====
section
/-! DEFINITION. The transmit queue of the link controller: offering, replacing, removing and composing again (R75 to R78, R95). -/

namespace Sys2Proof.Machine

/-- The frame stands in the place reserved for its kind, STATUS or JOIN (R75). -/
def isReserved (f : PeerFrame) : Bool := decide (frameKind f = .status) || decide (frameKind f = .join)

/-- The frames of the other kinds the queue has room for (R75). -/
def ordinaryCapacity : Nat := 30

def ordinaryCount (q : List QueuedFrame) : Nat := (q.filter (fun x => !isReserved x.frame)).length

/-- A frame's place in the queue: by key, lowest first, and behind frames of its own key (R75). -/
def insertByKey (x : QueuedFrame) : List QueuedFrame → List QueuedFrame
  | [] => [x]
  | y :: ys => if x.key < y.key then x :: y :: ys else y :: insertByKey x ys

/-- The link state takes frames other than STATUS and JOIN (R75). -/
def LinkState.takesFrames : LinkState → Bool
  | .joining | .active => true
  | .silent | .linkDown | .isolated => false

/-- The link state takes STATUS and JOIN into their reserved places (R75). -/
def LinkState.takesReserved : LinkState → Bool
  | .joining | .active | .linkDown => true
  | .silent | .isolated => false

/-- A frame other than STATUS or JOIN would be taken now (R75, R78). -/
def State.queueHasRoom (s : State) : Bool := s.link.state.takesFrames && decide (ordinaryCount s.link.queue < ordinaryCapacity)

/-- The result of a host command whose frame was not taken (R78). -/
def State.notTakenCode (s : State) : ResultCode := if s.link.state.takesFrames then .linkBusy else .linkDown

/-- A frame put into the queue at its place, with its key and CRC fixed (R67, R75, R190). -/
def State.insertFrame (s : State) (urgency : Nat) (f : PeerFrame) : State :=
  s.modLink (fun l => { l with queue := insertByKey (queuedFrame urgency s.station f) l.queue })

/-- A frame other than STATUS or JOIN offered to the queue: the state with it, or none where it is not taken (R75, R78). -/
def State.offer (s : State) (urgency : Nat) (f : PeerFrame) : Option State :=
  if s.queueHasRoom then some (s.insertFrame urgency f) else none

/-- The urgency of every kind but CLAIM (R67). -/
def plainUrgency : Nat := 7

/-- A replacing JOIN asks for replies when either did (R76). -/
def mergeJoin (old new : PeerFrame) : PeerFrame :=
  match old, new with
  | .join p, .join q => .join { q with replyRequested := p.replyRequested || q.replyRequested }
  | _, _ => new

/-- The unsent frame of a reserved kind (R76). -/
def reservedIn (q : List QueuedFrame) (k : FrameKind) : Option QueuedFrame := q.find? (fun x => decide (frameKind x.frame = k))

/-- A STATUS or JOIN taken into its reserved place, replacing the unsent one there (R76). -/
def State.replaceReserved (s : State) (f : PeerFrame) : State :=
  let f' := match reservedIn s.link.queue (frameKind f) with
    | some x => mergeJoin x.frame f
    | none => f
  (s.modLink (fun l => { l with queue := l.queue.filter (fun x => decide (frameKind x.frame ≠ frameKind f)) })).insertFrame plainUrgency f'

/-- A STATUS or JOIN offered: taken, waiting for the end of the attempt of the frame it replaces, or not queued (R75, R76, R78). -/
def State.offerReserved (s : State) (f : PeerFrame) : State :=
  if s.link.state.takesReserved then
    match s.link.sending with
    | some a =>
      if frameKind a.frame.frame = frameKind f then
        let f' := match a.replacement with
          | some old => mergeJoin old f
          | none => f
        s.modLink (fun l => { l with sending := some { a with replacement := some f' } })
      else s.replaceReserved f
    | none => s.replaceReserved f
  else s

/-- A STATUS composed and offered: scheduled (R93) or prompt (R94). -/
def State.offerStatus (s : State) : State := s.offerReserved s.composeStatus

/-- A JOIN composed and offered (R87). -/
def State.offerJoin (s : State) (replyRequested : Bool) : State := s.offerReserved (s.composeJoin replyRequested)

/-- The station's own unsent STATUS and JOIN composed again in their reserved places, the JOIN keeping its flag (R95, R112). -/
def State.recompose (s : State) : State :=
  let s1 := if (reservedIn s.link.queue .status).isSome then s.offerStatus else s
  if (reservedIn s.link.queue .join).isSome then s1.offerJoin false else s1

/-- The frame is the one an attempt is in progress of. -/
def State.isSending (s : State) (x : QueuedFrame) : Bool :=
  match s.link.sending with
  | some a => decide (a.frame = x)
  | none => false

/-- Unsent frames removed; the removal of the one being sent waits for the end of its attempt (R77). -/
def State.removeFrames (s : State) (p : PeerFrame → Bool) : State :=
  s.modLink (fun l =>
    { l with
      queue := l.queue.filter (fun x => !p x.frame || s.isSending x)
      sending := l.sending.map (fun a => if p a.frame.frame then { a with removeAfter := true } else a) })

/-- The frame is the CLAIM of a bank. -/
def isClaimOf (b : Bank) : PeerFrame → Bool
  | .claim p => decide (p.bank = b)
  | _ => false

/-- An attempt of the bank's CLAIM is in progress (R113). -/
def State.sendingClaim (s : State) (b : Bank) : Bool :=
  match s.link.sending with
  | some a => isClaimOf b a.frame.frame
  | none => false

/-- The frame is an OPEN-GROUP, GROUP-OFF or GROUP-ON of a tag (R77). -/
def isCycleFrameOf (t : Tag) : PeerFrame → Bool
  | .openGroup p => decide (p.tag = t)
  | .groupOff p => decide (p.tag = t)
  | .groupOn p => decide (p.tag = t)
  | _ => false

/-- The frame is a GROUP-ABORT of a tag (R77). -/
def isAbortOf (t : Tag) : PeerFrame → Bool
  | .groupAbort p => decide (p.tag = t)
  | _ => false

end Sys2Proof.Machine
end

