-- ==== Sys2Proof/Machine/Budget.lean ====
section
/-! DEFINITION. The budget unit: closure queues (R104), own claim records (R105), issuing (R107), retry (R108, R109), withdrawal (R113), the grant rule (R110), absorb, release and drop (R117 to R119). -/

namespace Sys2Proof.Machine

/-! Closure queues (R104). -/

/-- An outlet's place in a list ordered by restore order, behind those of its own order (R104, R60). -/
def insertByOrder (order : OutletId → Nat) (o : OutletId) : List OutletId → List OutletId
  | [] => [o]
  | x :: xs => if order o < order x then o :: x :: xs else x :: insertByOrder order o xs

def State.restoreOrder (s : State) (o : OutletId) : Nat := (s.outlet o).cfg.restoreOrder

/-- Outlets in restore order, those of equal order as listed (R60, R148, R154, R171). -/
def State.inRestoreOrder (s : State) (l : List OutletId) : List OutletId :=
  l.foldl (fun q o => insertByOrder s.restoreOrder o q) []

/-- An outlet joins its bank's closure queue, at most once (R104). -/
def State.joinQueue (s : State) (o : OutletId) : State :=
  if (s.queue (bankOf o)).contains o then s
  else s.setQueue (bankOf o) (insertByOrder s.restoreOrder o (s.queue (bankOf o)))

/-- An outlet leaves its bank's closure queue, and a retry wait that names it returns to none (R104, R108). -/
def State.leaveQueue (s : State) (o : OutletId) : State :=
  (s.setQueue (bankOf o) ((s.queue (bankOf o)).filter (fun x => decide (x ≠ o)))).modClaim (bankOf o)
    (fun c => if c.retryWait = some o then { c with retryWait := none } else c)

/-! The own claim record (R105). -/

/-- The record returns to NONE; the denial count is kept (R113, R118). The amount is kept too, and the absorb count is 0 after a drop or a withdrawal
as well, where R118 gives the 0 for a release only (the model's choice, log 27). -/
def Claim.toNone (c : Claim) : Claim :=
  { c with state := .none, outlet := none, withdrawn := false, ending := .none, absorbCount := 0, retryWait := none }

/-- A SENT claim of a bank is withdrawn: at once if its CLAIM is unsent, else at the end of the attempt (R113). -/
def State.withdrawClaim (s : State) (b : Bank) : State :=
  if (s.claim b).state = .sent then
    if s.sendingClaim b then (s.removeFrames (isClaimOf b)).modClaim b (fun c => { c with withdrawn := true })
    else (s.removeFrames (isClaimOf b)).modClaim b Claim.toNone
  else s

/-- An outlet leaves CLAIMING otherwise than by its grant: out of the queue, a SENT claim for it withdrawn (R6, R113). -/
def State.leaveClaiming (s : State) (o : OutletId) : State :=
  let s1 := if (s.claim (bankOf o)).outlet = some o then s.withdrawClaim (bankOf o) else s
  s1.leaveQueue o

/-- The bank's claim is GRANTED for this outlet and not yet ending. -/
def Claim.holds (c : Claim) (o : OutletId) : Bool := decide (c.state = .granted ∧ c.outlet = some o ∧ c.ending = .none)

/-- A GRANTED claim for the outlet takes the ending mark DROPPED, no STATUS offered yet (R56, R119). -/
def State.markDropped (s : State) (o : OutletId) : State :=
  if (s.claim (bankOf o)).holds o then s.modClaim (bankOf o) (fun c => { c with ending := .dropped }) else s

/-- A GRANTED claim for the outlet is dropped: marked, and a prompt STATUS offered (R119). -/
def State.dropClaim (s : State) (o : OutletId) : State :=
  if (s.claim (bankOf o)).holds o then (s.markDropped o).offerStatus else s

/-- The urgency of a CLAIM of a bank (R67). -/
def Claim.urgency (c : Claim) : Nat := 7 - c.denials

/-- The conditions of R107 for a bank whose queue's head is `head`. -/
def State.mayIssue (s : State) (b : Bank) (head : OutletId) : Bool :=
  decide (s.phase = .running) && decide (s.link.state = .active) && decide ((s.claim b).state = .none) && !s.isHeld b &&
    decide ((s.claim b).retryWait ≠ some head)

/-- A bank issues its claim if every condition of R107 holds; a CLAIM not taken sets the retry wait (R78, R107). -/
def State.issueClaim (s : State) (b : Bank) : State :=
  match s.queue b with
  | [] => s
  | head :: _ =>
    if s.mayIssue b head then
      match s.offer (s.claim b).urgency (.claim ⟨b, (s.bank b).branch, head, (s.profile head).inrush⟩) with
      | some s' =>
        s'.modClaim b (fun c =>
          { c with
            state := .sent, outlet := some head, amount := (s.profile head).inrush, absorbTarget := (s.profile head).absorb,
            absorbCount := 0, withdrawn := false, retryWait := none })
      | none => s.modClaim b (fun c => { c with retryWait := some head })
    else s

/-- Claims that have become issuable are offered in bank order (R107, log 18). -/
def State.issueClaims (s : State) : State := ((s.issueClaim .bankA).issueClaim .bankB).issueClaim .bankC

/-! Retry triggers (R109). -/

/-- A retry trigger for branch `n` clears the retry wait of every own bank on it (R109). -/
def State.clearRetry (s : State) (n : BranchId) : State :=
  { s with claims := Banked.build (fun b => if (s.bank b).branch = n then { s.claim b with retryWait := none } else s.claim b) }

/-- The retry triggers a frame gives: the branches that satisfy `p`, among those the station uses (R109). -/
def State.triggerRetries (s : State) (p : BranchId → Bool) : State :=
  allNumbers.foldl (fun t n => if t.uses n && p n then t.clearRetry n else t) s

/-! Verdicts (R110 to R112). -/

/-- The map of the claimant's entry sends the bank to the branch, the entry being LIVE or LOST (R110). -/
def State.claimPassesChecks (s : State) (source : StationId) (p : ClaimPayload) : Bool := (s.peer source).onBranch p.branch p.bank

/-- The grant rule at a station that uses the branch (R110). -/
def State.grantRule (s : State) (source : StationId) (p : ClaimPayload) : Bool :=
  !hasNumber s.conflicts p.branch &&
    decide (s.branchTotal p.branch - (s.peer source).helds.get p.bank + p.amount ≤ s.ownLimit p.branch)

/-- GRANTED, at a station that uses the branch (R110). -/
def State.verdict (s : State) (source : StationId) (p : ClaimPayload) : Bool := s.claimPassesChecks source p && s.grantRule source p

/-- The held claim of an entry's bank is set (R110, R111). -/
def State.setHeld (s : State) (k : StationId) (b : Bank) (amount : Nat) : State :=
  s.modPeer k (fun e => { e with helds := e.helds.set b amount })

/-- The table after a CLAIM: a grant recorded by a user of the branch, and by a station that does not use it without judging (R110, R111). -/
def State.recordClaim (s : State) (source : StationId) (p : ClaimPayload) : State :=
  if s.claimPassesChecks source p then
    if s.uses p.branch then (if s.grantRule source p then s.setHeld source p.bank p.amount else s)
    else s.setHeld source p.bank p.amount
  else s

/-- A DENIED verdict on the own claim (R112). -/
def Claim.denied (o : OutletId) (c : Claim) : Claim :=
  if c.withdrawn then c.toNone
  else { c.toNone with denials := min 7 (c.denials + 1), retryWait := some o }

/-! Absorb, release and the end of a claim (R117, R118). -/

/-- A window of the bank ended: an absorb window is counted if it was undisturbed for the claimed outlet and the outlet is ON; on reaching
the target the claim is RELEASED and a prompt STATUS offered (R117, R118). `clean o` says the window was undisturbed for `o`. -/
def State.absorbWindow (s : State) (b : Bank) (clean : OutletId → Bool) : State :=
  match (s.claim b).outlet with
  | none => s
  | some o =>
    if (s.claim b).holds o && decide ((s.outlet o).state = .on) && clean o then
      if (s.claim b).absorbCount + 1 < (s.claim b).absorbTarget then
        s.modClaim b (fun c => { c with absorbCount := c.absorbCount + 1 })
      else (s.modClaim b (fun c => { c with absorbCount := c.absorbCount + 1, ending := .released })).offerStatus
    else s

/-- The own STATUS that carries the zero of an ending claim ends it (R118, R119). -/
def State.endClaims (s : State) (p : Banked StatusBank) : State :=
  { s with
    claims := Banked.build (fun b =>
      let c := s.claim b
      if c.state = .granted ∧ c.ending ≠ .none ∧ (p.get b).held = 0 then c.toNone else c) }

/-- The link is down: every SENT claim is withdrawn locally, its denial count kept (R82, R113). -/
def State.withdrawAllSent (s : State) : State :=
  { s with claims := s.claims.map (fun c => if c.state = .sent then c.toNone else c) }

end Sys2Proof.Machine
end

