-- ==== Sys2Proof/Machine/Switching.lean ====
section
/-! DEFINITION. The outlet switch unit: the relay table (R2), placing an outlet in a state, the closing and opening sequences (R5 to R15), and the host target (R21). -/

namespace Sys2Proof.Machine

/-- The relay command that a state and sub-phase fix (R2). -/
def relayFor : OutletState → Option SubPhase → RelayCommand
  | .on, _ => .closed
  | .closing, some .coil => .closed
  | .closing, some .settle => .closed
  | _, _ => .opened

/-- The coil drive that a state and sub-phase fix (R2). -/
def coilFor : OutletState → Option SubPhase → CoilDrive
  | .on, _ => .hold
  | .closing, some .coil => .pulse
  | .closing, some .settle => .hold
  | .opening, some .align => .hold
  | _, _ => .off

/-- A record put in a state: the relay follows R2, pending-off does not outlive CLOSING (R12), the claim-wait timer runs from 0 in CLAIMING
and is stopped elsewhere (R6), and the state timer is stopped until it is loaded. -/
def Outlet.place (st : OutletState) (sub : Option SubPhase) (x : Outlet) : Outlet :=
  { x with
    state := st
    sub := sub
    relay := relayFor st sub
    coil := coilFor st sub
    pendingOff := x.pendingOff && decide (st = .closing)
    claimWait := if st = .claiming then (if x.state = .claiming then x.claimWait else some 0) else none
    stateTimer := none }

/-- A move of an outlet as the metering engine sees it: CLOSING and OPENING disturb the running window (R35), and the over-count is 0
unless the outlet was and stays live (R42). -/
def Meter.follow (wasLive isLive : Bool) (st : OutletState) (m : Meter) : Meter :=
  { m with
    overCount := if wasLive && isLive then m.overCount else 0
    disturbed := m.disturbed || decide (st = .closing) || decide (st = .opening) }

/-- An outlet enters a state and sub-phase (R2, R3, R12, R35, R42). -/
def State.place (s : State) (o : OutletId) (st : OutletState) (sub : Option SubPhase) : State :=
  (s.modOutlet o (Outlet.place st sub)).modMeter o
    (Meter.follow (s.outlet o).live ((s.outlet o).place st sub).live st)

def State.loadTimer (s : State) (o : OutletId) (ms : Nat) : State := s.modOutlet o (fun x => { x with stateTimer := some ms })

def State.setUnaligned (s : State) (o : OutletId) (v : Bool) : State := s.modOutlet o (fun x => { x with unalignedLast := v })

def State.setTarget (s : State) (o : OutletId) (t : HostTarget) : State := s.modOutlet o (fun x => { x with target := t })

def State.setRestore (s : State) (o : OutletId) (v : Bool) : State := s.modOutlet o (fun x => { x with restoreIntent := v })

def State.setCycle (s : State) (o : OutletId) (c : CycleMember) : State := s.modOutlet o (fun x => { x with cycle := c })

def State.setPendingOff (s : State) (o : OutletId) : State := s.modOutlet o (fun x => { x with pendingOff := true })

/-- A local cycle-member is reset to none; another is kept (R18, R44). -/
def Outlet.endLocal (x : Outlet) : Outlet :=
  match x.cycle with
  | .localCycle _ => { x with cycle := .none }
  | _ => x

def State.endLocal (s : State) (o : OutletId) : State := s.modOutlet o Outlet.endLocal

/-- The host target is met in the state it names: SWITCH-DONE is queued and the target returns to NONE (R21). -/
def State.meetTarget (s : State) (o : OutletId) : State :=
  match (s.outlet o).state, (s.outlet o).target with
  | .on, .on => (s.setTarget o .none).post .switchDone (outletNo o) 1 0
  | .off, .off => (s.setTarget o .none).post .switchDone (outletNo o) 0 0
  | _, _ => s

/-- An outlet enters OFF, which meets a target of OFF (R15, R21). -/
def State.enterOff (s : State) (o : OutletId) : State := (s.place o .off none).meetTarget o

/-- An outlet enters CLAIMING and its bank's closure queue (R6). -/
def State.enterClaiming (s : State) (o : OutletId) : State := (s.place o .claiming none).joinQueue o

/-- The align limit of an outlet's profile in ms: half-cycles of the bank's latest line record, or of 10.0 ms (R5). -/
def State.alignLimit (s : State) (o : OutletId) : Nat :=
  match (s.window (bankOf o)).line with
  | some r => if r.noLine then 10 * (s.profile o).alignLimit else 50000 * (s.profile o).alignLimit / r.frequency
  | none => 10 * (s.profile o).alignLimit

/-- Entry into ALIGN of a closing or an opening: the state timer times the align limit (R5, R8, R14). -/
def State.startAlign (s : State) (o : OutletId) (st : OutletState) : State :=
  (s.place o st (some .align)).modOutlet o
    (fun x => { x with stateTimer := some (s.alignLimit o), alignLimitMs := s.alignLimit o, alignPeak := 0 })

/-- Entry into COIL (R9). -/
def State.startCoil (s : State) (o : OutletId) : State := (s.place o .closing (some .coil)).loadTimer o (s.profile o).coilPulse

/-- Entry into SETTLE of a closing (R9). -/
def State.startClosingSettle (s : State) (o : OutletId) : State := (s.place o .closing (some .settle)).loadTimer o (s.profile o).settle

/-- Entry into SETTLE of an opening: the coil drive is removed (R13, R14). -/
def State.startOpeningSettle (s : State) (o : OutletId) : State := (s.place o .opening (some .settle)).loadTimer o (s.profile o).settle

/-- A granted outlet enters CLOSING: out of the queue, then ALIGN or COIL by its alignment (R7). -/
def State.enterClosing (s : State) (o : OutletId) : State :=
  match (s.profile o).alignment with
  | .none => (s.leaveQueue o).startCoil o
  | .zero | .strict => (s.leaveQueue o).startAlign o .closing

/-- An outlet enters OPENING, ALIGN or SETTLE by its alignment; a claim held for it is dropped (R13, R119). -/
def State.enterOpening (s : State) (o : OutletId) : State :=
  match (s.profile o).alignment with
  | .none => (s.startOpeningSettle o).dropClaim o
  | .zero | .strict => (s.startAlign o .opening).dropClaim o

/-- The state an abandoned or failed closing with pending-off ends in: DWELL when restore-intent is set and OFF otherwise (R11, R12). -/
def State.endPendingOff (s : State) (o : OutletId) : State :=
  if (s.outlet o).restoreIntent then s.place o .dwell none else s.enterOff o

/-- The closing voltage crossing, or the limit under ZERO, moves a CLOSING outlet from ALIGN to COIL; `unaligned` says which (R5, R8). -/
def State.alignClosing (s : State) (o : OutletId) (unaligned : Bool) : State := (s.setUnaligned o unaligned).startCoil o

/-- The awaited crossing, or the limit, removes the drive of an OPENING outlet in ALIGN; `unaligned` says which (R5, R14). -/
def State.alignOpening (s : State) (o : OutletId) (unaligned : Bool) : State := (s.setUnaligned o unaligned).startOpeningSettle o

/-- An outlet is in a sub-phase of a state. -/
def State.isIn (s : State) (o : OutletId) (st : OutletState) (sub : SubPhase) : Bool :=
  decide ((s.outlet o).state = st) && decide ((s.outlet o).sub = some sub)

end Sys2Proof.Machine
end

