-- ==== Sys2Proof/Machine/Groups.lean ====
section
/-! DEFINITION. The group engine: entries (R135), cycle records and member statuses (R137, R138), offers, gathering, dwell, aborts and the end of a cycle (R141 to R157). -/

namespace Sys2Proof.Machine

/-! Entries and records. -/

def State.group? (s : State) (g : Nat) : Option GroupEntry := s.groups.find? (fun e => decide (e.group = g))

/-- An entry put in group number order, replacing one of its group (R135). -/
def insertGroup (e : GroupEntry) : List GroupEntry → List GroupEntry
  | [] => [e]
  | x :: xs => if e.group = x.group then e :: xs else if e.group < x.group then e :: x :: xs else x :: insertGroup e xs

def State.modGroup (s : State) (g : Nat) (f : GroupEntry → GroupEntry) : State :=
  { s with groups := s.groups.map (fun e => if e.group = g then f e else e) }

def State.record? (s : State) (g : Nat) : Option CycleRecord := s.records.find? (fun r => decide (r.group = g))

/-- A record put in group number order, replacing one of its group (R137). -/
def insertRecord (r : CycleRecord) : List CycleRecord → List CycleRecord
  | [] => [r]
  | x :: xs => if r.group = x.group then r :: xs else if r.group < x.group then r :: x :: xs else x :: insertRecord r xs

def State.modRecord (s : State) (g : Nat) (f : CycleRecord → CycleRecord) : State :=
  { s with records := s.records.map (fun r => if r.group = g then f r else r) }

/-- A record is in progress until DONE (R137). -/
def CycleRecord.inProgress (r : CycleRecord) : Bool := decide (r.phase ≠ .done)

/-- The record of group `g` that is in progress. -/
def State.cycle? (s : State) (g : Nat) : Option CycleRecord :=
  match s.record? g with
  | some r => if r.inProgress then some r else none
  | none => none

/-- The roster the peer table keeps for a group; empty where it keeps none (R86). -/
def State.roster (s : State) (g : Nat) : NumberSet :=
  match s.group? g with
  | some e => e.roster
  | none => 0

def isLost (s : State) (k : StationId) : Bool := decide ((s.peer k).state = .lost)

/-- The stations of a set that are LOST at this station. -/
def State.lostOf (s : State) (set : NumberSet) : NumberSet := numbersWhere (fun k => hasNumber set k && isLost s k)

/-! Member statuses (R138). -/

def CycleRecord.countStatus (r : CycleRecord) (st : MemberStatus) : Nat := (r.members.filter (fun m => decide (m.status = st))).length

/-- The own total of opened members (R138, log 20). -/
def CycleRecord.ownOpened (r : CycleRecord) : Nat := (r.members.filter (·.wasOpened)).length

/-- A member has status OPENING. -/
def CycleRecord.anyOpening (r : CycleRecord) : Bool := r.members.any (fun m => decide (m.status = .opening))

/-- A member has status RESTORING. -/
def CycleRecord.anyRestoring (r : CycleRecord) : Bool := r.members.any (fun m => decide (m.status = .restoring))

def Member.setStatus (st : MemberStatus) (m : Member) : Member := { m with status := st, wasOpened := m.wasOpened || decide (st = .opened) }

def State.setStatus (s : State) (g : Nat) (o : OutletId) (st : MemberStatus) : State :=
  s.modRecord g (fun r => { r with members := r.members.map (fun m => if m.outlet = o then m.setStatus st else m) })

/-- The record in progress that holds an outlet as a member, and the member (R136). -/
def State.memberOf (s : State) (o : OutletId) : Option (CycleRecord × Member) :=
  match s.cycle? (s.outlet o).cfg.group with
  | none => none
  | some r =>
    match r.members.find? (fun m => decide (m.outlet = o)) with
    | none => none
    | some m => some (r, m)

/-! The end of a cycle (R157). -/

/-- Gathered counts saturate at 255 (R137). -/
def gather (total count : Nat) : Nat := min 255 (total + count)

/-- The gathered totals in one value: opened, held, restored, failed, most significant byte first (R187, 11.3). -/
def CycleRecord.gathered (r : CycleRecord) : Nat := r.gOpened * 2 ^ 24 + r.gHeld * 2 ^ 16 + r.gRestored * 2 ^ 8 + r.gFailed

/-- A member is an ordinary outlet again (R157). -/
def Outlet.releaseMember (x : Outlet) : Outlet :=
  { x with cycle := if x.cycle = .group then .none else x.cycle, restoreIntent := false }

/-- Every member is released, one that the cycle held too (R136, R157); a local cycle-member is kept (log 23). -/
def State.releaseMembers (s : State) (ms : List Member) : State :=
  ms.foldl (fun t m => t.modOutlet m.outlet Outlet.releaseMember) s

/-- A record in progress reaches DONE: timers stopped, members released, GROUP-DONE queued (R157). -/
def State.finishCycle (s : State) (g : Nat) (out : CycleOutcome) : State :=
  match s.cycle? g with
  | none => s
  | some r =>
    ((s.modRecord g (fun r => { r with phase := .done, offTimer := none, dwellTimer := none, onTimer := none, outcome := some out })).releaseMembers
      r.members).post .groupDone g (outcomeCode out) r.gathered

/-! Aborts (R153, R154, R156). -/

/-- A member is moved into CLAIMING by an abort: restore-intent cleared, cycle-member none (R154). -/
def State.restoreByAbort (s : State) (o : OutletId) : State :=
  (s.modOutlet o (fun x => { x with restoreIntent := false, cycle := .none })).enterClaiming o

/-- A record in RESTORING-ABORT with no member in OPENING reaches DONE (R154). -/
def State.checkAbortDone (s : State) (g : Nat) : State :=
  match s.cycle? g with
  | none => s
  | some r =>
    if r.phase = .restoringAbort ∧ r.anyOpening = false then
      match r.outcome with
      | some out => s.finishCycle g out
      | none => s
    else s

/-- The members of a record with status OPEN that stand in DWELL, in restore order (R148, R154). -/
def State.openMembers (s : State) (r : CycleRecord) : List OutletId :=
  s.inRestoreOrder ((r.members.filter (fun m => decide (m.status = .opened) && decide ((s.outlet m.outlet).state = .dwell))).map (·.outlet))

/-- A record in OFF-PHASE or DWELL is aborted: it enters RESTORING-ABORT and its OPEN members claim (R154). -/
def State.abortCycle (s : State) (g : Nat) (reason : EndReason) : State :=
  match s.cycle? g with
  | none => s
  | some r =>
    ((s.openMembers r).foldl State.restoreByAbort
      (s.modRecord g (fun r => { r with phase := .restoringAbort, offTimer := none, dwellTimer := none, outcome := some (.aborted reason) }))).checkAbortDone g

/-- An abort acts on the record in progress by its phase (R153, R156). -/
def State.actAbort (s : State) (g : Nat) (reason : EndReason) : State :=
  match s.cycle? g with
  | none => s
  | some r =>
    match r.phase with
    | .offPhase | .dwell => s.abortCycle g reason
    | .onPhase => s.finishCycle g (.aborted reason)
    | .restoringAbort | .done => s

/-! Offers (R77, R78). -/

/-- A GROUP-ABORT put into the queue: unsent frames of the tag removed, no second GROUP-ABORT of a tag; none where it is not taken (R77, R78).
The removed frames make room for it before the capacity is checked (the model's choice, log 39). -/
def State.queueAbort (s : State) (r : CycleRecord) (reason : AbortReason) : Option State :=
  let s1 := (s.removeFrames (isCycleFrameOf r.tag)).modRecord r.group (fun r => { r with abortOffered := true })
  if s1.link.queue.any (fun x => isAbortOf r.tag x.frame) then some s1
  else s1.offer plainUrgency (.groupAbort ⟨r.tag, r.group, reason⟩)

/-- The state in which a GROUP-ABORT not taken acts: abort offered is set (R156). -/
def State.abortNotQueued (s : State) (r : CycleRecord) : State :=
  (s.removeFrames (isCycleFrameOf r.tag)).modRecord r.group (fun r => { r with abortOffered := true })

/-- A GROUP-ABORT is offered for the record in progress unless abort offered is set; not taken, it acts here alone (R146, R152, R155, R156). -/
def State.offerAbort (s : State) (g : Nat) (reason : AbortReason) : State :=
  match s.cycle? g with
  | none => s
  | some r =>
    if r.abortOffered then s
    else
      match s.queueAbort r reason with
      | some s' => s'
      | none => (s.abortNotQueued r).actAbort g (endReasonOf reason)

/-- In OFF-PHASE with no member OPENING and no abort offered, the one GROUP-OFF is offered; not taken, the record ends with LINK (R143, R156). -/
def State.maybeGroupOff (s : State) (g : Nat) : State :=
  match s.cycle? g with
  | none => s
  | some r =>
    if r.phase = .offPhase ∧ r.anyOpening = false ∧ r.abortOffered = false ∧ r.offOffered = false then
      let s1 := s.modRecord g (fun r => { r with offOffered := true })
      match s1.offer plainUrgency (.groupOff ⟨r.tag, g, r.ownOpened, r.countStatus .held⟩) with
      | some s' => s'
      | none => s1.abortCycle g .link
    else s

/-- In ON-PHASE with no member RESTORING and no abort offered, the one GROUP-ON is offered; not taken, the record is DONE with LINK (R149, R156). -/
def State.maybeGroupOn (s : State) (g : Nat) : State :=
  match s.cycle? g with
  | none => s
  | some r =>
    if r.phase = .onPhase ∧ r.anyRestoring = false ∧ r.abortOffered = false ∧ r.onOffered = false then
      let s1 := s.modRecord g (fun r => { r with onOffered := true })
      match s1.offer plainUrgency (.groupOn ⟨r.tag, g, r.countStatus .restored, r.countStatus .failed⟩) with
      | some s' => s'
      | none => s1.finishCycle g (.aborted .link)
    else s

/-! What the outlets report (R143, R144, R149, R154). -/

/-- A member's opening has ended, or its closing was abandoned, or it tripped: OPENING becomes OPEN in DWELL and OFF elsewhere (R143, R154). -/
def State.noteOpened (s : State) (o : OutletId) : State :=
  match s.memberOf o with
  | none => s
  | some (r, m) =>
    if m.status = .opening then
      if (s.outlet o).state = .dwell then
        match r.phase with
        | .offPhase => (s.setStatus r.group o .opened).maybeGroupOff r.group
        | .restoringAbort => ((s.setStatus r.group o .opened).restoreByAbort o).checkAbortDone r.group
        | .dwell | .onPhase | .done => s.setStatus r.group o .opened
      else ((s.setStatus r.group o .off).maybeGroupOff r.group).checkAbortDone r.group
    else s

/-- A RESTORING member reached ON (R10, R149). -/
def State.noteRestored (s : State) (o : OutletId) : State :=
  match s.memberOf o with
  | none => s
  | some (r, m) => if m.status = .restoring then (s.setStatus r.group o .restored).maybeGroupOn r.group else s

/-- A RESTORING member failed its restore (R11, R115, R149). -/
def State.noteFailed (s : State) (o : OutletId) : State :=
  match s.memberOf o with
  | none => s
  | some (r, m) => if m.status = .restoring then (s.setStatus r.group o .failed).maybeGroupOn r.group else s

/-- A member tripped (R45, R143, R149). -/
def State.noteTripped (s : State) (o : OutletId) : State := (s.noteOpened o).noteFailed o

/-- A CLAIMING member is withdrawn into DWELL with restore-intent, status OPEN (R142, R144). -/
def State.withdrawMember (s : State) (g : Nat) (o : OutletId) : State :=
  ((((s.leaveClaiming o).place o .dwell none).setRestore o true)).setStatus g o .opened

/-- A member with status OFF was moved into CLAIMING by a recovery or by the start restore (R144, R149, R154, R171). -/
def State.noteClaiming (s : State) (o : OutletId) : State :=
  match s.memberOf o with
  | none => s
  | some (r, m) =>
    if m.status = .off then
      match r.phase with
      | .offPhase | .dwell => s.withdrawMember r.group o
      | .onPhase => s.setStatus r.group o .restoring
      | .restoringAbort => s.setCycle o .none
      | .done => s
    else s

/-! Gathering and dwell (R145 to R151). -/

/-- The dwell starts (R145). -/
def State.startDwell (s : State) (g : Nat) : State :=
  s.modRecord g (fun r => { r with phase := .dwell, offTimer := none, dwellTimer := some (r.dwell * 1000) })

/-- A station leaves the awaited set, in any phase; a set left empty starts the dwell in OFF-PHASE and completes the cycle in ON-PHASE (R145, R150,
R155). -/
def State.removeAwaited (s : State) (g : Nat) (k : StationId) : State :=
  match s.record? g with
  | none => s
  | some r =>
    if hasNumber r.awaited k then
      let s1 := s.modRecord g (fun r => { r with awaited := removeNumber r.awaited k })
      if removeNumber r.awaited k = 0 then
        match r.phase with
        | .offPhase => s1.startDwell g
        | .onPhase => s1.finishCycle g .complete
        | .dwell | .restoringAbort | .done => s1
      else s1
    else s

/-- A member enters CLAIMING at the end of the dwell (R148). -/
def State.restoreByDwell (g : Nat) (s : State) (o : OutletId) : State := ((s.setRestore o false).enterClaiming o).setStatus g o .restoring

/-- The stations awaited in ON-PHASE: the roster less the LOST stations and the early set (R148). -/
def State.awaitedOn (s : State) (r : CycleRecord) : NumberSet :=
  numbersWhere (fun k => hasNumber (s.roster r.group) k && !isLost s k && !hasNumber r.early k)

/-- The dwell timer of a record ran out (R148). -/
def State.endDwell (s : State) (g : Nat) : State :=
  match s.cycle? g with
  | none => s
  | some r =>
    (((s.openMembers r).foldl (State.restoreByDwell g) (s.modRecord g (fun r => { r with dwellTimer := none }))).modRecord g
      (fun r' => { r' with phase := .onPhase, awaited := s.awaitedOn r, onTimer := some (s.cfg.onGather * 1000) })).maybeGroupOn g

/-! Opening the members (R141, R142). -/

/-- The cycle-member of an opened member becomes group, which ends its host target without SWITCH-DONE (R21, R136). -/
def State.joinCycle (s : State) (o : OutletId) : State := s.modOutlet o (fun x => { x with cycle := .group, target := .none })

/-- The status a member takes at OPEN-GROUP (R142). One in an opening that will end in OFF is OPENING until its opening ends, as R142 and R143
have it, where the table of R138 counts it as OFF: the model's choice (log 53). -/
def Outlet.statusAtOpen (x : Outlet) : MemberStatus :=
  if x.isProtected then .held
  else
    match x.state with
    | .on | .closing | .opening => .opening
    | .claiming | .dwell => .opened
    | .off | .tripped | .shed => .off

/-- A member is handled by its state at OPEN-GROUP (R142). -/
def State.openMember (s : State) (o : OutletId) : State :=
  if (s.outlet o).isProtected then s
  else
    match (s.outlet o).state with
    | .on => ((s.joinCycle o).setRestore o true).enterOpening o
    | .claiming => (((s.joinCycle o).leaveClaiming o).place o .dwell none).setRestore o true
    | .closing => if (s.outlet o).pendingOff then s.joinCycle o else ((s.joinCycle o).setRestore o true).setPendingOff o
    | .opening => s.joinCycle o
    | .dwell => (s.joinCycle o).modOutlet o (fun x => { x with stateTimer := none })
    | .off | .tripped | .shed => s.joinCycle o

/-- The record an OPEN-GROUP creates (R141). -/
def State.newRecord (s : State) (p : OpenGroupPayload) : CycleRecord :=
  { group := p.group, tag := p.tag, dwell := p.dwell, policy := p.policy, phase := .offPhase, awaited := s.roster p.group, early := 0,
    gOpened := 0, gHeld := 0, gRestored := 0, gFailed := 0, offTimer := some (s.cfg.offGather * 1000), dwellTimer := none, onTimer := none,
    abortOffered := false, offOffered := false, onOffered := false,
    members := (s.members p.group).map (fun o => ⟨o, (s.outlet o).statusAtOpen, decide ((s.outlet o).statusAtOpen = .opened)⟩), outcome := none }

/-- The link is down: pending tags are cleared and every record in progress ends at this station (R82, R140, R156), in group number order (the
model's choice, log 41). -/
def State.endCyclesLocally (s : State) : State :=
  (s.records.map (·.group)).foldl (fun t g => t.actAbort g .link)
    { s with groups := s.groups.map (fun e => { e with pendingTag := none }) }

end Sys2Proof.Machine
end

