-- ==== Sys2Proof/Machine/Protection.lean ====
section
/-! DEFINITION. The ends of the relay sequences as every block hears of them (R10, R11, R15), and the trip (R44, R45). -/

namespace Sys2Proof.Machine

/-- Why a trip was ordered (R42, R43). -/
inductive TripReason where
  | halfCycle
  | instant
  deriving DecidableEq, Repr

/-- The detail codes of TRIP (11.5). -/
def tripReasonCode : TripReason → Nat
  | .halfCycle => 1
  | .instant => 2

/-- The outlet record after a trip: drive and waits gone, restore-intent and host target cleared, a local cycle ended (R44). -/
def State.placeTripped (s : State) (o : OutletId) : State :=
  (((s.place o .tripped none).setRestore o false).endLocal o).setTarget o .none

/-- The window running when a trip is taken is disturbed for the outlet (R35, R44). -/
def State.disturb (s : State) (o : OutletId) : State := s.modMeter o (fun m => { m with disturbed := true })

/-- A trip ordered on an outlet: it acts if the outlet is live, and is handed to the budget unit, the group engine and the port, in that
order (R3, R43 to R45, log 26). -/
def State.trip (s : State) (o : OutletId) (reason : TripReason) (value : Nat) : State :=
  if (s.outlet o).live then
    ((((s.placeTripped o).disturb o).dropClaim o).noteTripped o).post .trip (outletNo o) (tripReasonCode reason) value
  else s

/-- The settle time of a closing ran out: ON, or OPENING with pending-off set (R10). -/
def State.endClosing (s : State) (o : OutletId) : State :=
  if (s.outlet o).pendingOff then s.enterOpening o else ((s.place o .on none).meetTarget o).noteRestored o

/-- A closing under STRICT failed its alignment (R11). SWITCH-FAILED, or the SWITCH-DONE of a target met in OFF, comes before what the group engine
posts (the model's choice, log 44). -/
def State.failClosing (s : State) (o : OutletId) : State :=
  if (s.outlet o).pendingOff then (((s.setUnaligned o true).endPendingOff o).dropClaim o).noteOpened o
  else
    (((((((s.setUnaligned o true).place o .off none).setTarget o .none).setRestore o false).endLocal o).dropClaim o).post .switchFailed
      (outletNo o) 1 (s.outlet o).alignLimitMs).noteFailed o

/-- The align limit of a closing ran out (R8). -/
def State.closingAlignEnds (s : State) (o : OutletId) : State :=
  match (s.profile o).alignment with
  | .strict => s.failClosing o
  | .zero | .none => s.alignClosing o true

/-- A local dwell is loaded on entry into DWELL (R15, R20). -/
def State.loadDwell (s : State) (o : OutletId) : State :=
  match (s.outlet o).cycle with
  | .localCycle d => s.loadTimer o (d * 1000)
  | .none | .group => s

/-- The settle time of an opening ran out: DWELL with restore-intent, OFF without (R15). The SWITCH-DONE of a target met in OFF comes before what the
group engine posts (the model's choice, log 44). -/
def State.endOpening (s : State) (o : OutletId) : State :=
  if (s.outlet o).restoreIntent then ((s.place o .dwell none).loadDwell o).noteOpened o else (s.enterOff o).noteOpened o

/-- A local cycle ends and its outlet claims (R17, R20). -/
def State.leaveDwell (s : State) (o : OutletId) : State := ((s.setRestore o false).setCycle o .none).enterClaiming o

end Sys2Proof.Machine
end

