-- ==== Sys2Proof/Machine/Lines.lean ====
section
/-! DEFINITION. The line monitor: thresholds (R51), confirming a sag and a recovery (R52, R53), entering SAG (R54 to R56), RECOVERING (R57), back to SAG (R59) and to NORMAL (R60). -/

namespace Sys2Proof.Machine

/-- The sag threshold, in 0.1 V (R51). -/
def State.sagThreshold (s : State) : Nat := roundNearest (s.cfg.nominal * s.cfg.sagPercent) 100

/-- The recovery level, in 0.1 V (R51). -/
def State.recoveryLevel (s : State) : Nat := roundNearest (s.cfg.nominal * (s.cfg.sagPercent + 5)) 100

/-- The causes of a sag condition (R52, R53). -/
inductive SagCause where
  | lowVoltage
  | noCrossing
  deriving DecidableEq, Repr

/-- The detail codes of SAG-START (11.5). -/
def sagCauseCode : SagCause → Nat
  | .lowVoltage => 1
  | .noCrossing => 2

/-- A change of line state sets both counts to 0 (R52). -/
def Line.enter (st : LineState) (l : Line) : Line := { l with state := st, low := 0, good := 0 }

/-- An outlet is handled by its state on entry into SAG; a claim granted for one that is opened takes the mark DROPPED (R55, R56). -/
def State.sagOutlet (b : Bank) (s : State) (o : OutletId) : State :=
  match (s.outlet o).state with
  | .on => if (s.line b).shedInUse then (s.place o .shed none).markDropped o else s
  | .closing =>
    if (s.outlet o).pendingOff then ((s.endPendingOff o).markDropped o).noteOpened o else (s.place o .shed none).markDropped o
  | .off | .claiming | .opening | .dwell | .shed | .tripped => s

/-- The outlets of a bank on entry into SAG, in outlet number order (R55; the order is the model's choice, log 44). -/
def State.sagOutlets (s : State) (b : Bank) : State := (bankOutlets b).foldl (State.sagOutlet b) s

/-- Every outlet of a bank has its running window disturbed (R35). -/
def State.disturbBank (s : State) (b : Bank) : State := (bankOutlets b).foldl State.disturb s

/-- The outlets of a bank that are in SHED in `t` and were not in `s`. -/
def newlyShed (s t : State) (b : Bank) : Nat :=
  ((bankOutlets b).filter (fun o => decide ((t.outlet o).state = .shed) && decide ((s.outlet o).state ≠ .shed))).length

/-- Entry into SAG from NORMAL (R54). -/
def State.enterSag (s : State) (b : Bank) (cause : SagCause) : State :=
  let s1 := s.modLine b (fun l => { l.enter .sag with sagStart := some s.boardTime, reentry := 0, shedInUse := (s.bank b).sagShed })
  let s2 := s1.sagOutlets b
  (((s2.withdrawClaim b).disturbBank b).offerStatus).post .sagStart (bankNo b) (sagCauseCode cause) (newlyShed s s2 b)

/-- The return from RECOVERING to SAG (R59). -/
def State.reenterSag (s : State) (b : Bank) : State :=
  (((s.modLine b (fun l => { l.enter .sag with recovery := none, reentry := min 255 (l.reentry + 1) })).sagOutlets b).disturbBank b).offerStatus

/-- A sag condition, by the bank's line state (R54, R59). -/
def State.sagCondition (s : State) (b : Bank) (cause : SagCause) : State :=
  match (s.line b).state with
  | .normal => s.enterSag b cause
  | .recovering => s.reenterSag b
  | .sag => s

/-- Entry into RECOVERING (R57). -/
def State.enterRecovering (s : State) (b : Bank) : State :=
  (s.modLine b (fun l => { l.enter .recovering with recovery := some (s.cfg.recoveryWait * 100) })).offerStatus

/-- An outlet restored from SHED enters CLAIMING, and the group engine hears of it (R60, R144, R149). -/
def State.restoreShed (s : State) (o : OutletId) : State := (s.enterClaiming o).noteClaiming o

/-- The SHED outlets of a bank, in restore order (R60). -/
def State.shedOutlets (s : State) (b : Bank) : List OutletId :=
  s.inRestoreOrder ((bankOutlets b).filter (fun o => decide ((s.outlet o).state = .shed)))

/-- The board time since the bank entered SAG from NORMAL (R60). -/
def State.sagElapsed (s : State) (b : Bank) : Nat :=
  match (s.line b).sagStart with
  | some t => msSince s.boardTime t
  | none => 0

/-- The return to NORMAL: restore, release of the bank with its retry wait cleared, STATUS, SAG-END (R60, R108). -/
def State.enterNormal (s : State) (b : Bank) : State :=
  let s1 := s.modLine b (fun l => { l.enter .normal with recovery := none })
  let s2 := if s.phase = .running then (s1.shedOutlets b).foldl State.restoreShed s1 else s1
  (((s2.modClaim b (fun c => { c with retryWait := none })).offerStatus).post .sagEnd (bankNo b) (s.line b).reentry (s.sagElapsed b)).modLine b
    (fun l => { l with sagStart := none, reentry := 0 })

/-- A half-cycle closed at a voltage; `onCrossings` says it began and ended at a voltage crossing (R52). -/
def State.judgeHalf (s : State) (b : Bank) (volts : Nat) (onCrossings : Bool) : State :=
  match (s.line b).state with
  | .normal | .recovering =>
    let n := if volts < s.sagThreshold then (s.line b).low + 1 else 0
    let s1 := s.modLine b (fun l => { l with low := n })
    if 3 ≤ n then s1.sagCondition b .lowVoltage else s1
  | .sag =>
    let n := if onCrossings && decide (s.recoveryLevel ≤ volts) then (s.line b).good + 1 else 0
    let s1 := s.modLine b (fun l => { l with good := n })
    if 3 ≤ n then s1.enterRecovering b else s1

/-- When the 25 ms without a crossing run out; the board waits for it in NORMAL and RECOVERING only (R53). -/
def State.noCrossingDue (s : State) (b : Bank) : Option Nat :=
  match (s.line b).state, (s.line b).lastCross with
  | .sag, _ => none
  | _, some t => some (25 - msSince s.boardTime t.ms)
  | _, none => some (25 - s.boardTime.toNat)

end Sys2Proof.Machine
end

