-- ==== Sys2Proof/Machine/Metering.lean ====
section
/-! DEFINITION. The metering engine: half-cycles (R30), the trip watch (R42), zero-crossings (R29), windows and their records (R31 to R37), energy (R38, R39) and peak (R41). -/

namespace Sys2Proof.Machine

/-- What a measurement list holds for an outlet of its bank; 0 where it holds nothing (log 3). -/
def measured (l : List Nat) (o : OutletId) : Nat := l.getD (slotOf o) 0

def measuredWatts (l : List Int) (o : OutletId) : Int := l.getD (slotOf o) 0

/-! The trip watch and the half-cycle (R30, R42). -/

/-- The over-count after a half-cycle of `amps` (R42). -/
def overCountAfter (threshold amps n : Nat) : Nat := if threshold * 10 < amps then n + 1 else 0

/-- The trip watch of an outlet judges a half-cycle's RMS current (R42). -/
def State.watchOutlet (amps : List Nat) (s : State) (o : OutletId) : State :=
  if (s.outlet o).live then
    let n := overCountAfter (s.outlet o).cfg.tripThreshold (measured amps o) (s.meter o).overCount
    let s1 := s.modMeter o (fun m => { m with overCount := n })
    if 2 ≤ n then s1.trip o .halfCycle (measured amps o) else s1
  else s

def State.watchBank (s : State) (b : Bank) (amps : List Nat) : State := (bankOutlets b).foldl (State.watchOutlet amps) s

/-- The half-cycle running closes and the next begins: it goes to the line monitor and to the trip watch (R30, log 4). -/
def State.closeHalf (s : State) (b : Bank) (h : HalfMeasure) (onCrossing : Bool) (start : Stamp) : State :=
  ((s.modWindow b (fun w => { w with halves := w.halves + 1, halfStart := start, halfOnCrossing := onCrossing })).judgeHalf b h.volts
    ((s.window b).halfOnCrossing && onCrossing)).watchBank b h.amps

/-- The largest current sampled since ALIGN began, kept for an outlet in OPENING at ALIGN (R14). -/
def State.notePeak (s : State) (o : OutletId) (peak : Nat) : State :=
  if s.isIn o .opening .align then s.modOutlet o (fun x => { x with alignPeak := max x.alignPeak peak }) else s

def State.notePeaks (s : State) (b : Bank) (peaks : List Nat) : State :=
  (bankOutlets b).foldl (fun t o => t.notePeak o (measured peaks o)) s

/-- When the half-cycle running is closed by timer (R30). -/
def State.halfDue (s : State) (b : Bank) : Option Nat := some (10 - msSince s.boardTime (s.window b).halfStart.ms)

/-- The start of the half-cycle that follows one closed by timer: 10 ms after the start of that one (R30). -/
def BankWindow.nextHalf (w : BankWindow) : Stamp := ⟨w.halfStart.ms + 10, w.halfStart.us⟩

/-! Zero-crossings (R29). -/

/-- A sign change within 2.0 ms of the last crossing taken on the signal is ignored (R29). -/
def heldOff (last : Option Stamp) (now : Stamp) : Bool :=
  match last with
  | none => false
  | some t => decide (microsBetween t now < 2000)

/-- 0.10 A, the current worth aligning to (R14). -/
def alignCurrent : Nat := 10

/-- A voltage crossing reaches an outlet of its bank: a closing in ALIGN moves to COIL, and so does to SETTLE an opening in ALIGN whose
current never exceeded 0.10 A (R8, R14). -/
def State.crossOutlet (s : State) (o : OutletId) : State :=
  if s.isIn o .closing .align then s.alignClosing o false
  else if s.isIn o .opening .align && decide ((s.outlet o).alignPeak ≤ alignCurrent) then s.alignOpening o false
  else s

def State.crossOutlets (s : State) (b : Bank) : State := (bankOutlets b).foldl State.crossOutlet s

/-! Window records (R33, R34). -/

/-- A reading of a record, or a free value where it lies outside its range and no rule states what is recorded (log 6). -/
def inReading (r : Config.Reading) (lo hi n : Nat) : Nat := if inRange lo hi n then n else Config.unstated r n

/-- The frequency of `cycles` line cycles in `micros` µs, in 0.01 Hz (R33). -/
def frequencyOf (cycles micros : Nat) : Nat :=
  if micros = 0 then Config.unstated .frequency 0 else inReading .frequency 0 9999 (roundNearest (cycles * 100000000) micros)

/-- Real power, in 0.1 W (R34). -/
def realPower (w : Int) : Int :=
  if w < 0 then -(inReading .realPowerMagnitude 0 200000 w.natAbs : Nat) else (inReading .realPowerMagnitude 0 200000 w.natAbs : Nat)

/-- Apparent power, in 0.1 VA, of a voltage in 0.1 V and a current in 0.01 A (R34, log 5). -/
def apparentPower (volts amps : Nat) : Nat :=
  if volts * amps % 100 = 0 then volts * amps / 100
  else if Config.apparentRoundsUp (volts * amps) 100 then volts * amps / 100 + 1
  else volts * amps / 100

/-- The power factor, in 0.01 (R34). -/
def powerFactor (watts : Int) (voltAmps : Nat) : Nat :=
  if voltAmps < 10 then 0 else inReading .powerFactor 0 100 (roundNearest (watts.natAbs * 100) voltAmps)

/-- An outlet's window record (R32, R34). Apparent power and power factor are computed from the values as recorded: the capped voltage and current,
and the real and apparent power in their units (the model's choice, log 38). -/
def windowRecord (noLine disturbed : Bool) (volts amps : Nat) (watts : Int) : WindowRecord :=
  if noLine then ⟨amps, 0, 0, 0, disturbed, true, false⟩
  else
    ⟨amps, realPower watts, apparentPower volts amps, powerFactor (realPower watts) (apparentPower volts amps), disturbed, false,
      decide (realPower watts < 0)⟩

/-- A bank's line record; `closing` is the rising crossing that ended the window, if one did (R32, R33). -/
def BankWindow.lineRecord (w : BankWindow) (now : BoardTime) (closing : Option Stamp) (volts : Nat) : LineRecord :=
  let halves := inReading .halfCycles 0 255 w.halves
  let duration := inReading .duration 1 65535 (msSince now w.start)
  match w.riseStart, closing with
  | some t, some u => ⟨min 3000 volts, frequencyOf w.cycles (microsBetween t u), halves, duration, false, now⟩
  | _, _ => ⟨0, 0, halves, duration, true, now⟩

/-- The length, in line cycles, of the window that opens after a line record (R31). -/
def LineRecord.nextCycles (r : LineRecord) : Nat := if r.noLine then 10 else if r.frequency < 5500 then 10 else 12

/-! Energy and peak (R38, R39, R41). -/

/-- The accumulator holds 48 bits (R38). -/
def energyModulus : Nat := 2 ^ 48

/-- The energy a window adds, in 1/36 000 mWh: none where real power is negative or the window is no-line (R38). -/
def windowEnergy (r : WindowRecord) (ms : Nat) : Nat := if r.noLine then 0 else r.watts.toNat * ms

/-- The whole mWh that an addition gives, the remainder counted (R38). -/
def Meter.wholeAfter (m : Meter) (added : Nat) : Nat := (m.remainder + added) / 36000

/-- The addition takes the accumulator past its largest value, 2^48 - 1 mWh (R39). -/
def Meter.wraps (m : Meter) (added : Nat) : Bool := decide (energyModulus ≤ m.energy.toNat + m.wholeAfter added)

/-- The energy of a window is added, the part of a mWh left over kept in the remainder (R38). A wrap counts modulo 2^48, so that the value after the
largest is 0: that R39's part beyond the largest value is counted so is the model's choice (log 34). -/
def Meter.addEnergy (m : Meter) (added : Nat) : Meter :=
  { m with energy := BitVec.ofNat 48 (m.energy.toNat + m.wholeAfter added), remainder := (m.remainder + added) % 36000 }

/-- A window's record is taken into an outlet's meter values: record, undisturbed RMS, energy, reverse-power, peak (R34, R36, R38, R41). -/
def Meter.takeWindow (m : Meter) (r : WindowRecord) (ms : Nat) : Meter :=
  { m.addEnergy (windowEnergy r ms) with
    record := some r
    undisturbed := if r.disturbed then m.undisturbed else some r.amps
    reversePower := m.reversePower || decide (r.watts < 0)
    peak := max m.peak r.amps }

/-- A captured READ OUTLET remembers the largest window of its outlet since the capture (R41). -/
def Port.seeWindow (o : OutletId) (amps : Nat) (p : Port) : Port :=
  { p with
    capture := p.capture.map (fun c =>
      match c.request with
      | .outlet x _ => if outletArg x = some o then { c with peakSince := max c.peakSince amps } else c
      | _ => c) }

/-- The end of a window for one outlet of the bank (R34 to R41); its powers come from the recorded voltage and current (the model's choice,
log 38). -/
def State.endOutletWindow (noLine : Bool) (volts ms : Nat) (w : WindowMeasure) (s : State) (o : OutletId) : State :=
  let r := windowRecord noLine (s.meter o).disturbed volts (min 6500 (measured w.amps o)) (measuredWatts w.watts o)
  let s1 := (s.modMeter o (fun m => m.takeWindow r ms)).modPort (Port.seeWindow o r.amps)
  if (s.meter o).wraps (windowEnergy r ms) then s1.post .energyWrap (outletNo o) 0 ((s1.meter o).energy.toNat % 2 ^ 32) else s1

/-- The marks of the window that opens: an outlet in CLOSING or OPENING, or a bank not NORMAL, disturbs it from its first moment (R35). -/
def State.openOutletWindow (b : Bank) (s : State) (o : OutletId) : State :=
  s.modMeter o (fun m =>
    { m with disturbed := s.isHeld b || decide ((s.outlet o).state = .closing) || decide ((s.outlet o).state = .opening) })

/-- The next window of a bank opens as one ends (R31). -/
def BankWindow.reopen (w : BankWindow) (now : BoardTime) (closing : Option Stamp) (r : LineRecord) : BankWindow :=
  { w with line := some r, start := now, riseStart := closing, cycles := r.nextCycles, rises := 0, halves := 0 }

/-- A window of the bank ends, on a rising crossing or by timer: records, energy and peaks, then the next window, then the notice to the
budget unit (R31 to R41, R117). The outlets, and so their ENERGY-WRAP events, are taken in outlet number order (the model's choice, log 42). -/
def State.endWindow (s : State) (b : Bank) (m : WindowMeasure) (closing : Option Stamp) : State :=
  let r := (s.window b).lineRecord s.boardTime closing m.volts
  let s1 := (bankOutlets b).foldl (State.endOutletWindow r.noLine r.volts (msSince s.boardTime (s.window b).start) m) s
  let s2 := s1.modWindow b (fun w => w.reopen s.boardTime closing r)
  ((bankOutlets b).foldl (State.openOutletWindow b) s2).absorbWindow b (fun o => !(s.meter o).disturbed)

/-- A rising crossing counts toward the window's length and ends the window that it completes, or that opened on no crossing (R31). -/
def State.countRise (s : State) (b : Bank) (m : WindowMeasure) (now : Stamp) : State :=
  if (s.window b).riseStart = none ∨ (s.window b).cycles ≤ (s.window b).rises + 1 then s.endWindow b m (some now)
  else s.modWindow b (fun w => { w with rises := w.rises + 1 })

/-- When a window ends by timer: 250 ms from the later of its opening and the bank's last voltage crossing (R32). -/
def State.windowDue (s : State) (b : Bank) : Option Nat :=
  let sinceOpen := msSince s.boardTime (s.window b).start
  match (s.line b).lastCross with
  | none => some (250 - sinceOpen)
  | some t => some (250 - min sinceOpen (msSince s.boardTime t.ms))

/-- A voltage crossing taken: the outlets, the line monitor, the half-cycle, and on a rising one the window (R29 to R31, log 4). -/
def State.takeVoltageCrossing (s : State) (b : Bank) (edge : Edge) (now : Stamp) (h : HalfMeasure) (m : WindowMeasure) : State :=
  let s1 := ((s.crossOutlets b).modLine b (fun l => { l with lastCross := some now })).closeHalf b h true now
  match edge with
  | .rising => s1.countRise b m now
  | .falling => s1

/-- A current crossing taken: it ends the ALIGN of an opening whose current exceeded 0.10 A since it began (R14, R29). -/
def State.takeCurrentCrossing (s : State) (o : OutletId) (now : Stamp) : State :=
  let s1 := s.modMeter o (fun m => { m with lastCross := some now })
  if s1.isIn o .opening .align && decide (alignCurrent < (s1.outlet o).alignPeak) then s1.alignOpening o false else s1

end Sys2Proof.Machine
end

