-- ==== Sys2Proof/Machine/Link.lean ====
section
/-! DEFINITION. The link controller: attempts (R68, R69, R71, R74, R76, R77), frames that fail (R70, R80), the link states (R79 to R82), and the start restore at the first entry into ACTIVE (R171). -/

namespace Sys2Proof.Machine

/-- The failure count at which the station enters LINK-DOWN (R74). -/
def failureLimit : Nat := 16

/-- The joining timer's load, 1.0 s (R79). -/
def joiningTime : Nat := 1000

/-- The quiet timer's load, 2.0 s (R80). -/
def quietTime : Nat := 2000

/-- The station sends, applies frames and drives the reject slot (R65). -/
def LinkState.onBus : LinkState → Bool
  | .joining | .active => true
  | .silent | .linkDown | .isolated => false

/-! Leaving the link (R80 to R82). -/

/-- The transmit queue is emptied, and the budget unit and the group engine are told that the link is down (R80 to R82). -/
def State.linkGoesDown (s : State) : State :=
  ((s.modLink (fun l => { l with queue := [], sending := none })).withdrawAllSent).endCyclesLocally

/-- Entry into LINK-DOWN; `k` is the kind of the frame whose attempt failed (R80). -/
def State.enterLinkDown (s : State) (k : FrameKind) : State :=
  ((s.modLink (fun l => { l with state := .linkDown, joining := none, quiet := some quietTime })).linkGoesDown).post .linkDown s.station.val
    (frameKindCode k) 0

/-- Entry into ISOLATED; `k` and `serial` describe the frame that revealed the other board (R81). -/
def State.enterIsolated (s : State) (k : FrameKind) (serial : Nat) : State :=
  ((s.modLink (fun l => { l with state := .isolated, joining := none, quiet := none })).linkGoesDown).post .duplicateStation s.station.val
    (frameKindCode k) serial

/-- The lower 32 bits of a serial (R187). -/
def serialLow (n : Serial) : Nat := n.toNat % 2 ^ 32

/-! Attempts (R68, R69, R71). -/

/-- The bus is idle: the first frame of the queue is offered, and it wins when no rival's key is lower (R68, log 13). -/
def State.offerOnBus (s : State) (rivals : List Nat) : State :=
  match s.link.sending, s.link.queue with
  | none, x :: _ =>
    if s.link.state.onBus && rivals.all (fun k => decide (x.key ≤ k)) then s.modLink (fun l => { l with sending := some ⟨x, false, none⟩ }) else s
  | _, _ => s

/-- The frame being sent was carried: it leaves the queue, the failure count returns to 0, and a replacement takes its place (R71, R76). -/
def State.attemptCarried (s : State) : State :=
  match s.link.sending with
  | none => s
  | some a =>
    let s1 := s.modLink (fun l => { l with queue := l.queue.erase a.frame, sending := none, failures := 0 })
    match a.replacement with
    | some f => s1.insertFrame plainUrgency f
    | none => s1

/-- A withdrawn CLAIM removed at the end of a failed attempt returns its record to NONE (R113). -/
def State.claimRemoved (s : State) (f : PeerFrame) : State :=
  match f with
  | .claim p => s.modClaim p.bank (fun c => if c.state = .sent ∧ c.withdrawn = true then c.toNone else c)
  | _ => s

/-- What waited for the end of a failed attempt: the frame is removed, or replaced, a JOIN with the reply request of either, or stays at its
place (R71, R76, R77). -/
def State.settleAttempt (s : State) (a : Sending) : State :=
  if a.removeAfter then (s.modLink (fun l => { l with queue := l.queue.erase a.frame })).claimRemoved a.frame.frame
  else
    match a.replacement with
    | some f => (s.modLink (fun l => { l with queue := l.queue.erase a.frame })).insertFrame plainUrgency (mergeJoin a.frame.frame f)
    | none => s

/-- The attempt in progress failed; after a mismatch the sender drives the reject slot itself (R69, R71, R74). -/
def State.attemptFails (s : State) (mismatch : Bool) : State :=
  match s.link.sending with
  | none => s
  | some a =>
    let s1 := (s.modLink (fun l => { l with sending := none, failures := l.failures + 1, rejectDriven := mismatch })).settleAttempt a
    if failureLimit ≤ s1.link.failures then s1.enterLinkDown (frameKind a.frame.frame) else s1

/-! Frames that fail (R70, R80). -/

/-- A frame found in error: the reject slot is driven on the bus, the quiet timer is loaded again in LINK-DOWN (R70, R80). -/
def State.frameInError (s : State) : State :=
  match s.link.state with
  | .joining | .active => s.modLink (fun l => { l with rejectDriven := true })
  | .linkDown => s.modLink (fun l => { l with quiet := some quietTime, rejectDriven := false })
  | .silent | .isolated => s

/-- A frame that was not carried, as the station read it (R70, R80). -/
def State.frameFails (s : State) (r : Reception) : State :=
  match s.link.state with
  | .joining | .active =>
    if r.idleEarly then (s.modLink (fun l => { l with rejectDriven := false })).offerJoin true
    else s.modLink (fun l => { l with rejectDriven := inError r.bits })
  | .linkDown =>
    if r.idleEarly || r.rejectDominant || inError r.bits then s.modLink (fun l => { l with quiet := some quietTime, rejectDriven := false }) else s
  | .silent | .isolated => s

/-! Entering JOINING and ACTIVE (R79, R171). -/

/-- Entry into JOINING, by START or from LINK-DOWN (R79). -/
def State.enterJoining (s : State) : State :=
  (s.modLink (fun l => { l with state := .joining, failures := 0, joining := some joiningTime, quiet := none })).offerJoin true

/-- The start restore takes an outlet: of the restore set and still OFF, or SHED on a bank that is NORMAL (R171). -/
def State.startTakes (s : State) (o : OutletId) : Bool :=
  (hasOutlet s.restoreSet o && decide ((s.outlet o).state = .off)) || (decide ((s.outlet o).state = .shed) && !s.isHeld (bankOf o))

/-- The start restore, at the first entry into ACTIVE after START (R171). -/
def State.startRestore (s : State) : State :=
  if s.startRestored then s
  else { (s.inRestoreOrder (allOutlets.filter s.startTakes)).foldl State.restoreShed s with restoreSet := 0, startRestored := true }

/-- Entry into ACTIVE (R79, R83, R171). -/
def State.enterActive (s : State) : State :=
  ((s.modLink (fun l => { l with state := .active, joining := none })).post .linkUp s.station.val 0 (s.peersIn .live)).startRestore

end Sys2Proof.Machine
end

