-- ==== Sys2Proof/Machine/Overload.lean ====
section
/-! DEFINITION. Overload shedding: evaluation (R125, R126), designation (R128, R129), the shed (R130, R131) and the end of a hold (R132). -/

namespace Sys2Proof.Machine

/-- The detail codes of BRANCH-OVERLOAD (11.5). -/
def noCandidateCode : Nat := 1
def noneLeftCode : Nat := 2

/-- The lowest rank an entry holds on a bank mapped to branch `n`; 255 where it has none (R128). -/
def Peer.rankOn (p : Peer) (n : BranchId) : Nat := ((allBanks.filter (p.onBranch n)).map p.ranks.get).foldl min 255

/-- The ranks considered for branch `n`, one for each LIVE entry, with its station (R128). -/
def State.ranksOn (s : State) (n : BranchId) : List (StationId × Nat) :=
  (allNumbers.filter (fun k => decide ((s.peer k).state = .live))).map (fun k => (k, (s.peer k).rankOn n))

/-- The lowest rank considered for branch `n`; 255 when there is no candidate (R128). -/
def State.bestRank (s : State) (n : BranchId) : Nat := ((s.ranksOn n).map (·.2)).foldl min 255

/-- The designated shedder: the lowest station that holds the lowest rank, or none where there is no candidate (R128). -/
def State.designated (s : State) (n : BranchId) : Option StationId :=
  if s.bestRank n = 255 then none else ((s.ranksOn n).find? (fun x => decide (x.2 = s.bestRank n))).map (·.1)

/-- BRANCH-OVERLOAD is queued once for a spell of overload (R129, R130). The mark is set when the event is given to the port, also where the mask or a
full queue keeps it out (the model's choice, log 52). -/
def State.reportOverload (s : State) (n : BranchId) (detail : Nat) : State :=
  if (s.over n).reported then s
  else (s.modOver n (fun r => { r with reported := true })).post .branchOverload n.val detail (s.branchLoad n)

/-- Of two candidates, the one shed first: the lower rank, and at equal ranks the higher number (R130). -/
def State.shedBefore (s : State) (best : Option OutletId) (o : OutletId) : Option OutletId :=
  match best with
  | none => some o
  | some x => if (s.outlet o).cfg.shedRank ≤ (s.outlet x).cfg.shedRank then some o else some x

/-- The station's own outlet to shed on branch `n` (R130). -/
def State.shedChoice (s : State) (n : BranchId) : Option OutletId :=
  (allOutlets.filter (fun o => decide ((s.bank (bankOf o)).branch = n) && (s.outlet o).isCandidate)).foldl s.shedBefore none

/-- The station, designated as the shedder of branch `n`, sheds (R130, R131). -/
def State.shedOn (s : State) (n : BranchId) : State :=
  match s.shedChoice n with
  | some o => ((s.enterOpening o).post .overloadShed (outletNo o) n.val (s.branchLoad n)).offerStatus
  | none => s.offerStatus.reportOverload n noneLeftCode

/-- An evaluation in OVER-ONCE that found the branch over its limit (R128 to R130). -/
def State.designate (s : State) (n : BranchId) : State :=
  match s.designated n with
  | none => (s.modOver n (fun r => { r with state := .clear, shedder := none })).reportOverload n noCandidateCode
  | some k =>
    let s1 := s.modOver n (fun r => { r with state := .hold, shedder := some k })
    if k = s.station then s1.shedOn n else s1

/-- One overload evaluation of a branch, not in HOLD (R125, R126). -/
def State.evaluate (s : State) (n : BranchId) : State :=
  let s1 := s.modOver n (fun r => { r with loadTotal := s.branchLoad n })
  if s.ownLimit n < s.branchLoad n then
    match (s.over n).state with
    | .clear => s1.modOver n (fun r => { r with state := .overOnce })
    | .overOnce => s1.designate n
    | .hold => s
  else s1.modOver n (fun r => { r with state := .clear, reported := false })

/-- A STATUS from `source` reaches the record of branch `n`: it ends a hold on that shedder, is passed over in another hold, and is evaluated
where it touches a branch that the station uses (R125, R126, R132). -/
def State.overloadStep (source : StationId) (s : State) (n : BranchId) : State :=
  if (s.over n).state = .hold then
    if (s.over n).shedder = some source then s.modOver n (fun r => { r with state := .clear, shedder := none }) else s
  else if s.uses n && allBanks.any ((s.peer source).onBranch n) then s.evaluate n
  else s

/-- Overload evaluation after a STATUS, branch by branch (R125, log 25). -/
def State.overloadAfter (s : State) (source : StationId) : State := allNumbers.foldl (State.overloadStep source) s

/-- A hold whose shedder is station `k` ends: it became LOST or ABSENT (R132). -/
def State.endHolds (s : State) (k : StationId) : State :=
  { s with
    overload := s.overload.mapIdx (fun _ r => if r.state = .hold ∧ r.shedder = some k then { r with state := .clear, shedder := none } else r) }

end Sys2Proof.Machine
end

