-- ==== Sys2Proof/Machine/Peers.lean ====
section
/-! DEFINITION. The peer table: hearing a station (R96 to R98), JOIN (R87 to R91), conflicts (R91, R92), FORGET (R101), STATUS (R96), liveness (R98), and what the budget unit and the group engine make of each (R72, R109, R155). -/

namespace Sys2Proof.Machine

/-- The detail codes of PEER-JOINED and BRANCH-CONFLICT (11.5). -/
def joinedNewCode : Nat := 1
def joinedReturnedCode : Nat := 2
def joinedReplacedCode : Nat := 3
def conflictSetCode : Nat := 1
def conflictClearedCode : Nat := 2

/-- 1.5 s (R98). -/
def livenessTime : Nat := 1500

/-- The lower 32 bits of an entry's serial (R102). -/
def Peer.serialLow (p : Peer) : Nat :=
  match p.info with
  | some i => Sys2Proof.Machine.serialLow i.serial
  | none => 0

/-! Hearing a station (R96 to R98). -/

/-- A frame of station `k`, not a JOIN, renews a LIVE entry and brings a LOST one back to LIVE (R98). -/
def State.heard (s : State) (k : StationId) : State :=
  match (s.peer k).state with
  | .absent => s
  | .live => s.modPeer k (fun p => { p with lastHeard := some s.boardTime })
  | .lost =>
    (s.modPeer k (fun p => { p with state := .live, lastHeard := some s.boardTime, becameLive := some s.boardTime })).post .peerJoined k.val
      joinedReturnedCode (s.peer k).serialLow

/-- A frame other than a JOIN or a FORGET from an unknown station makes a station on the bus offer its JOIN with reply requested (R97). -/
def State.heardFrom (s : State) (k : StationId) : State :=
  if (s.peer k).state = .absent then (if s.link.state.onBus then s.offerJoin true else s) else s.heard k

/-! Rosters (R86). -/

/-- The roster of a group as the table now gives it (R86). -/
def State.rosterOf (s : State) (g : Nat) : NumberSet :=
  numbersWhere (fun k => decide (k = s.station) || ((s.peer k).known && (s.peer k).groups.contains g))

def State.rebuildRosters (s : State) : State := { s with groups := s.groups.map (fun e => { e with roster := s.rosterOf e.group }) }

/-! Conflicts (R91, R92). -/

/-- A bank on branch `n` is given a limit other than the station's own. -/
def limitDiffers (map : Banked BranchId) (limits : Banked Nat) (n : BranchId) (own : Nat) : Bool :=
  allBanks.any (fun b => decide (map.get b = n) && decide (limits.get b ≠ own))

/-- A JOIN disagrees with the station about branch `n`, which both use (R91). -/
def State.joinDiffers (s : State) (p : JoinPayload) (n : BranchId) : Bool := s.uses n && limitDiffers p.map p.limits n (s.ownLimit n)

/-- An entry holds branch `n` in conflict (R92). -/
def State.entryDiffers (s : State) (n : BranchId) (k : StationId) : Bool :=
  match (s.peer k).info with
  | none => false
  | some i => decide (k ≠ s.station) && (s.peer k).known && limitDiffers i.map i.limits n (s.ownLimit n)

/-- A branch on which a JOIN disagrees goes into conflict (R91). -/
def State.setConflict (source : StationId) (s : State) (n : BranchId) : State :=
  if hasNumber s.conflicts n then s
  else { s with conflicts := addNumber s.conflicts n }.post .branchConflict n.val conflictSetCode source.val

/-- The conflict check of a JOIN from another station (R91). Several branches that go into conflict are taken in ascending order (the model's
choice, log 40). -/
def State.checkConflicts (s : State) (source : StationId) (p : JoinPayload) : State :=
  let found := allNumbers.filter (s.joinDiffers p)
  found.foldl (State.setConflict source) (s.modPeer source (fun e => { e with conflict := !found.isEmpty }))

/-- A branch in conflict with no differing entry left leaves conflict (R92). -/
def State.clearConflict (named : StationId) (s : State) (n : BranchId) : State :=
  if hasNumber s.conflicts n && !allNumbers.any (s.entryDiffers n) then
    { s with conflicts := removeNumber s.conflicts n }.post .branchConflict n.val conflictClearedCode named.val
  else s

/-- Every branch in conflict is rechecked; `named` is the station the frame names (R92). The branches are taken in ascending order, after those that
the same JOIN puts into conflict (the model's choice, log 40). -/
def State.recheckConflicts (s : State) (named : StationId) : State := allNumbers.foldl (State.clearConflict named) s

/-! Retry triggers (R109). -/

/-- A frame lowered T(n), or cleared a conflict on `n` (R109). -/
def loweredOrCleared (before after : State) (n : BranchId) : Bool :=
  decide (after.branchTotal n < before.branchTotal n) || (hasNumber before.conflicts n && !hasNumber after.conflicts n)

/-- An entry's bank is mapped to branch `n`. -/
def Peer.mapsTo (p : Peer) (n : BranchId) (b : Bank) : Bool :=
  match p.info with
  | none => false
  | some i => decide (i.map.get b = n)

/-- The limit of an entry's bank. -/
def Peer.limitOf (p : Peer) (b : Bank) : Option Nat := p.info.map (fun i => i.limits.get b)

/-- A JOIN changed a limit or a mapping on branch `n` in the entry it rewrote (R109, log 19). -/
def entryChanged (old new : Peer) (n : BranchId) : Bool :=
  allBanks.any (fun b => (old.mapsTo n b != new.mapsTo n b) || (new.mapsTo n b && decide (old.limitOf b ≠ new.limitOf b)))

/-! JOIN (R87 to R90). -/

/-- A number put in an ascending list, once. -/
def insertAscending (x : Nat) : List Nat → List Nat
  | [] => [x]
  | y :: ys => if x = y then y :: ys else if x < y then x :: y :: ys else y :: insertAscending x ys

/-- The group list as it is stored: ascending, without 0 and without repeats (R84, R87). -/
def storedGroups (l : List Nat) : List Nat := (l.filter (fun g => decide (g ≠ 0))).foldl (fun t g => insertAscending g t) []

/-- The entry a JOIN leaves (R88, steps 1 to 3). -/
def Peer.joined (now : BoardTime) (p : JoinPayload) (e : Peer) : Peer :=
  { e with
    state := .live
    lastHeard := some now
    becameLive := if e.state = .live then e.becameLive else some now
    info := some ⟨p.serial, p.map, p.limits⟩
    helds := p.helds
    groups := storedGroups p.groups
    loads := if e.state = .absent then .fill 0 else e.loads
    ranks := if e.state = .absent then .fill 255 else e.ranks
    flags := if e.state = .absent then .fill ⟨false, false⟩ else e.flags }

/-- The entry's serial differs from the JOIN's. -/
def Peer.serialDiffers (e : Peer) (n : Serial) : Bool :=
  match e.info with
  | some i => decide (i.serial ≠ n)
  | none => true

/-- DUPLICATE-STATION for a LIVE entry that holds another serial (R90). -/
def State.reportDuplicate (s : State) (source : StationId) (p : JoinPayload) : State :=
  if source ≠ s.station ∧ (s.peer source).state = .live ∧ (s.peer source).serialDiffers p.serial = true then
    s.post .duplicateStation source.val (frameKindCode .join) (serialLow p.serial)
  else s

/-- The detail of PEER-JOINED for the entry as it was before the JOIN (R102). -/
def Peer.joinedDetail (e : Peer) (n : Serial) : Nat :=
  if e.state = .absent then joinedNewCode else if e.serialDiffers n then joinedReplacedCode else joinedReturnedCode

/-- PEER-JOINED, for another station that was ABSENT or LOST before (R88, step 6). -/
def State.reportJoined (s : State) (before : Peer) (source : StationId) (p : JoinPayload) : State :=
  if source ≠ s.station ∧ before.state ≠ .live then s.post .peerJoined source.val (before.joinedDetail p.serial) (serialLow p.serial) else s

/-- The reply to a JOIN that asks for one (R89). -/
def State.replyJoin (s : State) (source : StationId) (p : JoinPayload) : State :=
  if p.replyRequested && decide (source ≠ s.station) && s.link.state.onBus then s.offerJoin false else s

/-- What the peer table does with a JOIN (R88, R90 to R92). -/
def State.tableJoin (s : State) (source : StationId) (p : JoinPayload) : State :=
  let s1 := (((s.reportDuplicate source p).modPeer source (Peer.joined s.boardTime p))).rebuildRosters
  let s2 := if source = s.station then s1 else s1.checkConflicts source p
  ((s2.recheckConflicts source).reportJoined (s.peer source) source p).replyJoin source p

/-- The retry triggers of a JOIN (R109). -/
def State.budgetJoin (before : State) (source : StationId) (s : State) : State :=
  s.triggerRetries (fun n =>
    loweredOrCleared before s n || entryChanged (before.peer source) (s.peer source) n ||
      (decide (source = s.station) && decide ((before.peer source).state = .absent)))

/-- A record is in OFF-PHASE or DWELL. -/
def CycleRecord.beforeRestore (r : CycleRecord) : Bool := decide (r.phase = .offPhase) || decide (r.phase = .dwell)

/-- The station is in a set after and was not before. -/
def gained (before after : NumberSet) : Bool := allNumbers.any (fun k => hasNumber after k && !hasNumber before k)

/-- A JOIN ends the wait of a cycle of group `g`: the roster gained a station, or a roster station other than the applier asks for replies (R155). -/
def State.joinAborts (before s : State) (source : StationId) (p : JoinPayload) (g : Nat) : Bool :=
  gained (before.roster g) (s.roster g) || (p.replyRequested && decide (source ≠ s.station) && hasNumber (before.roster g) source)

/-- What the group engine does with a JOIN, for one record, one in DONE included (R155). -/
def State.groupJoin (before : State) (source : StationId) (p : JoinPayload) (s : State) (g : Nat) : State :=
  match s.record? g with
  | none => s
  | some r =>
    let s1 := if r.beforeRestore && s.joinAborts before source p g then s.offerAbort g .rejoined else s
    if hasNumber (before.roster g) source && !hasNumber (s.roster g) source then s1.removeAwaited g source else s1

/-- The groups whose records the group engine goes through, in group number order. -/
def State.recordGroups (s : State) : List Nat := s.records.map (·.group)

/-- A JOIN is applied: peer table, budget unit, group engine (R72). -/
def State.applyJoin (s : State) (source : StationId) (p : JoinPayload) : State :=
  s.recordGroups.foldl (State.groupJoin s source p) (State.budgetJoin s source (s.tableJoin source p))

/-! FORGET (R101). -/

/-- PEER-FORGOTTEN, or the own JOIN when the station itself is forgotten (R101, steps 4 and 5). -/
def State.reportForgotten (s : State) (k : StationId) (former : EntryState) : State :=
  if k = s.station then (if s.link.state.onBus then s.offerJoin true else s)
  else s.post .peerForgotten k.val (entryStateCode former) 0

/-- What the peer table does with a FORGET naming `k`, in the order of the numbered steps of R101: a BRANCH-CONFLICT CLEARED comes before PEER-FORGOTTEN,
though step 4 of 'Taking a strip out of a rack' has it follow (the model's choice, log 49). -/
def State.tableForget (s : State) (k : StationId) : State :=
  ((((s.modPeer k (fun _ => Peer.absent)).rebuildRosters).recheckConflicts k).reportForgotten k (s.peer k).state)

/-- A FORGET is applied (R72, R101, R109, R132, R155). The peer table hears the sender (R98) before it takes the steps of R101 (the model's choice,
log 47). -/
def State.applyForget (s : State) (source k : StationId) : State :=
  let before := s.heard source
  let s1 := before.tableForget k
  let s2 := (s1.triggerRetries (loweredOrCleared s s1)).endHolds k
  if k = s.station then s2 else s2.recordGroups.foldl (fun t g => t.removeAwaited g k) s2

/-! STATUS (R96). -/

/-- The entry a STATUS leaves; an ABSENT one is not written (R96, R97). -/
def Peer.reported (p : Banked StatusBank) (e : Peer) : Peer :=
  if e.state = .absent then e
  else
    { e with
      loads := p.map (·.load), helds := p.map (·.held), ranks := p.map (·.rank), flags := p.map (fun x => ⟨x.sag, x.recovering⟩) }

/-- A STATUS is applied: table, ending of own claims, retry triggers, overload (R96, R109, R118, R119, R125). -/
def State.applyStatus (s : State) (source : StationId) (p : Banked StatusBank) : State :=
  let s1 := (s.heardFrom source).modPeer source (Peer.reported p)
  let s2 := if source = s.station then s1.endClaims p else s1
  (s2.triggerRetries (loweredOrCleared s s2)).overloadAfter source

/-! Liveness (R98). -/

/-- The link states in which the table times its peers (R98). -/
def LinkState.timesPeers : LinkState → Bool
  | .silent => false
  | .joining | .active | .linkDown | .isolated => true

/-- When entry `k` becomes LOST unless it is heard (R98). -/
def State.livenessDue (s : State) (k : StationId) : Option Nat :=
  if s.link.state.timesPeers && decide (k ≠ s.station) && decide ((s.peer k).state = .live) then
    (s.peer k).lastHeard.map (fun t => livenessTime - msSince s.boardTime t)
  else none

/-- The board time since an entry last became LIVE (R102). -/
def State.liveFor (s : State) (k : StationId) : Nat :=
  match (s.peer k).becameLive with
  | some t => msSince s.boardTime t
  | none => 0

/-- The group engine hears that a roster station became LOST (R155). -/
def State.groupLost (k : StationId) (s : State) (g : Nat) : State :=
  match s.cycle? g with
  | none => s
  | some r =>
    if hasNumber (s.roster g) k then
      match r.phase with
      | .offPhase | .dwell => s.offerAbort g .peerLost
      | .onPhase => s.removeAwaited g k
      | .restoringAbort | .done => s
    else s

/-- A LIVE entry becomes LOST (R98, R132, R155). -/
def State.losePeer (k : StationId) (s : State) : State :=
  let s1 := (((s.modPeer k (fun e => { e with state := .lost })).post .peerLost k.val 0 (s.liveFor k))).endHolds k
  s1.recordGroups.foldl (State.groupLost k) s1

end Sys2Proof.Machine
end

