-- ==== Sys2Proof/Machine/Applying.lean ====
section
/-! DEFINITION. Applying a carried frame: whose it is (R71, R73, R80, R90), a CLAIM (R110 to R112), and the group frames (R141 to R153, R158). -/

namespace Sys2Proof.Machine

/-! Whose frame it is. -/

/-- The carried frame is the one this station is sending (R72, log 12). -/
def State.isOwnAttempt (s : State) (source : StationId) (f : PeerFrame) : Bool :=
  match s.link.sending with
  | some a => decide (source = s.station) && decide (a.frame.frame = f)
  | none => false

/-- The serial a frame reveals in DUPLICATE-STATION (R81). -/
def revealedSerial : PeerFrame → Nat
  | .join p => serialLow p.serial
  | _ => 0

/-- A frame that carries the station's own number is this station's: it is sending it, or it is a JOIN with its serial (R73, R90). -/
def State.isOwnFrame (s : State) (source : StationId) (f : PeerFrame) : Bool :=
  s.isOwnAttempt source f ||
    match f with
    | .join p => decide (p.serial = s.serial)
    | _ => false

/-- The end of the own attempt, if the frame is its frame (R71). It comes before the frame is applied, so that a replacement that waited stands in the
reserved place first, and a STATUS that the application offers replaces it (R76; the model's choice, log 51). -/
def State.takeOwn (s : State) (source : StationId) (f : PeerFrame) : State := if s.isOwnAttempt source f then s.attemptCarried else s

/-- The reject slot of the frame is left recessive (R70). -/
def State.leaveSlot (s : State) : State := s.modLink (fun l => { l with rejectDriven := false })

/-- A frame carried successfully reaches the station: `act` applies it, unless the station receives nothing, the frame is in error (R189,
log 30), or it comes from another board of the same number (R65, R70, R73, R80, R81). -/
def State.receive (s : State) (source : StationId) (f : PeerFrame) (act : State → State) : State :=
  match s.link.state with
  | .silent | .isolated => s
  | .linkDown =>
    if !payloadInRange f then s.frameInError
    else if source = s.station then s.leaveSlot.enterIsolated (frameKind f) (revealedSerial f)
    else act s.leaveSlot
  | .joining | .active =>
    if !payloadInRange f then s.frameInError
    else if source = s.station && !s.isOwnFrame source f then s.leaveSlot.enterIsolated (frameKind f) (revealedSerial f)
    else act (s.takeOwn source f).leaveSlot

/-! CLAIM (R110 to R112). -/

/-- A GRANTED verdict on the own claim, its outlet CLAIMING: the outlet enters CLOSING (R7, R112). -/
def State.takeGrant (s : State) (b : Bank) (o : OutletId) : State :=
  (s.modClaim b (fun c => { c with state := .granted, denials := 0, retryWait := none })).enterClosing o

/-- A GRANTED verdict on a withdrawn claim, or for an outlet that is no longer CLAIMING: the claim is dropped (R7, R112, R119). -/
def State.dropGrant (s : State) (b : Bank) : State :=
  (s.modClaim b (fun c => { c with state := .granted, withdrawn := false, ending := .dropped })).offerStatus

/-- The claimant acts on its verdict (R112). -/
def State.actOnVerdict (s : State) (p : ClaimPayload) (granted : Bool) : State :=
  if (s.claim p.bank).state = .sent then
    if granted then
      if !(s.claim p.bank).withdrawn && decide ((s.outlet p.outlet).state = .claiming) then s.takeGrant p.bank p.outlet else s.dropGrant p.bank
    else s.modClaim p.bank (Claim.denied p.outlet)
  else s

/-- A CLAIM is applied: heard, judged or recorded, and at the claimant acted on, after which its unsent STATUS and JOIN are composed again
(R95, R97, R110 to R112). -/
def State.applyClaim (s : State) (source : StationId) (p : ClaimPayload) : State :=
  let s1 := s.heardFrom source
  let s2 := s1.recordClaim source p
  if source = s.station then (s2.actOnVerdict p (s1.verdict source p)).recompose else s2

/-! Group frames (R140 to R153). -/

/-- The originator's pending tag is cleared when its own OPEN-GROUP is applied (R140). -/
def State.clearPending (s : State) (source : StationId) (p : OpenGroupPayload) : State :=
  if source = s.station then s.modGroup p.group (fun e => if e.pendingTag = some p.tag then { e with pendingTag := none } else e) else s

/-- GROUP-MERGED at the station whose OPEN-GROUP was ignored (R140). -/
def State.reportMerged (s : State) (source : StationId) (g : Nat) (r : CycleRecord) : State :=
  if source = s.station then s.post .groupMerged g r.tag.station.val r.tag.seq.val else s

/-- GROUP-REQUESTED for a cycle that another station opened (R141). Its detail is the station that sent the OPEN-GROUP, also where the tag names another
originator (the model's choice, log 50). -/
def State.reportRequested (s : State) (source : StationId) (p : OpenGroupPayload) : State :=
  if source = s.station then s else s.post .groupRequested p.group source.val p.dwell

/-- A roster station is LOST (R141). -/
def State.rosterHasLost (s : State) (g : Nat) : Bool := decide (s.lostOf (s.roster g) ≠ 0)

/-- The GROUP-ABORT offered at once when a roster station is LOST: the state, and whether the frame was not taken (R141, R156). -/
def State.abortAtOpen (s : State) (r : CycleRecord) : State × Bool :=
  if s.rosterHasLost r.group then
    match s.queueAbort r .rosterLost with
    | some s' => (s', false)
    | none => (s.abortNotQueued r, true)
  else (s, false)

/-- A cycle is opened at this station (R141, R142; an abort that was not taken acts last, log 22). -/
def State.openCycle (s : State) (source : StationId) (p : OpenGroupPayload) : State :=
  let r := s.newRecord p
  let x := { s with records := insertRecord r s.records }.abortAtOpen r
  let s1 := ((((s.members p.group).foldl State.openMember x.1)).maybeGroupOff p.group).reportRequested source p
  if x.2 then s1.actAbort p.group .rosterLost else s1

/-- An OPEN-GROUP is applied (R140, R141). -/
def State.applyOpenGroup (s : State) (source : StationId) (p : OpenGroupPayload) : State :=
  let s1 := (s.heardFrom source).clearPending source p
  match s1.group? p.group with
  | none => s1
  | some _ =>
    if s1.link.state = .linkDown then s1
    else
      match s1.cycle? p.group with
      | some r => s1.reportMerged source p.group r
      | none => s1.openCycle source p

/-- The record in progress of a group and a tag (R158). -/
def State.cycleOf (s : State) (g : Nat) (t : Tag) : Option CycleRecord :=
  match s.cycle? g with
  | some r => if r.tag = t then some r else none
  | none => none

/-- A GROUP-OFF is applied (R145). -/
def State.applyGroupOff (s : State) (source : StationId) (p : GroupOffPayload) : State :=
  let s1 := s.heardFrom source
  match s1.cycleOf p.group p.tag with
  | none => s1
  | some r =>
    if r.phase = .offPhase ∧ hasNumber r.awaited source = true then
      let s2 := s1.modRecord p.group (fun r => { r with gOpened := gather r.gOpened p.opened, gHeld := gather r.gHeld p.held })
      if r.policy = .strict ∧ 0 < p.held then
        (s2.modRecord p.group (fun r => { r with awaited := removeNumber r.awaited source })).abortCycle p.group .held
      else s2.removeAwaited p.group source
    else s1

/-- The counts of a GROUP-ON are gathered (R147, R150). -/
def CycleRecord.gatherOn (p : GroupOnPayload) (r : CycleRecord) : CycleRecord :=
  { r with gRestored := gather r.gRestored p.restored, gFailed := gather r.gFailed p.failed }

/-- A GROUP-ON is applied (R147, R150). -/
def State.applyGroupOn (s : State) (source : StationId) (p : GroupOnPayload) : State :=
  let s1 := s.heardFrom source
  match s1.cycleOf p.group p.tag with
  | none => s1
  | some r =>
    match r.phase with
    | .dwell =>
      if hasNumber (s1.roster p.group) source then
        s1.modRecord p.group (fun r => { r.gatherOn p with early := addNumber r.early source })
      else s1
    | .onPhase =>
      if hasNumber r.awaited source then (s1.modRecord p.group (CycleRecord.gatherOn p)).removeAwaited p.group source else s1
    | .offPhase | .restoringAbort | .done => s1

/-- A GROUP-ABORT is applied (R153). -/
def State.applyGroupAbort (s : State) (source : StationId) (p : GroupAbortPayload) : State :=
  let s1 := s.heardFrom source
  match s1.cycleOf p.group p.tag with
  | none => s1
  | some _ => s1.actAbort p.group (endReasonOf p.reason)

end Sys2Proof.Machine
end

