-- ==== Sys2Proof/Machine/Replies.lean ====
section
/-! DEFINITION. The replies of the read commands, byte by byte (R180 to R183, 11.2), with the result each capture fixes (R179). -/

namespace Sys2Proof.Machine

/-- A number in `w` bytes, most significant first (R189). -/
def beBytes : Nat → Nat → List Byte
  | 0, _ => []
  | w + 1, n => BitVec.ofNat 8 (n / 256 ^ w) :: beBytes w n

/-- A signed number in 4 bytes, two's complement (R189). -/
def signedBytes (n : Int) : List Byte := beBytes 4 (BitVec.ofInt 32 n).toNat

def zeros (n : Nat) : List Byte := List.replicate n 0

/-- A list of byte groups brought to `n` places of `w` bytes: unused places are 0 (R189). -/
def places (n w : Nat) (l : List (List Byte)) : List Byte := ((l ++ List.replicate n (zeros w)).take n).flatten

def okSlot : ResultSlot := ⟨.ok, 0⟩

/-- An outlet, or 0 for none (R189). -/
def outletOrZero : Option OutletId → Nat
  | some o => outletNo o
  | none => 0

/-- A station, or 255 for none (R189). -/
def stationOrNone : Option StationId → Nat
  | some k => k.val
  | none => 255

/-- The four port flags at their places in the status byte (R180, 11.2, log 33). -/
def Port.flagsByte (p : Port) : Nat := bitAt 7 p.res + bitAt 6 p.evt + bitAt 5 p.lost + bitAt 4 p.rej

/-- READ STATUS (R180). -/
def State.statusReply (s : State) : List Byte :=
  beBytes 1 s.phase.code ++ beBytes 1 (linkStateCode s.link.state) ++ beBytes 1 s.link.failures ++ beBytes 1 s.station.val ++
    beBytes 1 (bitAt 1 s.lke + bitAt 0 s.lockSample) ++ beBytes 6 s.serial.toNat ++ beBytes 4 s.boardTime.toNat ++ beBytes 1 (s.peersIn .live) ++
    beBytes 1 (s.peersIn .lost) ++ beBytes 2 s.conflicts.toNat ++ beBytes 1 s.port.events.length ++ beBytes 1 s.port.flagsByte

/-- The coding of cycle-member, and the local dwell (11.2). -/
def cycleMemberCode : CycleMember → Nat
  | .none => 0
  | .localCycle _ => 1
  | .group => 2

def localDwell : CycleMember → Nat
  | .localCycle d => d
  | .none | .group => 0

def WindowRecord.bytes (r : WindowRecord) : List Byte :=
  beBytes 2 r.amps ++ signedBytes r.watts ++ beBytes 4 r.voltAmps ++ beBytes 1 r.powerFactor ++
    beBytes 1 (bitAt 2 r.disturbed + bitAt 1 r.noLine + bitAt 0 r.reverse)

/-- READ OUTLET (R181). -/
def State.outletReply (s : State) (o : OutletId) : List Byte :=
  let x := s.outlet o
  let m := s.meter o
  beBytes 1 (outletNo o) ++ beBytes 1 x.cfg.profile.val ++ beBytes 1 x.cfg.group ++ beBytes 2 x.cfg.tripThreshold ++
    beBytes 1 (bitAt 0 x.cfg.startOn) ++ beBytes 1 x.cfg.restoreOrder ++ beBytes 1 x.cfg.shedRank ++
    beBytes 1 (outletStateCode x.state) ++ beBytes 1 (subPhaseCode x.sub) ++ beBytes 1 (hostTargetCode x.target) ++
    beBytes 1 (bitAt 7 x.isProtected + bitAt 6 x.pendingOff + bitAt 5 x.restoreIntent + bitAt 4 x.unalignedLast + bitAt 3 m.reversePower +
      bitAt 1 m.record.isSome + bitAt 0 m.undisturbed.isSome) ++
    beBytes 1 (cycleMemberCode x.cycle) ++ beBytes 2 (localDwell x.cycle) ++
    (match m.record with
      | some r => r.bytes
      | none => zeros 12) ++
    beBytes 2 (m.undisturbed.getD 0) ++ beBytes 6 m.energy.toNat ++ beBytes 2 m.peak

def LineRecord.bytes (r : LineRecord) : List Byte :=
  beBytes 2 r.volts ++ beBytes 2 r.frequency ++ beBytes 1 r.halves ++ beBytes 2 r.duration ++ beBytes 4 r.endTime.toNat ++
    beBytes 1 (bitAt 1 true + bitAt 0 r.noLine)

/-- One place of the closure queue (R123). -/
def State.queuePlace (s : State) (o : OutletId) : List Byte :=
  beBytes 1 (outletNo o) ++ beBytes 1 (s.restoreOrder o) ++ beBytes 4 ((s.outlet o).claimWait.getD 0)

/-- The own claim record (R123). -/
def Claim.bytes (c : Claim) : List Byte :=
  beBytes 1 (claimStateCode c.state) ++ beBytes 1 (outletOrZero c.outlet) ++ beBytes 2 c.amount ++
    beBytes 1 (bitAt 7 c.withdrawn + endingMarkCode c.ending) ++ beBytes 1 c.absorbTarget ++ beBytes 1 c.absorbCount ++ beBytes 1 c.denials ++
    beBytes 1 (outletOrZero c.retryWait)

def Overload.bytes (r : Overload) : List Byte :=
  beBytes 1 (overloadStateCode r.state) ++ beBytes 1 (stationOrNone r.shedder) ++ beBytes 2 r.loadTotal ++ beBytes 1 (bitAt 0 r.reported)

/-- READ BANK (R123, R181). -/
def State.bankReply (s : State) (b : Bank) : List Byte :=
  let c := s.bank b
  let l := s.line b
  beBytes 1 (bankNo b) ++
    (match (s.window b).line with
      | some r => r.bytes
      | none => zeros 12) ++
    beBytes 2 (s.bankLoad b) ++ beBytes 1 (lineStateCode l.state) ++ beBytes 1 (bitAt 0 c.sagShed) ++ beBytes 1 l.reentry ++
    beBytes 2 (l.recovery.getD 0) ++ beBytes 1 (s.queue b).length ++ places 8 6 ((s.queue b).map s.queuePlace) ++ (s.claim b).bytes ++
    beBytes 1 c.branch.val ++ beBytes 2 (s.branchTotal c.branch) ++ beBytes 2 c.limit ++ beBytes 1 (bitAt 0 (hasNumber s.conflicts c.branch)) ++
    (s.over c.branch).bytes

/-- The bytes of one number for each bank, in bank order. -/
def bankedBytes (w : Nat) (t : Banked Nat) : List Byte := beBytes w t.a ++ beBytes w t.b ++ beBytes w t.c

def PeerInfo.bytes (i : PeerInfo) : List Byte := beBytes 6 i.serial.toNat ++ bankedBytes 1 (i.map.map (·.val)) ++ bankedBytes 2 i.limits

/-- The board time since an entry was last heard, 0 when it never was (R102). -/
def State.heardFor (s : State) (k : StationId) : Nat :=
  match (s.peer k).lastHeard with
  | some t => msSince s.boardTime t
  | none => 0

/-- READ PEER (R102, R182). -/
def State.peerReply (s : State) (k : StationId) : List Byte :=
  let p := s.peer k
  beBytes 1 k.val ++ beBytes 1 (entryStateCode p.state) ++
    (match p.info with
      | some i => i.bytes
      | none => zeros 15) ++
    bankedBytes 2 p.loads ++ bankedBytes 2 p.helds ++ bankedBytes 1 p.ranks ++ bankedBytes 1 (p.flags.map (fun f => bankFlagsByte f.sag f.recovering)) ++
    beBytes 1 (bitAt 0 p.conflict) ++ beBytes 1 p.groups.length ++ places 16 1 (p.groups.map (beBytes 1)) ++ beBytes 4 (s.heardFor k)

/-- The member set of a group at this station (R135). -/
def State.memberSet (s : State) (g : Nat) : OutletSet := outletsWhere (fun o => decide ((s.outlet o).cfg.group = g))

def pendingTagBytes : Option Tag → List Byte
  | some t => beBytes 1 1 ++ beBytes 1 (tagByte t)
  | none => zeros 2

/-- The status byte of an outlet in a record; 0 for an outlet that is no member (11.2). -/
def CycleRecord.memberByte (r : CycleRecord) (o : OutletId) : Nat :=
  match r.members.find? (fun m => decide (m.outlet = o)) with
  | some m => memberStatusCode m.status
  | none => 0

/-- The outcome byte: reported in DONE only (R137, R160). -/
def CycleRecord.outcomeByte (r : CycleRecord) : Nat :=
  match r.phase, r.outcome with
  | .done, some out => outcomeCode out
  | _, _ => 0

def CycleRecord.bytes (r : CycleRecord) : List Byte :=
  beBytes 1 1 ++ beBytes 1 (tagByte r.tag) ++ beBytes 2 r.dwell ++ beBytes 1 (policyCode r.policy) ++ beBytes 1 (cyclePhaseCode r.phase) ++
    beBytes 2 r.awaited.toNat ++ beBytes 2 r.early.toNat ++ beBytes 1 r.ownOpened ++ beBytes 1 (r.countStatus .held) ++
    beBytes 1 (r.countStatus .off) ++ beBytes 1 (r.countStatus .restored) ++ beBytes 1 (r.countStatus .failed) ++
    beBytes 1 r.gOpened ++ beBytes 1 r.gHeld ++ beBytes 1 r.gRestored ++ beBytes 1 r.gFailed ++
    beBytes 4 (r.offTimer.getD 0) ++ beBytes 4 (r.dwellTimer.getD 0) ++ beBytes 4 (r.onTimer.getD 0) ++ beBytes 1 (bitAt 0 r.abortOffered) ++
    allOutlets.flatMap (fun o => beBytes 1 (r.memberByte o)) ++ beBytes 1 r.outcomeByte

/-- READ GROUP for a group with an entry (R160, R182). -/
def State.groupReply (s : State) (e : GroupEntry) : List Byte :=
  beBytes 1 e.group ++ beBytes 2 e.dwell ++ beBytes 1 (policyCode e.policy) ++ beBytes 3 (s.memberSet e.group).toNat ++ pendingTagBytes e.pendingTag ++
    beBytes 2 e.roster.toNat ++ beBytes 2 (s.lostOf e.roster).toNat ++
    (match s.record? e.group with
      | some r => r.bytes
      | none => zeros 57)

def Event.bytes (e : Event) : List Byte :=
  beBytes 1 e.kind.code ++ beBytes 4 e.time.toNat ++ beBytes 1 e.subject ++ beBytes 1 e.detail ++ beBytes 4 e.value.toNat

/-- READ EVENT (R183). -/
def State.eventReply (s : State) : List Byte :=
  match s.port.events with
  | [] => zeros 12
  | e :: _ => beBytes 1 s.port.events.length ++ e.bytes

/-- READ RESULT (R179, 11.2). -/
def State.resultReply (s : State) : List Byte :=
  beBytes 1 (resultCode s.port.slot.code) ++ beBytes 1 s.port.slot.detail ++ beBytes 1 (bitAt 7 s.port.res)

/-- A read refused: a reply of zeros and the result its execution writes (R179). -/
def refusedReply (r : ReadRequest) (code : ResultCode) (detail : Nat) : List Byte × ResultSlot := (zeros (readReplyBytes r), ⟨code, detail⟩)

/-- The reply a read captures now, and the result its execution will write (R179 to R183). -/
def State.replyOf (s : State) (r : ReadRequest) : List Byte × ResultSlot :=
  match r with
  | .status => (s.statusReply, okSlot)
  | .outlet x c =>
    match outletArg x with
    | none => refusedReply r .badArg 1
    | some o => if c.toNat ≤ 1 then (s.outletReply o, okSlot) else refusedReply r .badArg 2
  | .bank x =>
    match bankArg x with
    | none => refusedReply r .badArg 1
    | some b => (s.bankReply b, okSlot)
  | .peer x =>
    match stationArg x with
    | none => refusedReply r .badArg 1
    | some k => (s.peerReply k, okSlot)
  | .group x =>
    if x = 0 then refusedReply r .badArg 1
    else
      match s.group? x.toNat with
      | none => refusedReply r .notMember 0
      | some e => (s.groupReply e, okSlot)
  | .event => (s.eventReply, okSlot)
  | .result => (s.resultReply, okSlot)

end Sys2Proof.Machine
end

