-- ==== Sys2Proof/Machine/Port.lean ====
section
/-! DEFINITION. The host port: the frame between the edges of select (R174, R175), capture (R176, R179), execution and rejection (R175 to R177), the side effects of the reads (R41, R180, R183), and the bytes out (R174). -/

namespace Sys2Proof.Machine

/-! The frame between the edges of select. -/

/-- Select falls: the status byte is captured, and nothing else is out yet (R174, R176). -/
def State.beginFrame (s : State) : State :=
  s.modPort (fun p => { p with select := .low, statusOut := s.statusByte, dataOut := [], capture := none })

/-- A frame is open in which no reply has been captured. -/
def State.frameOpen (s : State) : Bool := decide (s.port.select = .low) && s.port.capture.isNone

/-- The status byte of the frame: the one captured when select fell, or captured now where the fall was not sent by itself (R176, log 9). -/
def State.frameStatus (s : State) : Byte := if s.frameOpen then s.port.statusOut else s.statusByte

/-- The frame of a command that is taken whole: the open one, or one whose select falls now (R174, log 9, log 10). -/
def State.openFrame (s : State) : State :=
  s.modPort (fun p => { p with select := .low, statusOut := s.frameStatus, dataOut := [], capture := none })

/-- The frame of a command that is rejected whole: the open one with what it has sent out, or one whose select falls now (R174, log 9). -/
def State.joinFrame (s : State) : State := if s.port.select = .low then s else s.openFrame

/-- Select rises, and the frame leaves no trace (R175). -/
def State.closeFrame (s : State) : State := s.modPort (fun p => { p with select := .high, capture := none })

/-- Select is low in a frame that will be discarded at its rising (R175). -/
def State.discardFrame (s : State) : State := s.modPort (fun p => { p with select := .discarded, capture := none })

/-- The port takes frames: no reset is in progress, and the open frame is not one that a reset has met (R175). -/
def State.takesHostFrames (s : State) : Bool := !s.inReset && decide (s.port.select ≠ .discarded)

/-- Select rises: `f` takes the frame, or it is discarded with no flag changed (R175). -/
def State.atRising (s : State) (f : State → State) : State := if s.takesHostFrames then f s else s.closeFrame

/-- A frame with no clock edge is neither executed nor rejected (R175). -/
def State.onFrame (s : State) (bits : Nat) (f : State → State) : State := if bits = 0 then s.closeFrame else f s

/-- A frame is rejected: REJ is set and nothing else happens (R175). -/
def State.rejectFrame (s : State) : State := s.closeFrame.modPort (fun p => { p with rej := true })

/-- An executed frame writes its result: RES set, REJ cleared (R177). -/
def State.writeResult (s : State) (r : ResultSlot) : State :=
  s.closeFrame.modPort (fun p => { p with slot := r, res := true, rej := false })

/-- What a command answers: the state after its own effects, and its result. -/
abbrev Answer := State × ResultSlot

/-- The command is accepted, with its effects. -/
def accept (s : State) : Answer := (s, okSlot)

/-- The command is refused and changes nothing (R177). -/
def refuse (s : State) (code : ResultCode) (detail : Nat) : Answer := (s, ⟨code, detail⟩)

/-- A frame of a command that is not a read: `args` argument bytes, run whole or rejected (R175, R177). -/
def State.runFrame (s : State) (bits args : Nat) (run : State → Answer) : State :=
  s.onFrame bits (fun s =>
    if actionLengthOk bits args then (run s.openFrame).1.writeResult (run s.openFrame).2 else s.openFrame.rejectFrame)

/-- The command is taken in RUNNING only (R16, R100, R139, R152). -/
def whenRunning (run : State → Answer) (s : State) : Answer := if s.phase = .running then run s else refuse s .phase 0

/-- The command is taken in CONFIGURING only (R163, R169). -/
def whenConfiguring (run : State → Answer) (s : State) : Answer := if s.phase = .configuring then run s else refuse s .phase 0

/-! Reads. -/

/-- A reply is captured: a copy of the values as they stand, and the checks of the arguments; it goes out after a 0 for each argument byte
(R174, R179). -/
def State.captureReply (s : State) (r : ReadRequest) : State :=
  s.openFrame.modPort (fun p =>
    { p with
      dataOut := zeros (readArgBytes r) ++ (s.replyOf r).1
      capture := some ⟨r, (s.replyOf r).2, !p.events.isEmpty, false, 0⟩ })

/-- The capture of this read, made before or made now (R174, R179, log 10). -/
def State.withCapture (s : State) (r : ReadRequest) : State :=
  match s.port.capture with
  | some c => if c.request = r then s else s.captureReply r
  | none => s.captureReply r

/-- The side effect of an executed read whose arguments passed (R41, R179, R180, R183). -/
def State.readEffect (s : State) (c : Capture) : State :=
  match c.request with
  | .status => s.modPort (fun p => { p with lost := p.lost && c.lossSince })
  | .event => if c.hadEvent then s.modPort (fun p => { p with events := p.events.tail }) else s
  | .outlet x clear =>
    match outletArg x with
    | some o => if clear = 1 ∧ c.result = okSlot then s.modMeter o (fun m => { m with peak := c.peakSince }) else s
    | none => s
  | .bank _ | .peer _ | .group _ | .result => s

/-- What an executed read leaves in the result slot: READ RESULT takes OK and clears RES (R177). -/
def State.finishRead (s : State) (c : Capture) : State :=
  match c.request with
  | .result => s.closeFrame.modPort (fun p => { p with slot := okSlot, res := false, rej := false })
  | .status | .outlet _ _ | .bank _ | .peer _ | .group _ | .event => s.writeResult c.result

/-- A captured read reaches the rising of select: executed, or rejected with no side effect (R175, R177, R179). -/
def State.endRead (s : State) (bits : Nat) (r : ReadRequest) : State :=
  match s.port.capture with
  | none => s.rejectFrame
  | some c => if readLengthOk bits r then (s.readEffect c).finishRead c else s.rejectFrame

/-- A frame of a read command (R174, R175, R177, R179). -/
def State.runRead (s : State) (bits : Nat) (r : ReadRequest) : State :=
  s.onFrame bits (fun s => if readCaptures bits r then (s.withCapture r).endRead bits r else s.openFrame.rejectFrame)

/-- What a capture command does: select falls, or the last argument byte of a read has been taken. In a frame that a reset meets nothing is
captured (R174 to R176, R179). -/
def State.capturePort (s : State) : PortCapture → State
  | .statusByte => if s.inReset then s.discardFrame else s.beginFrame
  | .reply r => if s.takesHostFrames then s.captureReply r else s.discardFrame

/-! The bytes out. -/

/-- The byte out at place `k` of a frame: the status byte, 0 while arguments come in, the reply, and 0 after it (R174). -/
def Port.byteOut (p : Port) (k : Nat) : Byte := (p.statusOut :: p.dataOut).getD k 0

/-- The bit out at place `n` of a frame, the most significant bit of each byte first (10.1). -/
def Port.bitOut (p : Port) (n : Nat) : Bool := (p.byteOut (n / 8)).getLsbD (7 - n % 8)

end Sys2Proof.Machine
end

