-- ==== Sys2Proof/Machine/Resets.lean ====
section
/-! DEFINITION. The meanings of the two resets (R27, R28, R49, R50, R172, R173) and of LOCK (R24). -/

namespace Sys2Proof.Machine

/-- The answer of every command: the next state. No command of the board stops it. -/
abbrev Result := Host.Outcome State Fault Refusal

/-- The station number of a jumper sample, ST0 least significant (R161). -/
def Jumpers.station (j : Jumpers) : StationId := Fin.ofNat 16 (bitAt 3 j.st3 + bitAt 2 j.st2 + bitAt 1 j.st1 + bitAt 0 j.st0)

/-- The jumpers and LOCK as a reset samples them at its end (R24, R161). -/
def State.sampleInputs (s : State) (j : Jumpers) (lock : Bool) : State :=
  { s with jumperPins := j, lockPin := lock, station := Jumpers.station j, lke := j.lke, lockSample := lock }

/-- A frame open when a reset is in progress is discarded at the next rising of select (R175). -/
def SelectLine.throughReset : SelectLine → SelectLine
  | .high => .high
  | .low | .discarded => .discarded

/-- The host port after a reset: as R188 gives it, with select where it stands (R175, R188). -/
def Port.afterReset (p : Port) : Port := { Port.reset with select := p.select.throughReset }

/-- POWER_ON_RESET: every block takes its power-on values; the serial and the commands that wait are kept (R172, log 15, log 32). It ends a
warm reset that is in progress: RST counts as released until it is asserted anew (the model's choice, log 43). -/
def execPowerOnReset (j : Jumpers) (lock : Bool) (s : State) : Result :=
  .next ({ State.reset with pending := s.pending, serial := s.serial, port := s.port.afterReset }.sampleInputs j lock)

/-- A coil keeps its drive while RST is asserted, a PULSE reduced to HOLD (R28). -/
def Outlet.hold (x : Outlet) : Outlet := { x with coil := if x.coil = .pulse then .hold else x.coil }

/-- RST is asserted: coils keep their drive, the link driver stops, which breaks off an attempt in progress, and the port drops the frame that
is open (R28, R69, R83, R175). -/
def State.assertReset (s : State) : State :=
  { s with
    inReset := true
    outlets := s.outlets.mapIdx (fun _ x => x.hold)
    link := { s.link with sending := none, rejectDriven := false }
    port := { s.port with select := s.port.select.throughReset, capture := none } }

/-- WARM_RESET_ASSERT (R28, R173). -/
def execWarmResetAssert (s : State) : Result := .next s.assertReset

/-- The state an outlet comes back in, by its relay (R28). -/
def Outlet.stateAfterReset (x : Outlet) : OutletState :=
  if x.state = .tripped then .tripped else if x.coil = .hold then .on else .off

/-- An outlet record rebuilt from its relay; protection is kept (R28). -/
def Outlet.rebuild (x : Outlet) : Outlet :=
  { Outlet.reset with
    state := x.stateAfterReset, relay := relayFor x.stateAfterReset none, coil := coilFor x.stateAfterReset none, isProtected := x.isProtected }

/-- An outlet's meter values through a warm reset: energy, remainder and the reverse-power flag are kept (R50, R173). R28 and R38 would clear
the flag; that R50 and R173 are followed is the model's choice (log 7). -/
def Meter.rebuild (m : Meter) : Meter :=
  { Meter.reset with energy := m.energy, remainder := m.remainder, reversePower := m.reversePower }

/-- RST is released: the course of a power-on reset with what a warm reset keeps (R173). -/
def State.releaseReset (s : State) (j : Jumpers) : State :=
  { State.reset with
    pending := s.pending
    serial := s.serial
    port := s.port.afterReset
    outlets := s.outlets.mapIdx (fun _ (x : Outlet) => x.rebuild)
    meters := s.meters.mapIdx (fun _ (m : Meter) => m.rebuild) }.sampleInputs j s.lockPin

/-- WARM_RESET_RELEASE: without RST asserted before it there is no reset to end (R173). -/
def execWarmResetRelease (j : Jumpers) (s : State) : Result := .next (if s.inReset then s.releaseReset j else s)

/-- LOCK_CHANGE: LOCK is sampled continuously and the latest sample is kept, in a reset too (R24). -/
def execLockChange (asserted : Bool) (s : State) : Result := .next { s with lockPin := asserted, lockSample := asserted }

end Sys2Proof.Machine
end

