-- ==== Sys2Proof/Machine/HostReads.lean ====
section
/-! DEFINITION. The meanings of the read commands (R179 to R183), of the capture of a reply (R179), and of a frame that is rejected whole (R175). -/

namespace Sys2Proof.Machine

def execReadStatus (bits : Nat) (s : State) : Result := .next (s.atRising (fun s => s.runRead bits .status))

def execReadOutlet (bits : Nat) (outlet clearPeak : Byte) (s : State) : Result :=
  .next (s.atRising (fun s => s.runRead bits (.outlet outlet clearPeak)))

def execReadBank (bits : Nat) (bank : Byte) (s : State) : Result := .next (s.atRising (fun s => s.runRead bits (.bank bank)))

def execReadPeer (bits : Nat) (station : Byte) (s : State) : Result := .next (s.atRising (fun s => s.runRead bits (.peer station)))

def execReadGroup (bits : Nat) (group : Byte) (s : State) : Result := .next (s.atRising (fun s => s.runRead bits (.group group)))

def execReadEvent (bits : Nat) (s : State) : Result := .next (s.atRising (fun s => s.runRead bits .event))

def execReadResult (bits : Nat) (s : State) : Result := .next (s.atRising (fun s => s.runRead bits .result))

/-- HOST_REPLY_CAPTURE: the last argument byte of a read has been taken (R174, R179), or select has fallen (R176, log 9). -/
def execHostReplyCapture (what : PortCapture) (s : State) : Result := .next (s.capturePort what)

/-- The frame fails the checks of R175 that its bit count and command byte decide (log 10). -/
def isInvalidFrame (bits : Nat) (command : Byte) : Bool := decide (bits % 8 ≠ 0) || !isCommandCode command

/-- INVALID_HOST_FRAME (R175); operands that describe no invalid frame do nothing (log 10). -/
def execInvalidHostFrame (bits : Nat) (command : Byte) (s : State) : Result :=
  .next (if isInvalidFrame bits command then s.atRising (fun s => s.onFrame bits (fun s => s.joinFrame.rejectFrame)) else s)

end Sys2Proof.Machine
end

