-- ==== Sys2Proof/Machine/HostActions.lean ====
section
/-! DEFINITION. The meanings of the host's action commands: switching (R16 to R19), group cycles (R139, R152), CLEAR TRIP (R48), RESET ENERGY (R40), SET PROTECT (R23), FORGET PEER (R100). -/

namespace Sys2Proof.Machine

/-! SWITCH and CYCLE OUTLET (R16 to R19). -/

/-- The checks of R16 that follow the argument checks, then what the outlet's state decides. -/
def State.checkOutlet (s : State) (o : OutletId) (run : State → Answer) : Answer :=
  if (s.outlet o).isProtected then refuse s .protectedSet 0
  else if (s.outlet o).cycle = .group then refuse s .inCycle 0
  else run s

/-- An accepted SWITCH or CYCLE OUTLET takes its outlet out of the restore set (R171). -/
def State.takeInHand (s : State) (o : OutletId) : State := { s with restoreSet := removeOutlet s.restoreSet o }

/-- SWITCH ON by the outlet's state (R17). -/
def State.switchOn (o : OutletId) (s : State) : Answer :=
  match (s.outlet o).state with
  | .off => accept (((s.takeInHand o).setTarget o .on).enterClaiming o)
  | .claiming | .shed => accept ((s.takeInHand o).setTarget o .on)
  | .closing => if (s.outlet o).pendingOff then refuse s .busy 0 else accept ((s.takeInHand o).setTarget o .on)
  | .on => accept (((s.takeInHand o).setTarget o .on).meetTarget o)
  | .opening => refuse s .busy 0
  | .dwell => accept (((s.takeInHand o).setTarget o .on).leaveDwell o)
  | .tripped => refuse s .tripped 0

/-- SWITCH OFF by the outlet's state (R18). -/
def State.switchOff (o : OutletId) (s : State) : Answer :=
  match (s.outlet o).state with
  | .off => accept (((s.takeInHand o).setTarget o .off).meetTarget o)
  | .claiming =>
    accept ((((((s.takeInHand o).leaveClaiming o).setCycle o .none).setRestore o false).setTarget o .off).enterOff o)
  | .closing => accept (((((s.takeInHand o).setPendingOff o).setRestore o false).endLocal o).setTarget o .off)
  | .on => accept (((s.takeInHand o).setTarget o .off).enterOpening o)
  | .opening => accept ((((s.takeInHand o).setRestore o false).endLocal o).setTarget o .off)
  | .dwell => accept (((((s.takeInHand o).setCycle o .none).setRestore o false).setTarget o .off).enterOff o)
  | .shed => accept (((s.takeInHand o).setTarget o .off).enterOff o)
  | .tripped => accept (s.takeInHand o)

/-- CYCLE OUTLET by the outlet's state (R19). -/
def State.cycleOutlet (o : OutletId) (dwell : Nat) (s : State) : Answer :=
  match (s.outlet o).state with
  | .on => accept (((((s.takeInHand o).setCycle o (.localCycle dwell)).setRestore o true).setTarget o .on).enterOpening o)
  | .off => refuse s .badState 0
  | .claiming | .closing | .opening | .dwell | .shed => refuse s .busy 0
  | .tripped => refuse s .tripped 0

/-- An accepted command whose effects let a bank issue a claim: the claims follow as part of it (R107, log 18). -/
def Answer.issuing (a : Answer) : Answer := if a.2 = okSlot then (a.1.issueClaims, a.2) else a

/-- SWITCH with its argument checks, for a direction byte (R16, R178, log 11). -/
def runSwitch (outlet direction : Byte) : State → Answer :=
  whenRunning (fun s =>
    match outletArg outlet with
    | none => refuse s .badArg 1
    | some o =>
      if direction = 1 then (s.checkOutlet o (State.switchOn o)).issuing
      else if direction = 0 then (s.checkOutlet o (State.switchOff o)).issuing
      else refuse s .badArg 2)

/-- SWITCH_ON: a SWITCH frame whose direction byte is not OFF (R16, R17, log 11). -/
def execSwitchOn (bits : Nat) (outlet direction : Byte) (s : State) : Result :=
  .next (s.atRising (fun s => s.runFrame bits 2 (runSwitch outlet direction)))

/-- SWITCH_OFF: a SWITCH frame with direction OFF (R16, R18). -/
def execSwitchOff (bits : Nat) (outlet : Byte) (s : State) : Result :=
  .next (s.atRising (fun s => s.runFrame bits 2 (runSwitch outlet 0)))

/-- CYCLE OUTLET with its argument checks (R16, R19). -/
def runCycleOutlet (outlet : Byte) (dwell : BitVec 16) : State → Answer :=
  whenRunning (fun s =>
    match outletArg outlet with
    | none => refuse s .badArg 1
    | some o =>
      if inRange 1 600 dwell.toNat then s.checkOutlet o (State.cycleOutlet o dwell.toNat) else refuse s .badArg 2)

def execCycleOutlet (bits : Nat) (outlet : Byte) (dwell : BitVec 16) (s : State) : Result :=
  .next (s.atRising (fun s => s.runFrame bits 3 (runCycleOutlet outlet dwell)))

/-! CYCLE GROUP and ABORT GROUP (R139, R152). -/

/-- The tag the station would issue now (R139). -/
def State.nextTag (s : State) : Tag := ⟨s.station, s.seq⟩

/-- The OPEN-GROUP of a CYCLE GROUP: the override when given, else the entry's dwell (R139). -/
def State.openGroupFor (s : State) (e : GroupEntry) (dwell : Nat) : OpenGroupPayload :=
  ⟨s.nextTag, e.group, if dwell = 0 then e.dwell else dwell, e.policy⟩

/-- The OPEN-GROUP was taken: the pending tag is set and the sequence counter moves on (R139). -/
def State.originated (s : State) (e : GroupEntry) (tag : Tag) : State :=
  { s.modGroup e.group (fun e => { e with pendingTag := some tag }) with seq := s.seq + 1 }

/-- CYCLE GROUP for a group with an entry: the checks from the fourth on (R139). -/
def State.originate (s : State) (e : GroupEntry) (dwell : Nat) : Answer :=
  if (s.cycle? e.group).isSome || e.pendingTag.isSome then refuse s .inCycle 0
  else
    match lowestNumber (s.lostOf e.roster) with
    | some k => refuse s .rosterLost k.val
    | none =>
      if s.link.state ≠ .active then refuse s .linkDown 0
      else
        match s.offer plainUrgency (.openGroup (s.openGroupFor e dwell)) with
        | none => refuse s s.notTakenCode 0
        | some s' => accept (s'.originated e s.nextTag)

/-- CYCLE GROUP with its argument checks (R139, 10.4). -/
def runCycleGroup (group : Byte) (dwell : BitVec 16) : State → Answer :=
  whenRunning (fun s =>
    if group = 0 then refuse s .badArg 1
    else if !inRange 0 600 dwell.toNat then refuse s .badArg 2
    else
      match s.group? group.toNat with
      | none => refuse s .notMember 0
      | some e => s.originate e dwell.toNat)

def execCycleGroup (bits : Nat) (group : Byte) (dwell : BitVec 16) (s : State) : Result :=
  .next (s.atRising (fun s => s.runFrame bits 3 (runCycleGroup group dwell)))

/-- ABORT GROUP for a group with an entry: the record in progress decides (R152). -/
def State.hostAbort (s : State) (g : Nat) : Answer :=
  match s.cycle? g with
  | none => refuse s .badState 0
  | some r =>
    match r.phase with
    | .offPhase | .dwell => accept (s.offerAbort g .host)
    | .onPhase => refuse s .late 0
    | .restoringAbort | .done => accept s

/-- ABORT GROUP with its argument checks (R152). -/
def runAbortGroup (group : Byte) : State → Answer :=
  whenRunning (fun s =>
    if group = 0 then refuse s .badArg 1
    else
      match s.group? group.toNat with
      | none => refuse s .notMember 0
      | some _ => (s.hostAbort group.toNat).issuing)

def execAbortGroup (bits : Nat) (group : Byte) (s : State) : Result :=
  .next (s.atRising (fun s => s.runFrame bits 1 (runAbortGroup group)))

/-! CLEAR TRIP, RESET ENERGY, SET PROTECT, FORGET PEER. -/

/-- A TRIPPED outlet is cleared to OFF; one in any other state is left as it is (R48). -/
def State.clearTripped (s : State) (o : OutletId) : State :=
  if (s.outlet o).state = .tripped then (s.place o .off none).setTarget o .none else s

/-- CLEAR TRIP with its checks (R48). -/
def runClearTrip (outlet : Byte) (s : State) : Answer :=
  match outletArg outlet with
  | none => refuse s .badArg 1
  | some o => if (s.outlet o).cycle = .group then refuse s .inCycle 0 else accept (s.clearTripped o)

def execClearTrip (bits : Nat) (outlet : Byte) (s : State) : Result :=
  .next (s.atRising (fun s => s.runFrame bits 1 (runClearTrip outlet)))

/-- The energy values of an outlet are zeroed (R40). -/
def Meter.resetEnergy (m : Meter) : Meter := { m with energy := 0, remainder := 0, reversePower := false }

/-- RESET ENERGY with its check; 0 means every outlet (R40). -/
def runResetEnergy (outlet : Byte) (s : State) : Answer :=
  if outlet = 0 then accept { s with meters := s.meters.mapIdx (fun _ m => m.resetEnergy) }
  else
    match outletArg outlet with
    | none => refuse s .badArg 1
    | some o => accept (s.modMeter o Meter.resetEnergy)

def execResetEnergy (bits : Nat) (outlet : Byte) (s : State) : Result :=
  .next (s.atRising (fun s => s.runFrame bits 1 (runResetEnergy outlet)))

/-- The outlets a new protected set would add (R23). -/
def State.added (s : State) (set : OutletSet) : List OutletId := allOutlets.filter (fun o => hasOutlet set o && !(s.outlet o).isProtected)

/-- The outlet has work pending that a host command gave it (R23). -/
def Outlet.isBusy (x : Outlet) : Bool :=
  decide (x.target ≠ .none) || decide (cycleMemberCode x.cycle = 1) || decide (x.state = .opening)

/-- The protected set is replaced (R22, R23). -/
def State.protect (s : State) (set : OutletSet) : State :=
  { s with outlets := s.outlets.mapIdx (fun i x => { x with isProtected := set.getLsbD i }) }

/-- SET PROTECT with its checks (R23). -/
def runSetProtect (set : OutletSet) (s : State) : Answer :=
  if s.lockHonoured then refuse s .locked 0
  else
    match (s.added set).find? (fun o => decide ((s.outlet o).cycle = .group)) with
    | some o => refuse s .inCycle (outletNo o)
    | none =>
      match (s.added set).find? (fun o => (s.outlet o).isBusy) with
      | some o => refuse s .busy (outletNo o)
      | none => accept (s.protect set)

def execSetProtect (bits : Nat) (outlets : OutletSet) (s : State) : Result :=
  .next (s.atRising (fun s => s.runFrame bits 3 (runSetProtect outlets)))

/-- FORGET PEER with its checks (R100). -/
def runForgetPeer (station : Byte) : State → Answer :=
  whenRunning (fun s =>
    match stationArg station with
    | none => refuse s .badArg 1
    | some k =>
      if k = s.station then refuse s .badArg 1
      else if (s.peer k).state = .live then refuse s .peerLive 0
      else
        match s.offer plainUrgency (.forget k) with
        | none => refuse s s.notTakenCode 0
        | some s' => accept s')

def execForgetPeer (bits : Nat) (station : Byte) (s : State) : Result :=
  .next (s.atRising (fun s => s.runFrame bits 1 (runForgetPeer station)))

end Sys2Proof.Machine
end

