-- ==== Sys2Proof/Machine/HostConfig.lean ====
section
/-! DEFINITION. The meanings of the configuration commands (R163 to R168) and of START (R169 to R171). -/

namespace Sys2Proof.Machine

/-- A configuration command's fields are in range, or the first that is not gives BAD-ARG (R163, R189). -/
def whenInRange (checks : List Bool) (s : State) (run : State → Answer) : Answer :=
  match firstOut checks with
  | some n => refuse s .badArg n
  | none => run s

/-! SET BOARD, SET BANK, SET PROFILE (R164 to R166). -/

def runSetBoard (x : BoardArgs) : State → Answer :=
  whenConfiguring (fun s => whenInRange (boardChecks x) s (fun s => accept { s with cfg := boardOf x }))

def execSetBoard (bits : Nat) (args : BoardArgs) (s : State) : Result :=
  .next (s.atRising (fun s => s.runFrame bits 13 (runSetBoard args)))

/-- The overload records follow the map: one whose branch the map stops or starts using has the reset values (R124). -/
def State.followMap (before s : State) : State :=
  { s with
    overload := s.overload.mapIdx (fun i r => if before.uses (Fin.ofNat 16 i) = s.uses (Fin.ofNat 16 i) then r else Overload.reset) }

def State.setBankConfig (s : State) (b : Bank) (x : BankConfig) : State := State.followMap s { s with banks := s.banks.set b x }

def runSetBank (x : BankArgs) : State → Answer :=
  whenConfiguring (fun s =>
    match bankArg x.bank with
    | none => refuse s .badArg 0
    | some b => whenInRange (bankChecks x) s (fun s => accept (s.setBankConfig b (bankOfArgs x))))

def execSetBank (bits : Nat) (args : BankArgs) (s : State) : Result :=
  .next (s.atRising (fun s => s.runFrame bits 5 (runSetBank args)))

/-- A profile from its number (R4). -/
def profileArg (x : Byte) : Option (Fin 4) := if h : x.toNat < 4 then some ⟨x.toNat, h⟩ else none

def runSetProfile (x : ProfileArgs) : State → Answer :=
  whenConfiguring (fun s =>
    match profileArg x.profile with
    | none => refuse s .badArg 0
    | some k => whenInRange (profileChecks x) s (fun s => accept { s with profiles := s.profiles.set k (profileOf x) }))

def execSetProfile (bits : Nat) (args : ProfileArgs) (s : State) : Result :=
  .next (s.atRising (fun s => s.runFrame bits 9 (runSetProfile args)))

/-! SET OUTLET and SET GROUP (R167, R168). -/

/-- The group entries the group engine has room for (R135). -/
def groupCapacity : Nat := 16

/-- A command that names group `g` would create a seventeenth entry (R135, R163). -/
def State.groupsFull (s : State) (g : Nat) : Bool := (s.group? g).isNone && decide (groupCapacity ≤ s.groups.length)

/-- An entry for group `g` with the dwell and policy given, replacing those of one that stands (R135). -/
def State.putGroup (s : State) (g dwell : Nat) (policy : Policy) : State := { s with groups := insertGroup ⟨g, dwell, policy, none, 0⟩ s.groups }

/-- The entry SET OUTLET creates for a group that has none: dwell 10 s, policy STRICT (R135, R167). -/
def State.nameGroup (s : State) (g : Nat) : State := if g = 0 ∨ (s.group? g).isSome = true then s else s.putGroup g 10 .strict

def runSetOutlet (x : OutletArgs) : State → Answer :=
  whenConfiguring (fun s =>
    match outletArg x.outlet with
    | none => refuse s .badArg 0
    | some o =>
      whenInRange (outletChecks x) s (fun s =>
        if decide (x.group ≠ 0) && s.groupsFull x.group.toNat then refuse s .groupFull x.group.toNat
        else accept ((s.nameGroup x.group.toNat).modOutlet o (fun r => { r with cfg := outletOfArgs x }))))

def execSetOutlet (bits : Nat) (args : OutletArgs) (s : State) : Result :=
  .next (s.atRising (fun s => s.runFrame bits 8 (runSetOutlet args)))

def runSetGroup (x : GroupArgs) : State → Answer :=
  whenConfiguring (fun s =>
    if x.group = 0 then refuse s .badArg 0
    else
      whenInRange (groupChecks x) s (fun s =>
        if s.groupsFull x.group.toNat then refuse s .groupFull x.group.toNat
        else accept (s.putGroup x.group.toNat x.dwell.toNat (policyOfByte x.policy))))

def execSetGroup (bits : Nat) (args : GroupArgs) (s : State) : Result :=
  .next (s.atRising (fun s => s.runFrame bits 4 (runSetGroup args)))

/-! START (R169 to R171). -/

/-- Two of the station's own banks share branch `n` with different limits (R169). -/
def State.limitsClash (s : State) (n : BranchId) : Bool := (s.ownBanksOn n).any (fun b => decide ((s.bank b).limit ≠ s.ownLimit n))

/-- An outlet's inrush allowance is above the branch limit of its bank (R169). -/
def State.inrushTooLarge (s : State) (o : OutletId) : Bool := decide ((s.bank (bankOf o)).limit < (s.profile o).inrush)

/-- An outlet names the group (R170). -/
def State.isNamed (s : State) (g : Nat) : Bool := !(s.members g).isEmpty

/-- The groups fixed at START, each with a roster of the station alone (R86, R135, R170). -/
def State.fixGroups (s : State) : State :=
  { s with
    groups := (s.groups.filter (fun e => s.isNamed e.group)).map (fun e => { e with roster := numbersWhere (fun k => decide (k = s.station)) }) }

/-- The restore set formed at START (R171). -/
def State.formRestoreSet (s : State) : OutletSet := outletsWhere (fun o => (s.outlet o).cfg.startOn && decide ((s.outlet o).state = .off))

/-- A START that passes its checks (R170). -/
def State.startBoard (s : State) : State :=
  let s1 := { s with phase := .running }.fixGroups
  { s1 with restoreSet := s1.formRestoreSet, startRestored := false }.enterJoining

/-- START with its checks (R169). -/
def runStart : State → Answer :=
  whenConfiguring (fun s =>
    match allNumbers.find? s.limitsClash with
    | some n => refuse s .configInvalid (64 + n.val)
    | none =>
      match allOutlets.find? s.inrushTooLarge with
      | some o => refuse s .configInvalid (outletNo o)
      | none => accept s.startBoard)

def execStart (bits : Nat) (s : State) : Result := .next (s.atRising (fun s => s.runFrame bits 0 runStart))

end Sys2Proof.Machine
end

