-- ==== Sys2Proof/Machine/Mains.lean ====
section
/-! DEFINITION. The meanings of the mains events: crossings (R14, R29), half-cycle, window and no-crossing timers (R30, R32, R53), the instant trip (R43), the recovery timer (R60). -/

namespace Sys2Proof.Machine

/-- The present board time with the microseconds given (log 3). -/
def State.now (s : State) (micros : Nat) : Stamp := ⟨s.boardTime, micros⟩

/-- VOLTAGE_ZERO_CROSSING (R29): a crossing within the hold-off is ignored, though its samples are seen (R14, log 4). -/
def execVoltageZeroCrossing (bank : Bank) (edge : Edge) (micros : Fin 1000) (half : HalfMeasure) (window : WindowMeasure) (s : State) : Result :=
  .next (s.unlessReset (fun s =>
    let s1 := s.notePeaks bank half.peaks
    if heldOff (s.line bank).lastCross (s.now micros) then s1
    else (s1.takeVoltageCrossing bank edge (s.now micros) half window).issueClaims))

/-- CURRENT_ZERO_CROSSING (R14, R29). -/
def execCurrentZeroCrossing (outlet : OutletId) (micros : Fin 1000) (peak : Nat) (s : State) : Result :=
  .next (s.unlessReset (fun s =>
    let s1 := s.notePeak outlet peak
    if heldOff (s.meter outlet).lastCross (s.now micros) then s1 else s1.takeCurrentCrossing outlet (s.now micros)))

/-- HALF_CYCLE_TIMEOUT (R30). -/
def execHalfCycleTimeout (bank : Bank) (half : HalfMeasure) (s : State) : Result :=
  .next (s.unlessReset (fun s =>
    s.expire (s.halfDue bank) (fun s => ((s.notePeaks bank half.peaks).closeHalf bank half false (s.window bank).nextHalf).issueClaims)))

/-- The sample magnitude above which a live outlet trips at once, 60.0 A (R43). -/
def instantLimit : Nat := 6000

/-- INSTANT_TRIP (R43). -/
def execInstantTrip (outlet : OutletId) (magnitude : Nat) (s : State) : Result :=
  .next (s.unlessReset (fun s => if instantLimit < magnitude then (s.trip outlet .instant magnitude).issueClaims else s))

/-- WINDOW_TIMEOUT (R32). -/
def execWindowTimeout (bank : Bank) (window : WindowMeasure) (s : State) : Result :=
  .next (s.unlessReset (fun s => s.expire (s.windowDue bank) (fun s => s.endWindow bank window none)))

/-- NO_CROSSING_TIMEOUT (R53). -/
def execNoCrossingTimeout (bank : Bank) (s : State) : Result :=
  .next (s.unlessReset (fun s => s.expire (s.noCrossingDue bank) (fun s => (s.sagCondition bank .noCrossing).issueClaims)))

/-- The recovery timer, which runs in RECOVERING (R57). -/
def State.recoveryDue (s : State) (b : Bank) : Option Nat := if (s.line b).state = .recovering then (s.line b).recovery else none

/-- RECOVERY_TIMER_EXPIRY (R60). -/
def execRecoveryTimerExpiry (bank : Bank) (s : State) : Result :=
  .next (s.unlessReset (fun s => s.expire (s.recoveryDue bank) (fun s => (s.enterNormal bank).issueClaims)))

end Sys2Proof.Machine
end

