-- ==== Sys2Proof/Machine/OutletTimers.lean ====
section
/-! DEFINITION. The meanings of the outlets' timers: align limits (R8, R14), coil pulse (R9), settle (R10, R15), local dwell (R20), claim-wait (R115). -/

namespace Sys2Proof.Machine

/-- The state timer of an outlet while it stands in a sub-phase of a state (R5, R9, R14). -/
def State.phaseDue (s : State) (o : OutletId) (st : OutletState) (sub : SubPhase) : Option Nat :=
  if s.isIn o st sub then (s.outlet o).stateTimer else none

/-- CLOSING_ALIGN_EXPIRY (R8, R11). -/
def execClosingAlignExpiry (outlet : OutletId) (s : State) : Result :=
  .next (s.unlessReset (fun s => s.expire (s.phaseDue outlet .closing .align) (fun s => (s.closingAlignEnds outlet).issueClaims)))

/-- OPENING_ALIGN_EXPIRY (R14). -/
def execOpeningAlignExpiry (outlet : OutletId) (s : State) : Result :=
  .next (s.unlessReset (fun s => s.expire (s.phaseDue outlet .opening .align) (fun s => s.alignOpening outlet true)))

/-- COIL_PULSE_END (R9). -/
def execCoilPulseEnd (outlet : OutletId) (s : State) : Result :=
  .next (s.unlessReset (fun s => s.expire (s.phaseDue outlet .closing .coil) (fun s => s.startClosingSettle outlet)))

/-- CLOSING_SETTLE_END (R10). -/
def execClosingSettleEnd (outlet : OutletId) (s : State) : Result :=
  .next (s.unlessReset (fun s => s.expire (s.phaseDue outlet .closing .settle) (fun s => s.endClosing outlet)))

/-- OPENING_SETTLE_END (R15). -/
def execOpeningSettleEnd (outlet : OutletId) (s : State) : Result :=
  .next (s.unlessReset (fun s => s.expire (s.phaseDue outlet .opening .settle) (fun s => (s.endOpening outlet).issueClaims)))

/-- The local dwell of an outlet; frozen while its bank is held (R20, R58). -/
def State.localDwellDue (s : State) (o : OutletId) : Option Nat :=
  if (s.outlet o).state = .dwell ∧ cycleMemberCode (s.outlet o).cycle = 1 ∧ s.isHeld (bankOf o) = false then (s.outlet o).stateTimer else none

/-- LOCAL_DWELL_EXPIRY (R20). -/
def execLocalDwellExpiry (outlet : OutletId) (s : State) : Result :=
  .next (s.unlessReset (fun s => s.expire (s.localDwellDue outlet) (fun s => (s.leaveDwell outlet).issueClaims)))

/-- What is left of an outlet's claim-wait; frozen while its bank is held (R6, R58, R115). -/
def State.claimWaitDue (s : State) (o : OutletId) : Option Nat :=
  if (s.outlet o).state = .claiming ∧ s.isHeld (bankOf o) = false then (s.outlet o).claimWait.map (fun t => s.cfg.claimWait * 1000 - t) else none

/-- The detail of CLAIM-EXPIRED: what the outlet was waiting on (R115). -/
def State.waitingOn (s : State) (o : OutletId) : Nat :=
  if hasNumber s.conflicts (s.bank (bankOf o)).branch then 1
  else if 0 < (s.claim (bankOf o)).denials then 2
  else if s.link.state ≠ .active then 3
  else 4

/-- The claim-wait limit reached: OFF, the claim withdrawn, the target NONE without SWITCH-DONE, CLAIM-EXPIRED (R115). What the group engine posts on
the failed member comes before CLAIM-EXPIRED (the model's choice, log 44). -/
def State.expireClaim (s : State) (o : OutletId) : State :=
  (((((((s.leaveClaiming o).place o .off none).setRestore o false).endLocal o).setTarget o .none).noteFailed o).post .claimExpired (outletNo o)
    (s.waitingOn o) (s.branchTotal (s.bank (bankOf o)).branch))

/-- CLAIM_WAIT_EXPIRY (R115). -/
def execClaimWaitExpiry (outlet : OutletId) (s : State) : Result :=
  .next (s.unlessReset (fun s => s.expire (s.claimWaitDue outlet) (fun s => (s.expireClaim outlet).issueClaims)))

end Sys2Proof.Machine
end

