-- ==== Sys2Proof/Machine/LinkEvents.lean ====
section
/-! DEFINITION. The meanings of the link's own events: the STATUS schedule (R93), the bus (R68 to R71, R80), the joining and quiet timers (R79, R80), and liveness (R98). -/

namespace Sys2Proof.Machine

/-- The time to the next multiple of 250 ms that board time reaches, which is 0 where board time wraps before the next one (R93, log 28, log 29). -/
def State.statusDue (s : State) : Nat := min ((250 - s.boardTime.toNat % 250) % 250) (2 ^ 32 - s.boardTime.toNat)

/-- The link states in which a scheduled STATUS is offered (R93). -/
def State.scheduleStatus (s : State) : State :=
  match s.link.state with
  | .joining | .active | .linkDown => s.offerStatus
  | .silent | .isolated => s

/-- SCHEDULED_STATUS (R93). -/
def execScheduledStatus (s : State) : Result := .next (s.unlessReset (fun s => s.expire (some s.statusDue) State.scheduleStatus))

/-- BUS_IDLE_OFFER (R68). -/
def execBusIdleOffer (rivals : List Nat) (s : State) : Result := .next (s.unlessReset (fun s => s.offerOnBus rivals))

/-- ATTEMPT_FAILED (R69, R71, R74). -/
def execAttemptFailed (mismatch : Bool) (s : State) : Result := .next (s.unlessReset (fun s => (s.attemptFails mismatch).issueClaims))

/-- FAILED_FRAME (R70, R80). -/
def execFailedFrame (reception : Reception) (s : State) : Result := .next (s.unlessReset (fun s => s.frameFails reception))

/-- The joining timer, which runs in JOINING (R79). -/
def State.joiningDue (s : State) : Option Nat := if s.link.state = .joining then s.link.joining else none

/-- JOINING_TIMER_EXPIRY (R79, R171). -/
def execJoiningTimerExpiry (s : State) : Result :=
  .next (s.unlessReset (fun s => s.expire s.joiningDue (fun s => s.enterActive.issueClaims)))

/-- The quiet timer, which runs in LINK-DOWN (R80). -/
def State.quietDue (s : State) : Option Nat := if s.link.state = .linkDown then s.link.quiet else none

/-- QUIET_TIMER_EXPIRY (R80). -/
def execQuietTimerExpiry (s : State) : Result := .next (s.unlessReset (fun s => s.expire s.quietDue State.enterJoining))

/-- PEER_LIVENESS_EXPIRY (R98). -/
def execPeerLivenessExpiry (station : StationId) (s : State) : Result :=
  .next (s.unlessReset (fun s => s.expire (s.livenessDue station) (fun s => (s.losePeer station).issueClaims)))

end Sys2Proof.Machine
end

