-- ==== Sys2Proof/Machine/FrameApply.lean ====
section
/-! DEFINITION. The meanings of the frames carried successfully, one for each kind (R72). -/

namespace Sys2Proof.Machine

/-- JOIN_APPLY (R87 to R92, R109, R155). -/
def execJoinApply (source : StationId) (payload : JoinPayload) (s : State) : Result :=
  .next (s.unlessReset (fun s => s.receive source (.join payload) (fun s => (s.applyJoin source payload).issueClaims)))

/-- STATUS_APPLY (R96, R109, R118, R125). -/
def execStatusApply (source : StationId) (payload : Banked StatusBank) (s : State) : Result :=
  .next (s.unlessReset (fun s => s.receive source (.status payload) (fun s => (s.applyStatus source payload).issueClaims)))

/-- FORGET_APPLY (R101). -/
def execForgetApply (source station : StationId) (s : State) : Result :=
  .next (s.unlessReset (fun s => s.receive source (.forget station) (fun s => (s.applyForget source station).issueClaims)))

/-- CLAIM_APPLY (R110 to R112). -/
def execClaimApply (source : StationId) (payload : ClaimPayload) (s : State) : Result :=
  .next (s.unlessReset (fun s => s.receive source (.claim payload) (fun s => (s.applyClaim source payload).issueClaims)))

/-- OPEN_GROUP_APPLY (R140 to R142). -/
def execOpenGroupApply (source : StationId) (payload : OpenGroupPayload) (s : State) : Result :=
  .next (s.unlessReset (fun s => s.receive source (.openGroup payload) (fun s => (s.applyOpenGroup source payload).issueClaims)))

/-- GROUP_OFF_APPLY (R145). -/
def execGroupOffApply (source : StationId) (payload : GroupOffPayload) (s : State) : Result :=
  .next (s.unlessReset (fun s => s.receive source (.groupOff payload) (fun s => (s.applyGroupOff source payload).issueClaims)))

/-- GROUP_ON_APPLY (R147, R150). -/
def execGroupOnApply (source : StationId) (payload : GroupOnPayload) (s : State) : Result :=
  .next (s.unlessReset (fun s => s.receive source (.groupOn payload) (fun s => (s.applyGroupOn source payload).issueClaims)))

/-- GROUP_ABORT_APPLY (R153). -/
def execGroupAbortApply (source : StationId) (payload : GroupAbortPayload) (s : State) : Result :=
  .next (s.unlessReset (fun s => s.receive source (.groupAbort payload) (fun s => (s.applyGroupAbort source payload).issueClaims)))

end Sys2Proof.Machine
end

