-- ==== Sys2Proof/Machine/GroupTimers.lean ====
section
/-! DEFINITION. The meanings of a cycle record's timers (R146, R148, R151). -/

namespace Sys2Proof.Machine

/-- The off-gather timer of group `g`, which runs in OFF-PHASE (R137). -/
def State.offGatherDue (s : State) (g : Nat) : Option Nat :=
  match s.cycle? g with
  | some r => if r.phase = .offPhase then r.offTimer else none
  | none => none

/-- The off-gather timer ran out (R146). -/
def State.endOffGather (s : State) (g : Nat) : State := (s.modRecord g (fun r => { r with offTimer := none })).offerAbort g .offTimeout

/-- OFF_GATHER_EXPIRY (R146). -/
def execOffGatherExpiry (group : Nat) (s : State) : Result :=
  .next (s.unlessReset (fun s => s.expire (s.offGatherDue group) (fun s => (s.endOffGather group).issueClaims)))

/-- The dwell timer of group `g`, which runs in DWELL; frozen while a bank of its members is held (R147). -/
def State.dwellDue (s : State) (g : Nat) : Option Nat :=
  match s.cycle? g with
  | some r => if r.phase = .dwell ∧ s.dwellFrozen r = false then r.dwellTimer else none
  | none => none

/-- DWELL_EXPIRY (R148). -/
def execDwellExpiry (group : Nat) (s : State) : Result :=
  .next (s.unlessReset (fun s => s.expire (s.dwellDue group) (fun s => (s.endDwell group).issueClaims)))

/-- The on-gather timer of group `g`, which runs in ON-PHASE (R137). -/
def State.onGatherDue (s : State) (g : Nat) : Option Nat :=
  match s.cycle? g with
  | some r => if r.phase = .onPhase then r.onTimer else none
  | none => none

/-- ON_GATHER_EXPIRY (R151). -/
def execOnGatherExpiry (group : Nat) (s : State) : Result :=
  .next (s.unlessReset (fun s => s.expire (s.onGatherDue group) (fun s => s.finishCycle group .incomplete)))

end Sys2Proof.Machine
end

