-- ==== Sys2Proof/Machine/Dispatch.lean ====
section
/-! DEFINITION. Each command sent to its meaning, one arm for each constructor of Instr. -/

namespace Sys2Proof.Machine

def exec (i : Instr) (s : State) : Host.Outcome State Fault Refusal :=
  match i with
  | .powerOnReset jumpers lock => Sys2Proof.Machine.execPowerOnReset jumpers lock s
  | .warmResetAssert => Sys2Proof.Machine.execWarmResetAssert s
  | .warmResetRelease jumpers => Sys2Proof.Machine.execWarmResetRelease jumpers s
  | .lockChange asserted => Sys2Proof.Machine.execLockChange asserted s
  | .readStatus bits => Sys2Proof.Machine.execReadStatus bits s
  | .readOutlet bits outlet clearPeak => Sys2Proof.Machine.execReadOutlet bits outlet clearPeak s
  | .readBank bits bank => Sys2Proof.Machine.execReadBank bits bank s
  | .readPeer bits station => Sys2Proof.Machine.execReadPeer bits station s
  | .readGroup bits group => Sys2Proof.Machine.execReadGroup bits group s
  | .readEvent bits => Sys2Proof.Machine.execReadEvent bits s
  | .readResult bits => Sys2Proof.Machine.execReadResult bits s
  | .switchOn bits outlet direction => Sys2Proof.Machine.execSwitchOn bits outlet direction s
  | .switchOff bits outlet => Sys2Proof.Machine.execSwitchOff bits outlet s
  | .cycleOutlet bits outlet dwell => Sys2Proof.Machine.execCycleOutlet bits outlet dwell s
  | .cycleGroup bits group dwell => Sys2Proof.Machine.execCycleGroup bits group dwell s
  | .abortGroup bits group => Sys2Proof.Machine.execAbortGroup bits group s
  | .clearTrip bits outlet => Sys2Proof.Machine.execClearTrip bits outlet s
  | .resetEnergy bits outlet => Sys2Proof.Machine.execResetEnergy bits outlet s
  | .setProtect bits outlets => Sys2Proof.Machine.execSetProtect bits outlets s
  | .forgetPeer bits station => Sys2Proof.Machine.execForgetPeer bits station s
  | .setBoard bits args => Sys2Proof.Machine.execSetBoard bits args s
  | .setBank bits args => Sys2Proof.Machine.execSetBank bits args s
  | .setProfile bits args => Sys2Proof.Machine.execSetProfile bits args s
  | .setOutlet bits args => Sys2Proof.Machine.execSetOutlet bits args s
  | .setGroup bits args => Sys2Proof.Machine.execSetGroup bits args s
  | .start bits => Sys2Proof.Machine.execStart bits s
  | .voltageZeroCrossing bank edge micros half window => Sys2Proof.Machine.execVoltageZeroCrossing bank edge micros half window s
  | .currentZeroCrossing outlet micros peak => Sys2Proof.Machine.execCurrentZeroCrossing outlet micros peak s
  | .halfCycleTimeout bank half => Sys2Proof.Machine.execHalfCycleTimeout bank half s
  | .instantTrip outlet magnitude => Sys2Proof.Machine.execInstantTrip outlet magnitude s
  | .windowTimeout bank window => Sys2Proof.Machine.execWindowTimeout bank window s
  | .noCrossingTimeout bank => Sys2Proof.Machine.execNoCrossingTimeout bank s
  | .recoveryTimerExpiry bank => Sys2Proof.Machine.execRecoveryTimerExpiry bank s
  | .closingAlignExpiry outlet => Sys2Proof.Machine.execClosingAlignExpiry outlet s
  | .openingAlignExpiry outlet => Sys2Proof.Machine.execOpeningAlignExpiry outlet s
  | .coilPulseEnd outlet => Sys2Proof.Machine.execCoilPulseEnd outlet s
  | .closingSettleEnd outlet => Sys2Proof.Machine.execClosingSettleEnd outlet s
  | .openingSettleEnd outlet => Sys2Proof.Machine.execOpeningSettleEnd outlet s
  | .localDwellExpiry outlet => Sys2Proof.Machine.execLocalDwellExpiry outlet s
  | .claimWaitExpiry outlet => Sys2Proof.Machine.execClaimWaitExpiry outlet s
  | .scheduledStatus => Sys2Proof.Machine.execScheduledStatus s
  | .busIdleOffer rivals => Sys2Proof.Machine.execBusIdleOffer rivals s
  | .attemptFailed mismatch => Sys2Proof.Machine.execAttemptFailed mismatch s
  | .failedFrame reception => Sys2Proof.Machine.execFailedFrame reception s
  | .joinApply source payload => Sys2Proof.Machine.execJoinApply source payload s
  | .statusApply source payload => Sys2Proof.Machine.execStatusApply source payload s
  | .forgetApply source station => Sys2Proof.Machine.execForgetApply source station s
  | .claimApply source payload => Sys2Proof.Machine.execClaimApply source payload s
  | .openGroupApply source payload => Sys2Proof.Machine.execOpenGroupApply source payload s
  | .groupOffApply source payload => Sys2Proof.Machine.execGroupOffApply source payload s
  | .groupOnApply source payload => Sys2Proof.Machine.execGroupOnApply source payload s
  | .groupAbortApply source payload => Sys2Proof.Machine.execGroupAbortApply source payload s
  | .offGatherExpiry group => Sys2Proof.Machine.execOffGatherExpiry group s
  | .dwellExpiry group => Sys2Proof.Machine.execDwellExpiry group s
  | .onGatherExpiry group => Sys2Proof.Machine.execOnGatherExpiry group s
  | .peerLivenessExpiry station => Sys2Proof.Machine.execPeerLivenessExpiry station s
  | .joiningTimerExpiry => Sys2Proof.Machine.execJoiningTimerExpiry s
  | .quietTimerExpiry => Sys2Proof.Machine.execQuietTimerExpiry s
  | .hostReplyCapture what => Sys2Proof.Machine.execHostReplyCapture what s
  | .invalidHostFrame bits command => Sys2Proof.Machine.execInvalidHostFrame bits command s

end Sys2Proof.Machine
end

