-- ==== Sys2Proof/Machine/Step.lean ====
section
/-! DEFINITION. One step of the board: the command at the front of the queue, or a millisecond that passes. -/

namespace Sys2Proof.Machine

/-- The front command runs with the queue's rest; with no command waiting, 1 ms passes (log 1). -/
def step (s : State) : Host.Outcome State Fault Refusal :=
  match s.pending with
  | [] => .next s.tick
  | c :: rest => exec c { s with pending := rest }

/-- The command that a table word spells, put at the front of the queue; the state as it is where the word spells none. -/
def State.withFetchWord (s : State) (nbits w : Nat) : State :=
  match decodeTableWord nbits w with
  | some c => { s with pending := c :: s.pending }
  | none => s

end Sys2Proof.Machine
end

