-- ==== Sys2Proof/Machine/HostBytes.lean ====
section
/-! DEFINITION. From the bits clocked in to the command they spell: the bytes of a frame (R174), the codes and argument bytes of 11.2, and the read whose last argument byte has just been taken (R174, R179). -/

namespace Sys2Proof.Machine

/-- The whole bytes of the bits clocked in, in order, the most significant bit of each byte first (R174, 10.1). -/
def bytesOfBits : List Bool → List Byte
  | a :: b :: c :: d :: e :: f :: g :: h :: rest => BitVec.ofNat 8 (bitsNat [a, b, c, d, e, f, g, h]) :: bytesOfBits rest
  | _ => []

/-- The byte at place `k`; a byte that did not come in counts as 0, in a frame that its length then rejects (R175). -/
def byteAt (l : List Byte) (k : Nat) : Byte := l.getD k 0

/-- A number of two bytes, most significant first (R189). -/
def wordAt (l : List Byte) (k : Nat) : BitVec 16 := byteAt l k ++ byteAt l (k + 1)

/-- A number or a set of three bytes, most significant first (R189). -/
def tripleAt (l : List Byte) (k : Nat) : BitVec 24 := wordAt l k ++ byteAt l (k + 2)

/-- SWITCH by its direction byte: 0 is OFF, every other byte is taken by the row that checks it (11.2, log 11). -/
def switchOfBytes (bits : Nat) (args : List Byte) : Instr :=
  if byteAt args 1 = 0 then .switchOff bits (byteAt args 0) else .switchOn bits (byteAt args 0) (byteAt args 1)

/-- The command of a frame of `bits` bits with a command byte and the bytes after it (R174, 11.2). -/
def commandOfCode (bits : Nat) (code : Byte) (args : List Byte) : Instr :=
  match code.toNat with
  | 0x01 => .readStatus bits
  | 0x02 => .readOutlet bits (byteAt args 0) (byteAt args 1)
  | 0x03 => .readBank bits (byteAt args 0)
  | 0x04 => .readPeer bits (byteAt args 0)
  | 0x05 => .readGroup bits (byteAt args 0)
  | 0x06 => .readEvent bits
  | 0x07 => .readResult bits
  | 0x10 => switchOfBytes bits args
  | 0x11 => .cycleOutlet bits (byteAt args 0) (wordAt args 1)
  | 0x12 => .cycleGroup bits (byteAt args 0) (wordAt args 1)
  | 0x13 => .abortGroup bits (byteAt args 0)
  | 0x14 => .clearTrip bits (byteAt args 0)
  | 0x15 => .resetEnergy bits (byteAt args 0)
  | 0x16 => .setProtect bits (tripleAt args 0)
  | 0x17 => .forgetPeer bits (byteAt args 0)
  | 0x20 =>
    .setBoard bits ⟨wordAt args 0, byteAt args 2, wordAt args 3, byteAt args 5, wordAt args 6, wordAt args 8, tripleAt args 10⟩
  | 0x21 => .setBank bits ⟨byteAt args 0, byteAt args 1, wordAt args 2, byteAt args 4⟩
  | 0x22 =>
    .setProfile bits ⟨byteAt args 0, byteAt args 1, byteAt args 2, byteAt args 3, wordAt args 4, wordAt args 6, byteAt args 8⟩
  | 0x23 =>
    .setOutlet bits ⟨byteAt args 0, byteAt args 1, byteAt args 2, wordAt args 3, byteAt args 5, byteAt args 6, byteAt args 7⟩
  | 0x24 => .setGroup bits ⟨byteAt args 0, wordAt args 1, byteAt args 3⟩
  | 0x25 => .start bits
  | _ => .invalidHostFrame bits code

/-- The command that the bits clocked in between the edges of select spell; a frame without a whole byte is rejected (R174, R175). -/
def commandOfBits (l : List Bool) : Instr :=
  match bytesOfBits l with
  | code :: args => commandOfCode l.length code args
  | [] => .invalidHostFrame l.length 0

/-- The read that a read command's frame makes. -/
def readOf : Instr → Option ReadRequest
  | .readStatus _ => some .status
  | .readOutlet _ x c => some (.outlet x c)
  | .readBank _ x => some (.bank x)
  | .readPeer _ x => some (.peer x)
  | .readGroup _ x => some (.group x)
  | .readEvent _ => some .event
  | .readResult _ => some .result
  | _ => none

/-- The read whose reply is captured once these bits have come in: its last argument byte, or its command byte where it has no arguments, has
just been taken (R174, R179). -/
def captureOfBits (l : List Bool) : Option PortCapture :=
  match readOf (commandOfBits l) with
  | some r => if l.length = 8 * (1 + readArgBytes r) then some (.reply r) else none
  | none => none

end Sys2Proof.Machine
end

