-- ==== Sys2Proof/WellFormed.lean ====
section
/-! DEFINITION. The commands whose operands describe something that can happen to the board; the machine answers for every other one as well. -/

namespace Sys2Proof
open Sys2Proof.Machine

/-- A half-cycle's measurements name eight outlets (R30). -/
def HalfMeasure.complete (h : HalfMeasure) : Bool := decide (h.amps.length = 8) && decide (h.peaks.length = 8)

/-- A window's measurements name eight outlets (R34). -/
def WindowMeasure.complete (m : WindowMeasure) : Bool := decide (m.amps.length = 8) && decide (m.watts.length = 8)

/-- A group number, 1 to 255 (R135). -/
def isGroup (g : Nat) : Bool := inRange 1 255 g

/-- A frame that was not carried: its reject slot was dominant, it was in error, or it broke off (R70, R80). -/
def Reception.fails (r : Reception) : Bool := r.idleEarly || r.rejectDominant || inError r.bits

/-- The frame that an APPLY row carries, with its sender (R66). -/
def Instr.carried : Instr → Option (StationId × PeerFrame)
  | .joinApply k p => some (k, .join p)
  | .statusApply k p => some (k, .status p)
  | .forgetApply k n => some (k, .forget n)
  | .claimApply k p => some (k, .claim p)
  | .openGroupApply k p => some (k, .openGroup p)
  | .groupOffApply k p => some (k, .groupOff p)
  | .groupOnApply k p => some (k, .groupOn p)
  | .groupAbortApply k p => some (k, .groupAbort p)
  | _ => none

/-- A carried frame's payload lies in the ranges of 11.4 (R189). -/
def Instr.carriedInRange (i : Instr) : Bool :=
  match i.carried with
  | some x => payloadInRange x.2
  | none => true

/-- The operands describe a command that its row stands for. -/
def wellFormed (i : Instr) : Bool :=
  i.carriedInRange &&
    match i with
    | .switchOn _ _ direction => decide (direction ≠ 0)
    | .invalidHostFrame bits command => decide (bits ≠ 0) && (decide (bits % 8 ≠ 0) || !isCommandCode command)
    | .voltageZeroCrossing _ _ _ h m => h.complete && m.complete
    | .halfCycleTimeout _ h => h.complete
    | .windowTimeout _ m => m.complete
    | .instantTrip _ magnitude => decide (6000 < magnitude)
    | .busIdleOffer rivals => rivals.all (inRange 0 639)
    | .failedFrame r => r.fails
    | .offGatherExpiry g => isGroup g
    | .dwellExpiry g => isGroup g
    | .onGatherExpiry g => isGroup g
    | _ => true

end Sys2Proof
end

