-- ==== Sys2Proof/Safety.lean ====
section
/-! DEFINITION. The words the statements use: which commands are host frames, and the host port after one. What every step keeps: the outlet records agree with the table of R2, the closure queues with the outlet states (R104), the event queue (R184) and the transmit queue (R75) stay within their capacity, and the members of a cycle record stay in outlet order (R137). -/

namespace Sys2Proof.Machine

/-- An outlet record agrees with itself: the relay and the coil follow the state and sub-phase (R2), a sub-phase is present exactly in
CLOSING and OPENING and COIL belongs to CLOSING (R1, R2), pending-off marks a CLOSING outlet (R12), and the claim-wait timer runs exactly in
CLAIMING (R6). -/
abbrev Outlet.consistent (x : Outlet) : Prop :=
  x.relay = relayFor x.state x.sub ∧ x.coil = coilFor x.state x.sub ∧ (x.sub.isSome = true ↔ x.state = .closing ∨ x.state = .opening) ∧
    (x.sub = some .coil → x.state = .closing) ∧ (x.pendingOff = true → x.state = .closing) ∧ (x.claimWait.isSome = true ↔ x.state = .claiming)

/-- Every outlet record agrees with itself. -/
abbrev State.outletsConsistent (s : State) : Prop := ∀ o, (s.outlet o).consistent

/-- An outlet stands in its bank's closure queue exactly while it is in CLAIMING, and at most once, and a queue holds outlets of its own bank
(R104). -/
abbrev State.queuesConsistent (s : State) : Prop :=
  (∀ o, o ∈ s.queue (bankOf o) ↔ (s.outlet o).state = .claiming) ∧ (∀ b, (s.queue b).Nodup) ∧ ∀ b, ∀ o ∈ s.queue b, bankOf o = b

/-- The outlet records and the closure queues agree with each other. -/
abbrev State.switchesConsistent (s : State) : Prop := s.outletsConsistent ∧ s.queuesConsistent

/-- Out of reset, outlet records and closure queues are consistent. While RST is asserted a PULSE is reduced to HOLD (R28), so nothing is
asked of the records then. -/
abbrev State.switchInvariant (s : State) : Prop := s.inReset = false → s.switchesConsistent

/-- The event queue holds at most 64 records (R184). -/
abbrev State.eventsBounded (s : State) : Prop := s.port.events.length ≤ eventCapacity

/-- The frames of one kind in a queue. -/
def kindCount (k : FrameKind) (q : List QueuedFrame) : Nat := (q.filter (fun x => decide (frameKind x.frame = k))).length

/-- The frame being sent stands in the queue, and what waits to replace it is a STATUS or a JOIN of its own kind (R69, R76). -/
abbrev Sending.standsIn (q : List QueuedFrame) (a : Sending) : Prop :=
  a.frame ∈ q ∧ ∀ f, a.replacement = some f → isReserved f = true ∧ frameKind f = frameKind a.frame.frame

/-- The transmit queue holds at most 30 frames other than STATUS and JOIN, one STATUS and one JOIN (R75), the frame being sent among them. -/
abbrev State.queueBounded (s : State) : Prop :=
  ordinaryCount s.link.queue ≤ ordinaryCapacity ∧ kindCount .status s.link.queue ≤ 1 ∧ kindCount .join s.link.queue ≤ 1 ∧
    ∀ a, s.link.sending = some a → a.standsIn s.link.queue

/-- The members of every cycle record stand in outlet number order, each once (R137). -/
abbrev State.membersInOrder (s : State) : Prop := ∀ r ∈ s.records, (r.members.map (·.outlet)).Pairwise (· < ·)

/-- The bits of a host frame and whether it passes the checks of R175; none for a command that is no host frame. -/
def hostFrame : Instr → Option (Nat × Bool)
  | .readStatus bits => some (bits, readLengthOk bits .status)
  | .readOutlet bits x c => some (bits, readLengthOk bits (.outlet x c))
  | .readBank bits x => some (bits, readLengthOk bits (.bank x))
  | .readPeer bits x => some (bits, readLengthOk bits (.peer x))
  | .readGroup bits x => some (bits, readLengthOk bits (.group x))
  | .readEvent bits => some (bits, readLengthOk bits .event)
  | .readResult bits => some (bits, readLengthOk bits .result)
  | .switchOn bits _ _ => some (bits, actionLengthOk bits 2)
  | .switchOff bits _ => some (bits, actionLengthOk bits 2)
  | .cycleOutlet bits _ _ => some (bits, actionLengthOk bits 3)
  | .cycleGroup bits _ _ => some (bits, actionLengthOk bits 3)
  | .abortGroup bits _ => some (bits, actionLengthOk bits 1)
  | .clearTrip bits _ => some (bits, actionLengthOk bits 1)
  | .resetEnergy bits _ => some (bits, actionLengthOk bits 1)
  | .setProtect bits _ => some (bits, actionLengthOk bits 3)
  | .forgetPeer bits _ => some (bits, actionLengthOk bits 1)
  | .setBoard bits _ => some (bits, actionLengthOk bits 13)
  | .setBank bits _ => some (bits, actionLengthOk bits 5)
  | .setProfile bits _ => some (bits, actionLengthOk bits 9)
  | .setOutlet bits _ => some (bits, actionLengthOk bits 8)
  | .setGroup bits _ => some (bits, actionLengthOk bits 4)
  | .start bits => some (bits, actionLengthOk bits 0)
  | .invalidHostFrame bits command => if isInvalidFrame bits command then some (bits, false) else none
  | _ => none

/-- The command is a reset, or LOCK: what acts on the board while RST is asserted (R24, R27, R28; log 17). -/
def actsInReset : Instr → Bool
  | .powerOnReset _ _ | .warmResetAssert | .warmResetRelease _ | .lockChange _ => true
  | _ => false

/-- The host port after an executed frame that sends no reply and posts no event, with its result (R174, R176, R177). -/
def State.portAfter (s : State) (r : ResultSlot) : Port :=
  { s.port with select := .high, statusOut := s.frameStatus, dataOut := [], capture := none, slot := r, res := true, rej := false }

/-- A frame of a command that is not a read, executed with a result and no other effect (R177). -/
def State.answered (s : State) (code : ResultCode) (detail : Nat) : State := { s with port := s.portAfter ⟨code, detail⟩ }

/-- The port of a state once an event has been posted in it (R184, R185). -/
def State.portWith (s : State) (k : EventKind) (subject detail value : Nat) : Port := (s.post k subject detail value).port

/-- The host port after an accepted frame whose effect posted one event (R177, R184). -/
def State.portAfterEvent (s : State) (k : EventKind) (subject detail value : Nat) : Port :=
  { s.portAfter ⟨.ok, 0⟩ with events := (s.portWith k subject detail value).events, lost := (s.portWith k subject detail value).lost }

/-- The ranges of a configuration command: the item number's, then each field's, as lowest, highest and value
(R4, R163 to R168, R189). -/
def configFields : Instr → Option ((Nat × Nat × Nat) × List (Nat × Nat × Nat))
  | .setBoard _ a =>
    some ((0, 0, 0),
      [(1000, 2500, a.nominal.toNat), (60, 90, a.sagPercent.toNat), (5, 300, a.recoveryWait.toNat), (5, 120, a.offGather.toNat),
        (30, 900, a.onGather.toNat), (10, 600, a.claimWait.toNat)])
  | .setBank _ a => some ((0, 2, a.bank.toNat), [(0, 15, a.branch.toNat), (10, 800, a.limit.toNat), (0, 1, a.sagShed.toNat)])
  | .setProfile _ a =>
    some ((0, 3, a.profile.toNat),
      [(0, 2, a.alignment.toNat), (1, 8, a.alignLimit.toNat), (5, 100, a.coilPulse.toNat), (10, 500, a.settle.toNat),
        (1, 600, a.inrush.toNat), (1, 4, a.absorb.toNat)])
  | .setOutlet _ a =>
    some ((1, 24, a.outlet.toNat),
      [(0, 3, a.profile.toNat), (0, 255, a.group.toNat), (5, 200, a.tripThreshold.toNat), (0, 1, a.startState.toNat),
        (0, 255, a.restoreOrder.toNat), (1, 255, a.shedRank.toNat)])
  | .setGroup _ a => some ((1, 255, a.group.toNat), [(1, 600, a.dwell.toNat), (0, 1, a.policy.toNat)])
  | _ => none

/-- A value lies in its range. -/
abbrev lies (f : Nat × Nat × Nat) : Prop := f.1 ≤ f.2.2 ∧ f.2.2 ≤ f.2.1

/-- An outlet record at rest in a state of R2 in which the relay is open. -/
def Outlet.idle (x : Outlet) (st : OutletState) : Outlet :=
  { x with state := st, sub := none, relay := .opened, coil := .off, pendingOff := false, claimWait := none, stateTimer := none }

/-- One outlet's record and meter values replaced. -/
def State.withOutlet (s : State) (o : OutletId) (x : Outlet) (m : Meter) : State :=
  { s with outlets := s.outlets.set o x, meters := s.meters.set o m }

/-- What a carried frame does once it is applied (R72). -/
def State.applies (s : State) (source : StationId) : PeerFrame → State
  | .join p => s.applyJoin source p
  | .status p => s.applyStatus source p
  | .forget k => s.applyForget source k
  | .claim p => s.applyClaim source p
  | .openGroup p => s.applyOpenGroup source p
  | .groupOff p => s.applyGroupOff source p
  | .groupOn p => s.applyGroupOn source p
  | .groupAbort p => s.applyGroupAbort source p

/-- The cycle records of one group rewritten. -/
def State.recordsWith (s : State) (g : Nat) (f : CycleRecord → CycleRecord) : State :=
  { s with records := s.records.map (fun r => if r.group = g then f r else r) }

end Sys2Proof.Machine
end

