-- ==== Sys2Proof/Certificates/Slice0/Obligations.lean ====
section
/-! DEFINITION. The statements for the provers. Where a statement rests on a choice of the model, its docstring names the log entry. -/

open Sys2Proof Sys2Proof.Machine

/-! ## The machine -/

/-- A step with a command at the front of the queue is that command on the state with the queue's rest. -/
def Obligations.StepRunsTheFrontCommand : Prop :=
  ∀ (c : Instr) (s : State), step { s with pending := c :: s.pending } = exec c s

/-- `dt` ms that pass change board time and the running timers that are not frozen, and nothing else; with no command waiting a step is 1 ms
(the model's choice, log 1; timers wait at their end, log 2; nothing runs in a reset, log 17). A timer that is not running has no expiry (log 2). -/
def Obligations.TimePassesTimerByTimer : Prop :=
  ∀ (s t : State) (dt : Nat), t = s.passTime dt →
    (s.pending = [] → dt = 1 → step s = .next t) ∧ (s.inReset = true → t = s) ∧
    (s.inReset = false →
      t.boardTime = s.boardTime + BitVec.ofNat 32 dt ∧
      { t with boardTime := s.boardTime, outlets := s.outlets, lines := s.lines, link := s.link, records := s.records } = s ∧
      (∀ o, t.outlet o =
        { s.outlet o with
          stateTimer :=
            if (s.outlet o).state = .dwell ∧ (s.line (bankOf o)).state ≠ .normal then (s.outlet o).stateTimer
            else (s.outlet o).stateTimer.map (fun n => n - dt)
          claimWait :=
            if (s.line (bankOf o)).state ≠ .normal then (s.outlet o).claimWait
            else (s.outlet o).claimWait.map (fun n => min (s.cfg.claimWait * 1000) (n + dt)) }) ∧
      (∀ b, t.line b = { s.line b with recovery := (s.line b).recovery.map (fun n => n - dt) }) ∧
      t.link = { s.link with joining := s.link.joining.map (fun n => n - dt), quiet := s.link.quiet.map (fun n => n - dt) } ∧
      t.records = s.records.map (fun r =>
        { r with
          offTimer := r.offTimer.map (fun n => n - dt), onTimer := r.onTimer.map (fun n => n - dt)
          dwellTimer :=
            if r.members.any (fun m => decide ((s.line (bankOf m.outlet)).state ≠ .normal)) = true then r.dwellTimer
            else r.dwellTimer.map (fun n => n - dt) })) ∧
    (s.inReset = false →
      (∀ o x, x = s.outlet o →
        (x.state ≠ .closing ∨ x.sub ≠ some .align ∨ x.stateTimer = none → exec (.closingAlignExpiry o) s = .next s) ∧
        (x.state ≠ .closing ∨ x.sub ≠ some .coil ∨ x.stateTimer = none → exec (.coilPulseEnd o) s = .next s) ∧
        (x.state ≠ .closing ∨ x.sub ≠ some .settle ∨ x.stateTimer = none → exec (.closingSettleEnd o) s = .next s) ∧
        (x.state ≠ .opening ∨ x.sub ≠ some .align ∨ x.stateTimer = none → exec (.openingAlignExpiry o) s = .next s) ∧
        (x.state ≠ .opening ∨ x.sub ≠ some .settle ∨ x.stateTimer = none → exec (.openingSettleEnd o) s = .next s) ∧
        (x.state ≠ .dwell ∨ (∀ n, x.cycle ≠ .localCycle n) ∨ x.stateTimer = none → exec (.localDwellExpiry o) s = .next s) ∧
        (x.state ≠ .claiming ∨ x.claimWait = none → exec (.claimWaitExpiry o) s = .next s)) ∧
      (∀ b, (s.line b).state ≠ .recovering ∨ (s.line b).recovery = none → exec (.recoveryTimerExpiry b) s = .next s) ∧
      (s.link.state ≠ .joining ∨ s.link.joining = none → exec .joiningTimerExpiry s = .next s) ∧
      (s.link.state ≠ .linkDown ∨ s.link.quiet = none → exec .quietTimerExpiry s = .next s) ∧
      ∀ g,
        ((∀ r, s.cycle? g = some r → r.phase ≠ .offPhase ∨ r.offTimer = none) → exec (.offGatherExpiry g) s = .next s) ∧
        ((∀ r, s.cycle? g = some r → r.phase ≠ .dwell ∨ r.dwellTimer = none) → exec (.dwellExpiry g) s = .next s) ∧
        ((∀ r, s.cycle? g = some r → r.phase ≠ .onPhase ∨ r.onTimer = none) → exec (.onGatherExpiry g) s = .next s))

/-- Every command completes, and leaves the commands that wait and the board serial as they are, which for the two resets is the model's choice
(logs 15 and 32). -/
def Obligations.EveryCommandCompletesAndKeepsTheQueue : Prop :=
  ∀ (c : Instr) (s : State), ∃ t, exec c s = .next t ∧ t.pending = s.pending ∧ t.serial = s.serial

/-- From START to the next reset no command changes the phase, a configuration item, or a group's dwell and policy. -/
def Obligations.ConfigurationIsFixedWhileRunning : Prop :=
  ∀ (c : Instr) (s t : State), s.phase = .running → (∀ j l, c ≠ .powerOnReset j l) → (∀ j, c ≠ .warmResetRelease j) → exec c s = .next t →
    t.phase = .running ∧ t.cfg = s.cfg ∧ t.banks = s.banks ∧ t.profiles = s.profiles ∧ (∀ o, (t.outlet o).cfg = (s.outlet o).cfg) ∧
      t.groups.map (fun e => (e.group, e.dwell, e.policy)) = s.groups.map (fun e => (e.group, e.dwell, e.policy))

/-- Out of reset, every step keeps the outlet records in agreement with the table of R2 and the closure queues in agreement with the outlet
states. -/
def Obligations.EveryStepKeepsTheSwitchesConsistent : Prop :=
  ∀ s t : State, s.switchInvariant → step s = .next t → t.switchInvariant

/-- Right after reset the outlet records and the closure queues agree, and the event queue, the transmit queue and the cycle records are as
`QueuesStayWithinTheirCapacityAndMembersInOrder` keeps them. -/
def Obligations.ResetMeetsTheInvariants : Prop :=
  State.reset.switchesConsistent ∧ State.reset.eventsBounded ∧ State.reset.queueBounded ∧ State.reset.membersInOrder

/-- No step brings the event queue past 64 records (R184), or the transmit queue past 30 frames other than STATUS and JOIN, one STATUS and one JOIN
(R75), nor the members of a cycle record out of outlet order (R137). -/
def Obligations.QueuesStayWithinTheirCapacityAndMembersInOrder : Prop :=
  (∀ s t : State, s.eventsBounded → step s = .next t → t.eventsBounded) ∧
  (∀ s t : State, s.queueBounded → step s = .next t → t.queueBounded) ∧
  (∀ s t : State, s.membersInOrder → step s = .next t → t.membersInOrder) ∧
  ∀ s : State, s.queueBounded ↔
    (s.link.queue.filter (fun x => decide (frameKind x.frame ≠ .status ∧ frameKind x.frame ≠ .join))).length ≤ 30 ∧
      (s.link.queue.filter (fun x => decide (frameKind x.frame = .status))).length ≤ 1 ∧
      (s.link.queue.filter (fun x => decide (frameKind x.frame = .join))).length ≤ 1 ∧
      ∀ a, s.link.sending = some a → a.frame ∈ s.link.queue ∧
        ∀ f, a.replacement = some f → (frameKind f = .status ∨ frameKind f = .join) ∧ frameKind f = frameKind a.frame.frame

/-- A frame in the ranges of 11.4 that any station queues is read back by a receiver, bit for bit: its sender and its payload. -/
def Obligations.QueuedFrameIsReadBack : Prop :=
  ∀ (urgency : Nat) (k : StationId) (f : PeerFrame), urgency < 8 → payloadInRange f = true → judge (queuedFrame urgency k f).bits = .good k f

/-- The bits clocked in are grouped into bytes, the most significant bit first, and spell a command by the codes and arguments of 11.2; a read's reply is
captured by its last argument byte; and the bits out are those of the status byte, then of what the port sends, then 0 (R174). That a SWITCH byte other
than 0 goes to the SWITCH_ON row, which checks it, and that a frame without a whole byte is an INVALID_HOST_FRAME, is the model's reading of the table
(logs 10 and 11). -/
def Obligations.HostBytesSpellTheCommands : Prop :=
  (∀ l : List Bool, (bytesOfBits l).length = l.length / 8 ∧
    ∀ k j x, (bytesOfBits l)[k]? = some x → j < 8 → l[8 * k + j]? = some (x.getLsbD (7 - j))) ∧
  (∀ l : List Bool, l.length < 8 → commandOfBits l = .invalidHostFrame l.length 0) ∧
  (∀ (l : List Bool) (code : Byte) (rest : List Byte) (n : Nat) (a : Nat → Byte), bytesOfBits l = code :: rest → n = l.length →
    (∀ k, a k = rest.getD k 0) →
      (code = 0x01 → commandOfBits l = .readStatus n) ∧ (code = 0x02 → commandOfBits l = .readOutlet n (a 0) (a 1)) ∧
      (code = 0x03 → commandOfBits l = .readBank n (a 0)) ∧ (code = 0x04 → commandOfBits l = .readPeer n (a 0)) ∧
      (code = 0x05 → commandOfBits l = .readGroup n (a 0)) ∧ (code = 0x06 → commandOfBits l = .readEvent n) ∧
      (code = 0x07 → commandOfBits l = .readResult n) ∧ (code = 0x10 → a 1 = 0 → commandOfBits l = .switchOff n (a 0)) ∧
      (code = 0x10 → a 1 ≠ 0 → commandOfBits l = .switchOn n (a 0) (a 1)) ∧
      (code = 0x11 → commandOfBits l = .cycleOutlet n (a 0) (a 1 ++ a 2)) ∧ (code = 0x12 → commandOfBits l = .cycleGroup n (a 0) (a 1 ++ a 2)) ∧
      (code = 0x13 → commandOfBits l = .abortGroup n (a 0)) ∧ (code = 0x14 → commandOfBits l = .clearTrip n (a 0)) ∧
      (code = 0x15 → commandOfBits l = .resetEnergy n (a 0)) ∧ (code = 0x16 → commandOfBits l = .setProtect n (a 0 ++ a 1 ++ a 2)) ∧
      (code = 0x17 → commandOfBits l = .forgetPeer n (a 0)) ∧
      (code = 0x20 →
        commandOfBits l = .setBoard n ⟨a 0 ++ a 1, a 2, a 3 ++ a 4, a 5, a 6 ++ a 7, a 8 ++ a 9, a 10 ++ a 11 ++ a 12⟩) ∧
      (code = 0x21 → commandOfBits l = .setBank n ⟨a 0, a 1, a 2 ++ a 3, a 4⟩) ∧
      (code = 0x22 → commandOfBits l = .setProfile n ⟨a 0, a 1, a 2, a 3, a 4 ++ a 5, a 6 ++ a 7, a 8⟩) ∧
      (code = 0x23 → commandOfBits l = .setOutlet n ⟨a 0, a 1, a 2, a 3 ++ a 4, a 5, a 6, a 7⟩) ∧
      (code = 0x24 → commandOfBits l = .setGroup n ⟨a 0, a 1 ++ a 2, a 3⟩) ∧ (code = 0x25 → commandOfBits l = .start n) ∧
      (code = 0 ∨ 0x07 < code.toNat ∧ code.toNat < 0x10 ∨ 0x17 < code.toNat ∧ code.toNat < 0x20 ∨ 0x25 < code.toNat →
        commandOfBits l = .invalidHostFrame n code)) ∧
  (∀ (l : List Bool) (r : ReadRequest),
    captureOfBits l = some (.reply r) ↔ readOf (commandOfBits l) = some r ∧
      l.length = 8 + 8 * (match r with | .outlet _ _ => 2 | .bank _ | .peer _ | .group _ => 1 | .status | .event | .result => 0)) ∧
  ∀ (p : Port) (k j : Nat), p.byteOut 0 = p.statusOut ∧ p.byteOut (k + 1) = p.dataOut.getD k 0 ∧
    (j < 8 → p.bitOut (8 * k + j) = (p.byteOut k).getLsbD (7 - j))

/-! ## Resets and LOCK (R24, R27, R28, R49, R50, R64, R83, R85, R122, R124, R135, R172, R173, R188) -/

/-- A power-on reset sets every outlet record, the profiles, the samples and the LEDs as R27 lists, and the meter values and first windows as R49
lists. -/
def Obligations.PowerOnResetSetsTheOutletsAndTheMeters : Prop :=
  ∀ (j : Jumpers) (l : Bool) (s : State), ∃ t, exec (.powerOnReset j l) s = .next t ∧
    (∀ o, { t.outlet o with alignLimitMs := 0, alignPeak := 0 } =
      { cfg := ⟨0, 0, 160, false, 128, 255⟩, state := .off, sub := none, relay := .opened, coil := .off, target := .none, isProtected := false,
        pendingOff := false, restoreIntent := false, cycle := .none, unalignedLast := false, claimWait := none, stateTimer := none,
        alignLimitMs := 0, alignPeak := 0 }) ∧
    (∀ k, t.profiles.get k = ⟨.zero, 2, 20, 100, 80, 1⟩) ∧ t.lke = j.lke ∧ t.lockSample = l ∧ (∀ o, t.outletLedLit o = false) ∧
    (∀ o, (t.meter o).energy = 0 ∧ (t.meter o).remainder = 0 ∧ (t.meter o).reversePower = false ∧ (t.meter o).peak = 0 ∧
      (t.meter o).undisturbed = none ∧ (t.meter o).record = none ∧ (t.meter o).overCount = 0 ∧ (t.meter o).lastCross = none) ∧
    (∀ b, (t.window b).line = none ∧ (t.window b).start = t.boardTime ∧ (t.window b).cycles = 10 ∧ (t.window b).riseStart = none ∧
      (t.line b).lastCross = none ∧ t.bankLoad b = 0) ∧
    t.boardTime = 0

/-- After either reset the other blocks hold their reset values, in CONFIGURING, with the inputs sampled and the configuration at its
defaults. That a power-on reset taken while RST is asserted ends the reset too is the model's choice (log 43). -/
def Obligations.EitherResetLeavesTheBlocksAtTheirStart : Prop :=
  ∀ (j : Jumpers) (l : Bool) (s t : State), (exec (.powerOnReset j l) s = .next t ∨ s.inReset = true ∧ exec (.warmResetRelease j) s = .next t) →
    t.inReset = false ∧ t.phase = .configuring ∧ t.boardTime = 0 ∧
    t.station.val = 8 * j.st3.toNat + 4 * j.st2.toNat + 2 * j.st1.toNat + j.st0.toNat ∧ t.lke = j.lke ∧
    t.cfg = ⟨2300, 80, 20, 20, 300, 120, 0x07FFFF⟩ ∧ t.banks = ⟨⟨0, 160, true⟩, ⟨1, 160, true⟩, ⟨2, 160, true⟩⟩ ∧
    (∀ k, t.profiles.get k = ⟨.zero, 2, 20, 100, 80, 1⟩) ∧ (∀ o, (t.outlet o).cfg = ⟨0, 0, 160, false, 128, 255⟩) ∧ t.restoreSet = 0 ∧
    (∀ b, (t.line b).state = .normal ∧ (t.line b).low = 0 ∧ (t.line b).good = 0 ∧ (t.line b).lastCross = none ∧ (t.line b).recovery = none ∧
      (t.line b).sagStart = none ∧ (t.line b).reentry = 0 ∧ (t.line b).shedInUse = true ∧ t.noCrossingDue b = some 25) ∧
    t.link.state = .silent ∧ t.link.queue = [] ∧ t.link.sending = none ∧ t.link.failures = 0 ∧ t.link.joining = none ∧ t.link.quiet = none ∧
    (∀ k, t.peer k =
      { state := .absent, info := none, loads := ⟨0, 0, 0⟩, helds := ⟨0, 0, 0⟩, ranks := ⟨255, 255, 255⟩
        flags := ⟨⟨false, false⟩, ⟨false, false⟩, ⟨false, false⟩⟩, groups := [], conflict := false, lastHeard := none, becameLive := none }) ∧
    t.conflicts = 0 ∧
    (∀ b, t.queue b = [] ∧ (t.claim b).state = .none ∧ (t.claim b).outlet = none ∧ (t.claim b).amount = 0 ∧ (t.claim b).withdrawn = false ∧
      (t.claim b).ending = .none ∧ (t.claim b).absorbTarget = 1 ∧ (t.claim b).absorbCount = 0 ∧ (t.claim b).denials = 0 ∧
      (t.claim b).retryWait = none) ∧
    (∀ n, t.over n = ⟨.clear, none, 0, false⟩) ∧ t.groups = [] ∧ t.records = [] ∧ t.seq = 0

/-- After either reset the host port is as R188 gives it. -/
def Obligations.EitherResetLeavesThePortEmpty : Prop :=
  ∀ (j : Jumpers) (l : Bool) (s t : State), (exec (.powerOnReset j l) s = .next t ∨ s.inReset = true ∧ exec (.warmResetRelease j) s = .next t) →
    t.port.events = [] ∧ t.alert = false ∧ t.port.res = false ∧ t.port.evt = false ∧ t.port.lost = false ∧ t.port.rej = false ∧
      t.port.slot = ⟨.ok, 0⟩ ∧ (∀ k, maskEnables t.cfg.eventMask k = true) ∧ t.statusByte = 0 ∧ t.boardTime = 0

/-- While RST is asserted every coil keeps its drive, a PULSE reduced to HOLD, every LED is dark, ALERT is negated, an attempt in progress is
broken off and an open host frame dropped; that nothing else changes at that moment is the model's reading (log 36). Nothing acts then but the resets
and LOCK, host frames only ending (log 17), and a frame that is open when a reset comes, or begins in one, is marked to be discarded, power-on included
(log 31). -/
def Obligations.AssertedResetHoldsTheCoilsAndStopsTheRest : Prop :=
  (∀ s : State, ∃ t, exec .warmResetAssert s = .next t ∧ t.inReset = true ∧
    (∀ o, t.outlet o = { s.outlet o with coil := match (s.outlet o).coil with | .pulse => .hold | d => d }) ∧
    (∀ o, t.outletLedLit o = false) ∧ t.linkLedLit = false ∧ t.alert = false ∧ t.link.sending = none ∧
    { t.link with sending := s.link.sending, rejectDriven := s.link.rejectDriven } = s.link ∧
    t.port = { s.port with select := if s.port.select = .high then .high else .discarded, capture := none } ∧
    { t with inReset := s.inReset, outlets := s.outlets, link := s.link, port := s.port } = s) ∧
  (∀ (c : Instr) (s : State), s.inReset = true → hostFrame c = none → (∀ w, c ≠ .hostReplyCapture w) → actsInReset c = false →
    exec c s = .next s) ∧
  (∀ (w : PortCapture) (s : State), s.inReset = true →
    exec (.hostReplyCapture w) s = .next { s with port := { s.port with select := .discarded, capture := none } }) ∧
  ∀ (j : Jumpers) (l : Bool) (s t : State), (exec (.powerOnReset j l) s = .next t ∨ s.inReset = true ∧ exec (.warmResetRelease j) s = .next t) →
    t.port.select = (if s.port.select = .high then .high else .discarded) ∧ t.port.capture = none

/-- A warm reset brings live outlets back ON, keeps TRIPPED ones TRIPPED and brings every other back OFF, with the protected set, the energy,
the remainder and the reverse-power flag kept, no crossing taken on any channel, and each bank's first window open at board time 0 with 10 line
cycles and no opening crossing (R31, R49, R50). That the flag is kept, as R50 and R173 say and R28 and R38 do not, is the model's choice (log 7). -/
def Obligations.WarmResetRebuildsOutletsFromTheirRelays : Prop :=
  ∀ (j : Jumpers) (s a : State), s.switchesConsistent → exec .warmResetAssert s = .next a →
    ∃ t, exec (.warmResetRelease j) a = .next t ∧
      (∀ o, ((t.outlet o).state, (t.outlet o).relay, (t.outlet o).coil) =
        if (s.outlet o).state = .tripped then (OutletState.tripped, RelayCommand.opened, CoilDrive.off)
        else if (s.outlet o).state = .on ∨ (s.outlet o).state = .closing ∧ (s.outlet o).sub ≠ some .align ∨
            (s.outlet o).state = .opening ∧ (s.outlet o).sub = some .align then (.on, .closed, .hold)
        else (.off, .opened, .off)) ∧
      (∀ o, (t.outlet o).isProtected = (s.outlet o).isProtected ∧ (t.outlet o).sub = none ∧ (t.outlet o).target = .none ∧
        (t.outlet o).pendingOff = false ∧ (t.outlet o).restoreIntent = false ∧ (t.outlet o).unalignedLast = false ∧ (t.outlet o).cycle = .none ∧
        (t.outlet o).claimWait = none ∧ (t.outlet o).stateTimer = none) ∧
      (∀ o, (t.meter o).energy = (s.meter o).energy ∧ (t.meter o).remainder = (s.meter o).remainder ∧
        (t.meter o).reversePower = (s.meter o).reversePower ∧ (t.meter o).peak = 0 ∧
        (t.meter o).undisturbed = none ∧ (t.meter o).record = none ∧ (t.meter o).overCount = 0 ∧ (t.meter o).lastCross = none) ∧
      (∀ b, (t.window b).line = none ∧ (t.window b).start = t.boardTime ∧ (t.window b).cycles = 10 ∧ (t.window b).riseStart = none ∧
        (t.line b).lastCross = none ∧ t.bankLoad b = 0) ∧
      t.boardTime = 0 ∧ t.lockSample = s.lockPin

/-- LOCK and LKE: the samples, when they are taken, and what they refuse (R24). LOCK is sampled at any time; that it is sampled while RST is asserted
too is the model's reading of that rule (log 17). -/
def Obligations.LockIsSampledAndHonouredUnderLke : Prop :=
  (∀ (v : Bool) (s : State), exec (.lockChange v) s = .next { s with lockPin := v, lockSample := v }) ∧
  (∀ (j : Jumpers) (l : Bool) (s : State), ∃ t, exec (.powerOnReset j l) s = .next t ∧ t.lke = j.lke ∧ t.lockSample = l) ∧
  (∀ (j : Jumpers) (s : State), s.inReset = true → ∃ t, exec (.warmResetRelease j) s = .next t ∧ t.lke = j.lke ∧ t.lockSample = s.lockPin) ∧
  (∀ (c : Instr) (s t : State), actsInReset c = false → exec c s = .next t → t.lke = s.lke ∧ t.lockSample = s.lockSample) ∧
  (∀ (set : OutletSet) (s : State), s.takesHostFrames = true → s.lke = true → s.lockSample = true →
    exec (.setProtect 32 set) s = .next (s.answered .locked 0)) ∧
  (∀ (set : OutletSet) (s t : State), s.takesHostFrames = true → s.lke = false → exec (.setProtect 32 set) s = .next t →
    t.port.slot.code ≠ .locked) ∧
  ∀ s : State, s.statusReply[4]? = some (BitVec.ofNat 8 (2 * s.lke.toNat + s.lockSample.toNat))

/-! ## The host port (R174 to R188) -/

/-- A frame that fails the checks of R175 sets REJ and does nothing else; one with no clock edge, or one that a reset has met, ends with no flag
changed; and RES, REJ, the result slot, select and the bytes out change in host frames and resets only. The status byte of a frame sent without the
falling of select before it is the one at its row (log 9). -/
def Obligations.RejectedFramesOnlySetRej : Prop :=
  (∀ (c : Instr) (s : State) (bits : Nat), hostFrame c = some (bits, false) → bits ≠ 0 → s.takesHostFrames = true →
    ∃ t, exec c s = .next t ∧ t.port.rej = true ∧ { t with port := s.port } = s ∧ t.port.slot = s.port.slot ∧ t.port.res = s.port.res ∧
      t.port.lost = s.port.lost ∧ t.port.events = s.port.events ∧ t.port.select = .high ∧ t.port.capture = none ∧
      (s.port.capture = none → t.port.statusOut = if s.port.select = .low then s.port.statusOut else s.statusByte)) ∧
  (∀ (c : Instr) (s : State) (bits : Nat) (ok : Bool), hostFrame c = some (bits, ok) → bits = 0 ∨ s.takesHostFrames = false →
    exec c s = .next { s with port := { s.port with select := .high, capture := none } }) ∧
  (∀ s : State, s.takesHostFrames = true ↔ s.inReset = false ∧ s.port.select ≠ .discarded) ∧
  (∀ (c : Instr) (s t : State), hostFrame c = none → actsInReset c = false → exec c s = .next t →
    t.port.res = s.port.res ∧ t.port.rej = s.port.rej ∧ t.port.slot = s.port.slot ∧
      ((∀ w, c ≠ .hostReplyCapture w) →
        t.port.select = s.port.select ∧ t.port.statusOut = s.port.statusOut ∧ t.port.dataOut = s.port.dataOut))

/-- A command that is refused writes its result, sets RES and clears REJ, and changes nothing else. -/
def Obligations.RefusedCommandsChangeNothing : Prop :=
  ∀ (c : Instr) (s t : State) (bits : Nat), hostFrame c = some (bits, true) → s.takesHostFrames = true → (readOf c).isNone = true ∨ s.port.capture = none →
    exec c s = .next t → t.port.slot.code ≠ .ok →
      t.port.res = true ∧ t.port.rej = false ∧ { t with port := s.port } = s ∧ t.port.lost = s.port.lost ∧ t.port.events = s.port.events ∧
        (readOf c = none → t = s.answered t.port.slot.code t.port.slot.detail)

/-- The falling of select opens a frame with the status byte as it stands (R174, R176); a capture copies the reply as it stands, which goes out after a 0
for each argument byte, and changes nothing else; in a frame that a reset meets nothing is captured. A read frame not captured by a command of its own is
captured and then executed (log 10), and a frame whose falling edge was not sent has it at its first command (log 9). A capture checks the arguments, and
a reply of zeros goes with BAD-ARG and NOT-MEMBER. -/
def Obligations.ReadsAreCapturedCheckedAndThenExecuted : Prop :=
  (∀ s : State, s.inReset = false →
    exec (.hostReplyCapture .statusByte) s =
      .next { s with port := { s.port with select := .low, statusOut := s.statusByte, dataOut := [], capture := none } }) ∧
  (∀ (r : ReadRequest) (s : State), s.takesHostFrames = true →
    exec (.hostReplyCapture (.reply r)) s =
      .next { s with
        port := { s.port with
          select := .low
          statusOut := if s.port.select = .low ∧ s.port.capture = none then s.port.statusOut else s.statusByte
          dataOut := List.replicate (readArgBytes r) 0 ++ (s.replyOf r).1
          capture := some ⟨r, (s.replyOf r).2, !s.port.events.isEmpty, false, 0⟩ } }) ∧
  (∀ (r : ReadRequest) (s : State), s.takesHostFrames = false →
    exec (.hostReplyCapture (.reply r)) s = .next { s with port := { s.port with select := .discarded, capture := none } }) ∧
  (∀ (c : Instr) (r : ReadRequest) (bits : Nat) (s a : State), readOf c = some r → hostFrame c = some (bits, true) → s.takesHostFrames = true →
    (∀ k, s.port.capture = some k → k.request ≠ r) → exec (.hostReplyCapture (.reply r)) s = .next a → exec c s = exec c a) ∧
  (∀ s : State,
    (s.replyOf .status).2 = ⟨.ok, 0⟩ ∧ (s.replyOf .event).2 = ⟨.ok, 0⟩ ∧ (s.replyOf .result).2 = ⟨.ok, 0⟩ ∧
    (∀ x c : Byte, s.replyOf (.outlet x c) =
      if x.toNat < 1 ∨ 24 < x.toNat then (List.replicate 37 0, ⟨.badArg, 1⟩)
      else if 1 < c.toNat then (List.replicate 37 0, ⟨.badArg, 2⟩)
      else (s.outletReply (Fin.ofNat 24 (x.toNat - 1)), ⟨.ok, 0⟩)) ∧
    (∀ x : Byte, (2 < x.toNat → s.replyOf (.bank x) = (List.replicate 89 0, ⟨.badArg, 1⟩)) ∧ (x.toNat ≤ 2 → (s.replyOf (.bank x)).2 = ⟨.ok, 0⟩)) ∧
    (∀ x : Byte, s.replyOf (.peer x) =
      if 15 < x.toNat then (List.replicate 57 0, ⟨.badArg, 1⟩) else (s.peerReply (Fin.ofNat 16 x.toNat), ⟨.ok, 0⟩)) ∧
    ∀ x : Byte, s.replyOf (.group x) =
      if x = 0 then (List.replicate 70 0, ⟨.badArg, 1⟩)
      else
        match s.group? x.toNat with
        | none => (List.replicate 70 0, ⟨.notMember, 0⟩)
        | some e => (s.groupReply e, ⟨.ok, 0⟩))

/-- Each read, its reply captured, is executed: the captured result goes to the slot, and the side effects of R41, R180 and R183 take place. -/
def Obligations.CapturedReadsTakeTheirEffect : Prop :=
  ∀ (s : State) (k : Capture) (bits : Nat), s.takesHostFrames = true → s.port.capture = some k → readLengthOk bits k.request = true →
    (k.request = .status →
      exec (.readStatus bits) s =
        .next { s with port := { s.port with lost := s.port.lost && k.lossSince, slot := k.result, res := true, rej := false, select := .high, capture := none } }) ∧
    (∀ x c o, k.request = .outlet x c → outletArg x = some o →
      exec (.readOutlet bits x c) s =
        .next { s with
          meters := if c = 1 ∧ k.result = ⟨.ok, 0⟩ then s.meters.set o { s.meter o with peak := k.peakSince } else s.meters
          port := { s.port with slot := k.result, res := true, rej := false, select := .high, capture := none } }) ∧
    (∀ x c, k.request = .outlet x c → outletArg x = none →
      exec (.readOutlet bits x c) s = .next { s with port := { s.port with slot := k.result, res := true, rej := false, select := .high, capture := none } }) ∧
    (∀ x, k.request = .bank x →
      exec (.readBank bits x) s = .next { s with port := { s.port with slot := k.result, res := true, rej := false, select := .high, capture := none } }) ∧
    (∀ x, k.request = .peer x →
      exec (.readPeer bits x) s = .next { s with port := { s.port with slot := k.result, res := true, rej := false, select := .high, capture := none } }) ∧
    (∀ x, k.request = .group x →
      exec (.readGroup bits x) s = .next { s with port := { s.port with slot := k.result, res := true, rej := false, select := .high, capture := none } }) ∧
    (k.request = .event →
      exec (.readEvent bits) s =
        .next { s with
          port := { s.port with
            events := if k.hadEvent = true then s.port.events.tail else s.port.events, slot := k.result, res := true, rej := false,
            select := .high, capture := none } }) ∧
    (k.request = .result →
      exec (.readResult bits) s = .next { s with port := { s.port with slot := ⟨.ok, 0⟩, res := false, rej := false, select := .high, capture := none } })

/-- Every reply has the length of 11.2 and is sent byte by byte as 11.2 lays it out, with the codes of 11.3 and 11.5: READ STATUS, READ OUTLET, READ
BANK, READ PEER, READ GROUP, READ EVENT with the oldest record and the number held, and READ RESULT (R180 to R183). The port flags byte, the serial, map
and limits of an entry that has none, and the limit in READ BANK are as log 33 reads them. -/
def Obligations.RepliesReportTheBoard : Prop :=
  (∀ s : State, (s.replyOf .status).1.length = 21 ∧ (∀ x c, (s.replyOf (.outlet x c)).1.length = 37) ∧
    (∀ x, (s.replyOf (.bank x)).1.length = 89) ∧ (∀ x, (s.replyOf (.peer x)).1.length = 57) ∧ (∀ x, (s.replyOf (.group x)).1.length = 70) ∧
    (s.replyOf .event).1.length = 12 ∧ (s.replyOf .result).1.length = 3) ∧
  (readArgBytes .status = 0 ∧ readArgBytes .event = 0 ∧ readArgBytes .result = 0 ∧ (∀ x c, readArgBytes (.outlet x c) = 2) ∧
    ∀ x, readArgBytes (.bank x) = 1 ∧ readArgBytes (.peer x) = 1 ∧ readArgBytes (.group x) = 1) ∧
  (∀ w n k : Nat, (beBytes w n).length = w ∧ (k < w → (beBytes w n)[k]? = some (BitVec.ofNat 8 (n / 256 ^ (w - 1 - k))))) ∧
  (∀ s : State,
    s.statusReply =
      beBytes 1 (if s.phase = .running then 1 else 0) ++ beBytes 1 (linkStateCode s.link.state) ++ beBytes 1 s.link.failures ++
        beBytes 1 s.station.val ++ beBytes 1 (2 * s.lke.toNat + s.lockSample.toNat) ++ beBytes 6 s.serial.toNat ++ beBytes 4 s.boardTime.toNat ++
        beBytes 1 (s.peersIn .live) ++ beBytes 1 (s.peersIn .lost) ++ beBytes 2 s.conflicts.toNat ++ beBytes 1 s.port.events.length ++
        beBytes 1 (128 * s.port.res.toNat + 64 * s.port.evt.toNat + 32 * s.port.lost.toNat + 16 * s.port.rej.toNat) ∧
    (s.port.events = [] → s.eventReply = List.replicate 12 0) ∧
    (∀ e rest, s.port.events = e :: rest →
      s.eventReply =
        beBytes 1 (rest.length + 1) ++ beBytes 1 e.kind.code ++ beBytes 4 e.time.toNat ++ beBytes 1 e.subject ++ beBytes 1 e.detail ++
          beBytes 4 e.value.toNat) ∧
    s.resultReply = [BitVec.ofNat 8 (resultCode s.port.slot.code), BitVec.ofNat 8 s.port.slot.detail, if s.port.res then 0x80 else 0]) ∧
  (∀ (s : State) (o : OutletId) (x : Outlet) (m : Meter), x = s.outlet o → m = s.meter o →
    s.outletReply o =
      beBytes 1 (o.val + 1) ++ beBytes 1 x.cfg.profile.val ++ beBytes 1 x.cfg.group ++ beBytes 2 x.cfg.tripThreshold ++
        beBytes 1 x.cfg.startOn.toNat ++ beBytes 1 x.cfg.restoreOrder ++ beBytes 1 x.cfg.shedRank ++ beBytes 1 (outletStateCode x.state) ++
        beBytes 1 (subPhaseCode x.sub) ++ beBytes 1 (hostTargetCode x.target) ++
        beBytes 1 (128 * x.isProtected.toNat + 64 * x.pendingOff.toNat + 32 * x.restoreIntent.toNat + 16 * x.unalignedLast.toNat +
          8 * m.reversePower.toNat + 2 * m.record.isSome.toNat + m.undisturbed.isSome.toNat) ++
        (match x.cycle with
          | .none => beBytes 1 0 ++ beBytes 2 0
          | .localCycle d => beBytes 1 1 ++ beBytes 2 d
          | .group => beBytes 1 2 ++ beBytes 2 0) ++
        (match m.record with
          | some r =>
            beBytes 2 r.amps ++ beBytes 4 (BitVec.ofInt 32 r.watts).toNat ++ beBytes 4 r.voltAmps ++ beBytes 1 r.powerFactor ++
              beBytes 1 (4 * r.disturbed.toNat + 2 * r.noLine.toNat + r.reverse.toNat)
          | none => List.replicate 12 0) ++
        beBytes 2 (m.undisturbed.getD 0) ++ beBytes 6 m.energy.toNat ++ beBytes 2 m.peak) ∧
  (∀ (s : State) (b : Bank) (x : Byte) (l : Line) (c : Claim) (v : Overload), x.toNat = bankNo b → l = s.line b → c = s.claim b →
    v = s.over (s.bank b).branch →
    (s.replyOf (.bank x)).1 =
      beBytes 1 (bankNo b) ++
        (match (s.window b).line with
          | some r =>
            beBytes 2 r.volts ++ beBytes 2 r.frequency ++ beBytes 1 r.halves ++ beBytes 2 r.duration ++ beBytes 4 r.endTime.toNat ++
              beBytes 1 (2 + r.noLine.toNat)
          | none => List.replicate 12 0) ++
        beBytes 2 (s.bankLoad b) ++ beBytes 1 (lineStateCode l.state) ++ beBytes 1 (s.bank b).sagShed.toNat ++ beBytes 1 l.reentry ++
        beBytes 2 (l.recovery.getD 0) ++ beBytes 1 (s.queue b).length ++
        (((s.queue b).map (fun (o : OutletId) => beBytes 1 (o.val + 1) ++ beBytes 1 (s.restoreOrder o) ++ beBytes 4 ((s.outlet o).claimWait.getD 0)) ++
          List.replicate 8 (List.replicate 6 0)).take 8).flatten ++
        beBytes 1 (claimStateCode c.state) ++ beBytes 1 (match c.outlet with | some o => o.val + 1 | none => 0) ++ beBytes 2 c.amount ++
        beBytes 1 (128 * c.withdrawn.toNat + endingMarkCode c.ending) ++ beBytes 1 c.absorbTarget ++ beBytes 1 c.absorbCount ++
        beBytes 1 c.denials ++ beBytes 1 (match c.retryWait with | some o => o.val + 1 | none => 0) ++ beBytes 1 (s.bank b).branch.val ++
        beBytes 2 (s.branchTotal (s.bank b).branch) ++ beBytes 2 (s.bank b).limit ++ beBytes 1 (hasNumber s.conflicts (s.bank b).branch).toNat ++
        beBytes 1 (overloadStateCode v.state) ++ beBytes 1 (match v.shedder with | some k => k.val | none => 255) ++ beBytes 2 v.loadTotal ++
        beBytes 1 v.reported.toNat) ∧
  (∀ (s : State) (k : StationId) (p : Peer), p = s.peer k →
    s.peerReply k =
      beBytes 1 k.val ++ beBytes 1 (entryStateCode p.state) ++
        (match p.info with
          | some i =>
            beBytes 6 i.serial.toNat ++ (beBytes 1 i.map.a.val ++ beBytes 1 i.map.b.val ++ beBytes 1 i.map.c.val) ++
              (beBytes 2 i.limits.a ++ beBytes 2 i.limits.b ++ beBytes 2 i.limits.c)
          | none => List.replicate 15 0) ++
        (beBytes 2 p.loads.a ++ beBytes 2 p.loads.b ++ beBytes 2 p.loads.c) ++ (beBytes 2 p.helds.a ++ beBytes 2 p.helds.b ++ beBytes 2 p.helds.c) ++
        (beBytes 1 p.ranks.a ++ beBytes 1 p.ranks.b ++ beBytes 1 p.ranks.c) ++
        (beBytes 1 (p.flags.a.sag.toNat + 2 * p.flags.a.recovering.toNat) ++ beBytes 1 (p.flags.b.sag.toNat + 2 * p.flags.b.recovering.toNat) ++
          beBytes 1 (p.flags.c.sag.toNat + 2 * p.flags.c.recovering.toNat)) ++
        beBytes 1 p.conflict.toNat ++ beBytes 1 p.groups.length ++ ((p.groups.map (beBytes 1) ++ List.replicate 16 [0]).take 16).flatten ++
        beBytes 4 (match p.lastHeard with | some h => (s.boardTime - h).toNat | none => 0)) ∧
  (∀ (s : State) (e : GroupEntry), ∃ (members : OutletSet) (lost : NumberSet), (∀ o, hasOutlet members o = true ↔ (s.outlet o).cfg.group = e.group) ∧
    (∀ k : StationId, hasNumber lost k = true ↔ hasNumber e.roster k = true ∧ (s.peer k).state = .lost) ∧
    s.groupReply e =
      beBytes 1 e.group ++ beBytes 2 e.dwell ++ beBytes 1 (policyCode e.policy) ++ beBytes 3 members.toNat ++
        (match e.pendingTag with
          | some g => beBytes 1 1 ++ beBytes 1 (16 * g.station.val + g.seq.val)
          | none => [0, 0]) ++
        beBytes 2 e.roster.toNat ++ beBytes 2 lost.toNat ++
        (match s.record? e.group with
          | none => List.replicate 57 0
          | some r =>
            beBytes 1 1 ++ beBytes 1 (16 * r.tag.station.val + r.tag.seq.val) ++ beBytes 2 r.dwell ++ beBytes 1 (policyCode r.policy) ++
              beBytes 1 (cyclePhaseCode r.phase) ++ beBytes 2 r.awaited.toNat ++ beBytes 2 r.early.toNat ++
              beBytes 1 (r.members.filter (·.wasOpened)).length ++
              ([MemberStatus.held, .off, .restored, .failed].map (fun st => (r.members.filter (fun m => decide (m.status = st))).length)).flatMap
                (beBytes 1) ++
              beBytes 1 r.gOpened ++ beBytes 1 r.gHeld ++ beBytes 1 r.gRestored ++ beBytes 1 r.gFailed ++ beBytes 4 (r.offTimer.getD 0) ++
              beBytes 4 (r.dwellTimer.getD 0) ++ beBytes 4 (r.onTimer.getD 0) ++ beBytes 1 r.abortOffered.toNat ++
              allOutlets.flatMap (fun o =>
                beBytes 1 (match r.members.find? (fun m => decide (m.outlet = o)) with | some m => memberStatusCode m.status | none => 0)) ++
              beBytes 1 (if r.phase = .done then (match r.outcome with | some out => outcomeCode out | none => 0) else 0))) ∧
  [Bank.bankA, .bankB, .bankC].map bankNo = List.range 3 ∧ allOutlets.map (·.val) = List.range 24 ∧
  [OutletState.off, .claiming, .closing, .on, .opening, .dwell, .shed, .tripped].map outletStateCode = List.range 8 ∧
  [none, some SubPhase.align, some .coil, some .settle].map subPhaseCode = List.range 4 ∧
  [HostTarget.none, .on, .off].map hostTargetCode = List.range 3 ∧ [LineState.normal, .sag, .recovering].map lineStateCode = List.range 3 ∧
  [LinkState.silent, .joining, .active, .linkDown, .isolated].map linkStateCode = List.range 5 ∧
  [EntryState.absent, .live, .lost].map entryStateCode = List.range 3 ∧ [ClaimState.none, .sent, .granted].map claimStateCode = List.range 3 ∧
  [EndingMark.none, .released, .dropped].map endingMarkCode = List.range 3 ∧
  [OverloadState.clear, .overOnce, .hold].map overloadStateCode = List.range 3 ∧ [Policy.strict, .lenient].map policyCode = List.range 2 ∧
  [CyclePhase.offPhase, .dwell, .onPhase, .restoringAbort, .done].map cyclePhaseCode = List.range 5 ∧
  [MemberStatus.held, .opening, .opened, .off, .restoring, .restored, .failed].map memberStatusCode = (List.range 7).map (· + 1) ∧
  [CycleOutcome.complete, .incomplete, .aborted .host, .aborted .offTimeout, .aborted .peerLost, .aborted .rosterLost, .aborted .rejoined,
    .aborted .held, .aborted .link].map outcomeCode = (List.range 9).map (· + 1) ∧
  [ResultCode.ok, .badArg, .phase, .protectedSet, .tripped, .busy, .badState, .inCycle, .notMember, .rosterLost, .late, .locked, .peerLive,
    .linkBusy, .linkDown, .groupFull, .configInvalid].map resultCode = List.range 17 ∧
  [EventKind.trip, .switchDone, .switchFailed, .claimExpired, .sagStart, .sagEnd, .overloadShed, .branchOverload, .energyWrap, .peerJoined,
    .peerLost, .peerForgotten, .branchConflict, .duplicateStation, .linkDown, .linkUp, .groupRequested, .groupMerged, .groupDone].map
    EventKind.code = (List.range 19).map (· + 1)

/-- An event whose kind the mask enables is appended with the board time, or, the queue full, lost with LOST set, which a captured READ STATUS
remembers (R180); a masked one leaves no trace, and nothing else changes. -/
def Obligations.PostedEventsAreQueuedOrLost : Prop :=
  ∀ (s : State) (k : EventKind) (subject detail value : Nat),
    (maskEnables s.cfg.eventMask k = false → s.post k subject detail value = s) ∧
    (maskEnables s.cfg.eventMask k = true → s.port.events.length < 64 →
      s.portWith k subject detail value =
        { s.port with events := s.port.events ++ [⟨k, s.boardTime, subject, detail, BitVec.ofNat 32 value⟩] }) ∧
    (maskEnables s.cfg.eventMask k = true → 64 ≤ s.port.events.length →
      s.portWith k subject detail value =
        { s.port with lost := true, capture := s.port.capture.map (fun c => { c with lossSince := true }) }) ∧
    { s.post k subject detail value with port := s.port } = s

/-- The outlet LEDs, the LINK LED and ALERT follow the states and the event queue; in a reset, and right after one, ALERT is negated, and the first event
posted asserts it. That all of them are dark and negated while RST is asserted is R28's and R186's. The link that a reset leaves SILENT, idle and empty
stays so, and the LINK LED dark, through every step that leaves the board CONFIGURING, that is, until START (R26). -/
def Obligations.IndicatorsFollowTheStates : Prop :=
  ∀ s : State,
    (s.inReset = false →
      (∀ o, s.outletLedLit o =
        match (s.outlet o).state with
        | .off => false
        | .on => true
        | .claiming | .closing | .opening | .dwell | .shed => decide (s.boardTime.toNat % 1000 < 500)
        | .tripped => decide (s.boardTime.toNat % 250 < 125)) ∧
      (s.linkLedLit =
        match s.link.state with
        | .active => true
        | .joining | .linkDown => decide (s.boardTime.toNat % 1000 < 500)
        | .silent | .isolated => false) ∧
      (s.alert = true ↔ s.port.events ≠ []) ∧
      (∀ k subject detail value, maskEnables s.cfg.eventMask k = true → s.port.events = [] → (s.post k subject detail value).alert = true) ∧
      ∀ bits c e, s.takesHostFrames = true → s.port.capture = some c → c.request = .event → c.hadEvent = true → readLengthOk bits .event = true →
        s.port.events = [e] → ∃ t, exec (.readEvent bits) s = .next t ∧ t.alert = false) ∧
    (s.inReset = true → (∀ o, s.outletLedLit o = false) ∧ s.linkLedLit = false ∧ s.alert = false) ∧
    (∀ j l t, (exec (.powerOnReset j l) s = .next t ∨ s.inReset = true ∧ exec (.warmResetRelease j) s = .next t) →
      t.phase = .configuring ∧ t.link.state = .silent ∧ t.link.sending = none ∧ t.link.queue = [] ∧ t.linkLedLit = false ∧ t.alert = false) ∧
    ∀ t, s.phase = .configuring → s.link.state = .silent → s.link.sending = none → s.link.queue = [] → step s = .next t →
      t.phase = .configuring → t.link.state = .silent ∧ t.link.sending = none ∧ t.link.queue = [] ∧ t.linkLedLit = false

/-! ## The host's action commands (R16 to R24, R40, R48, R100, R139, R152); the port takes a frame unless a reset has met it (R175) -/

/-- SWITCH and CYCLE OUTLET are checked in the order of R16; a direction above 1 is BAD-ARG 2, and 0 in the SWITCH_ON row acts as OFF (log 11). -/
def Obligations.SwitchAndCycleAreCheckedInOrder : Prop :=
  ∀ (n : Byte) (d : Byte) (w : BitVec 16) (s : State), s.takesHostFrames = true →
    (s.phase ≠ .running →
      exec (.switchOn 24 n d) s = .next (s.answered .phase 0) ∧ exec (.switchOff 24 n) s = .next (s.answered .phase 0) ∧
        exec (.cycleOutlet 32 n w) s = .next (s.answered .phase 0)) ∧
    (s.phase = .running →
      (n.toNat < 1 ∨ 24 < n.toNat →
        exec (.switchOn 24 n d) s = .next (s.answered .badArg 1) ∧ exec (.switchOff 24 n) s = .next (s.answered .badArg 1) ∧
          exec (.cycleOutlet 32 n w) s = .next (s.answered .badArg 1)) ∧
      ∀ o : OutletId, n.toNat = o.val + 1 →
        (w.toNat < 1 ∨ 600 < w.toNat → exec (.cycleOutlet 32 n w) s = .next (s.answered .badArg 2)) ∧
        (1 < d.toNat → exec (.switchOn 24 n d) s = .next (s.answered .badArg 2)) ∧
        (d.toNat = 0 → exec (.switchOn 24 n d) s = exec (.switchOff 24 n) s) ∧
        (d.toNat ≤ 1 → 1 ≤ w.toNat → w.toNat ≤ 600 → (s.outlet o).isProtected = true →
          exec (.switchOn 24 n d) s = .next (s.answered .protectedSet 0) ∧ exec (.switchOff 24 n) s = .next (s.answered .protectedSet 0) ∧
            exec (.cycleOutlet 32 n w) s = .next (s.answered .protectedSet 0)) ∧
        (d.toNat ≤ 1 → 1 ≤ w.toNat → w.toNat ≤ 600 → (s.outlet o).isProtected = false → (s.outlet o).cycle = .group →
          exec (.switchOn 24 n d) s = .next (s.answered .inCycle 0) ∧ exec (.switchOff 24 n) s = .next (s.answered .inCycle 0) ∧
            exec (.cycleOutlet 32 n w) s = .next (s.answered .inCycle 0)))

/-- SWITCH ON acts by the outlet's state as R17 lays down; an accepted one takes the outlet out of the restore set (R171), and the claims it
makes issuable follow (log 18). -/
def Obligations.SwitchOnActsByState : Prop :=
  ∀ (n : Byte) (o : OutletId) (s : State), n.toNat = o.val + 1 → s.takesHostFrames = true → s.phase = .running →
    (s.outlet o).isProtected = false → (s.outlet o).cycle ≠ .group →
      (∀ ok m, ok = { s with port := s.portAfter ⟨.ok, 0⟩, restoreSet := removeOutlet s.restoreSet o } → m = { s.meter o with overCount := 0 } →
        ((s.outlet o).state = .off →
          exec (.switchOn 24 n 1) s =
            .next ({ ok.withOutlet o { (s.outlet o).idle .claiming with target := .on, claimWait := some 0 } m with
              queues := (s.joinQueue o).queues }).issueClaims) ∧
        ((s.outlet o).state = .claiming ∨ (s.outlet o).state = .closing ∧ (s.outlet o).pendingOff = false ∨ (s.outlet o).state = .shed →
          exec (.switchOn 24 n 1) s = .next (ok.withOutlet o { s.outlet o with target := .on } (s.meter o)).issueClaims) ∧
        ((s.outlet o).state = .on →
          exec (.switchOn 24 n 1) s =
            .next ({ ok.withOutlet o { s.outlet o with target := .none } (s.meter o) with
              port := s.portAfterEvent .switchDone (o.val + 1) 1 0 }).issueClaims) ∧
        ((s.outlet o).state = .dwell →
          exec (.switchOn 24 n 1) s =
            .next ({ ok.withOutlet o
                { (s.outlet o).idle .claiming with target := .on, cycle := .none, restoreIntent := false, claimWait := some 0 } m with
              queues := (s.joinQueue o).queues }).issueClaims)) ∧
      ((s.outlet o).state = .closing ∧ (s.outlet o).pendingOff = true ∨ (s.outlet o).state = .opening →
        exec (.switchOn 24 n 1) s = .next (s.answered .busy 0)) ∧
      ((s.outlet o).state = .tripped → exec (.switchOn 24 n 1) s = .next (s.answered .tripped 0))

/-- SWITCH OFF acts by the outlet's state as R18 lays down; the claims it makes issuable follow (log 18). -/
def Obligations.SwitchOffActsByState : Prop :=
  ∀ (n : Byte) (o : OutletId) (s : State), n.toNat = o.val + 1 → s.takesHostFrames = true → s.phase = .running →
    (s.outlet o).isProtected = false → (s.outlet o).cycle ≠ .group →
      ∀ ok m done, ok = { s with port := s.portAfter ⟨.ok, 0⟩, restoreSet := removeOutlet s.restoreSet o } → m = { s.meter o with overCount := 0 } →
        done = s.portAfterEvent .switchDone (o.val + 1) 0 0 →
        ((s.outlet o).state = .off →
          exec (.switchOff 24 n) s =
            .next ({ ok.withOutlet o { s.outlet o with target := .none } (s.meter o) with port := done }).issueClaims) ∧
        ((s.outlet o).state = .claiming →
          exec (.switchOff 24 n) s =
            .next ({ (ok.leaveClaiming o).withOutlet o
                { (s.outlet o).idle .off with cycle := .none, restoreIntent := false, target := .none } m with port := done }).issueClaims) ∧
        ((s.outlet o).state = .closing →
          exec (.switchOff 24 n) s =
            .next (ok.withOutlet o
              { s.outlet o with pendingOff := true, restoreIntent := false, cycle := .none, target := .off } (s.meter o)).issueClaims) ∧
        ((s.outlet o).state = .on →
          exec (.switchOff 24 n) s = .next ((ok.withOutlet o { s.outlet o with target := .off } (s.meter o)).enterOpening o).issueClaims) ∧
        ((s.outlet o).state = .opening →
          exec (.switchOff 24 n) s =
            .next (ok.withOutlet o { s.outlet o with restoreIntent := false, cycle := .none, target := .off } (s.meter o)).issueClaims) ∧
        ((s.outlet o).state = .dwell →
          exec (.switchOff 24 n) s =
            .next ({ ok.withOutlet o { (s.outlet o).idle .off with cycle := .none, restoreIntent := false, target := .none } m with
              port := done }).issueClaims) ∧
        ((s.outlet o).state = .shed →
          exec (.switchOff 24 n) s =
            .next ({ ok.withOutlet o { (s.outlet o).idle .off with target := .none } m with port := done }).issueClaims) ∧
        ((s.outlet o).state = .tripped → exec (.switchOff 24 n) s = .next ok.issueClaims)

/-- CYCLE OUTLET opens an outlet in ON for a local cycle and is refused in every other state (R19). -/
def Obligations.CycleOutletActsByState : Prop :=
  ∀ (n : Byte) (o : OutletId) (w : BitVec 16) (s : State), n.toNat = o.val + 1 → 1 ≤ w.toNat → w.toNat ≤ 600 → s.takesHostFrames = true →
    s.phase = .running → (s.outlet o).isProtected = false → (s.outlet o).cycle ≠ .group →
      ((s.outlet o).state = .on →
        exec (.cycleOutlet 32 n w) s =
          .next (({ s with port := s.portAfter ⟨.ok, 0⟩, restoreSet := removeOutlet s.restoreSet o }.withOutlet o
            { s.outlet o with cycle := .localCycle w.toNat, restoreIntent := true, target := .on } (s.meter o)).enterOpening o)) ∧
      ((s.outlet o).state = .off → exec (.cycleOutlet 32 n w) s = .next (s.answered .badState 0)) ∧
      ((s.outlet o).state = .tripped → exec (.cycleOutlet 32 n w) s = .next (s.answered .tripped 0)) ∧
      ((s.outlet o).state ≠ .on → (s.outlet o).state ≠ .off → (s.outlet o).state ≠ .tripped →
        exec (.cycleOutlet 32 n w) s = .next (s.answered .busy 0))

/-- CYCLE GROUP is checked in the order of R139 and queues one OPEN-GROUP with a fresh tag. -/
def Obligations.CycleGroupQueuesOneOpenGroup : Prop :=
  ∀ (g : Byte) (w : BitVec 16) (s : State), s.takesHostFrames = true →
    (s.phase ≠ .running → exec (.cycleGroup 32 g w) s = .next (s.answered .phase 0)) ∧
    (s.phase = .running → g = 0 → exec (.cycleGroup 32 g w) s = .next (s.answered .badArg 1)) ∧
    (s.phase = .running → g ≠ 0 → 600 < w.toNat → exec (.cycleGroup 32 g w) s = .next (s.answered .badArg 2)) ∧
    (s.phase = .running → g ≠ 0 → w.toNat ≤ 600 →
      (s.group? g.toNat = none → exec (.cycleGroup 32 g w) s = .next (s.answered .notMember 0)) ∧
      ∀ e : GroupEntry, s.group? g.toNat = some e →
        ((s.cycle? g.toNat).isSome = true ∨ e.pendingTag.isSome = true → exec (.cycleGroup 32 g w) s = .next (s.answered .inCycle 0)) ∧
        (s.cycle? g.toNat = none → e.pendingTag = none →
          (∀ k, hasNumber e.roster k = true → (s.peer k).state = .lost →
            (∀ j, j < k → hasNumber e.roster j = true → (s.peer j).state ≠ .lost) →
              exec (.cycleGroup 32 g w) s = .next (s.answered .rosterLost k.val)) ∧
          ((∀ k, hasNumber e.roster k = true → (s.peer k).state ≠ .lost) →
            (s.link.state ≠ .active → exec (.cycleGroup 32 g w) s = .next (s.answered .linkDown 0)) ∧
            (s.link.state = .active → 30 ≤ ordinaryCount s.link.queue → exec (.cycleGroup 32 g w) s = .next (s.answered .linkBusy 0)) ∧
            (s.link.state = .active → ordinaryCount s.link.queue < 30 →
              exec (.cycleGroup 32 g w) s =
                .next { s with
                  port := s.portAfter ⟨.ok, 0⟩
                  link := { s.link with
                    queue := insertByKey
                      (queuedFrame 7 s.station
                        (.openGroup ⟨⟨s.station, s.seq⟩, g.toNat, if w.toNat = 0 then e.dwell else w.toNat, e.policy⟩)) s.link.queue }
                  groups := s.groups.map (fun x => if x.group = g.toNat then { x with pendingTag := some ⟨s.station, s.seq⟩ } else x)
                  seq := s.seq + 1 }))))

/-- ABORT GROUP is checked and acts by the phase of the cycle in progress; in OFF-PHASE and DWELL it offers one GROUP-ABORT (R152, R77), for which the
frames it removes make room (log 39); the claims it makes issuable follow (log 18). -/
def Obligations.AbortGroupActsByPhaseOfTheCycle : Prop :=
  ∀ (g : Byte) (s : State), s.takesHostFrames = true →
    (s.phase ≠ .running → exec (.abortGroup 16 g) s = .next (s.answered .phase 0)) ∧
    (s.phase = .running → g = 0 → exec (.abortGroup 16 g) s = .next (s.answered .badArg 1)) ∧
    (s.phase = .running → g ≠ 0 →
      (s.group? g.toNat = none → exec (.abortGroup 16 g) s = .next (s.answered .notMember 0)) ∧
      ((s.group? g.toNat).isSome = true →
        (s.cycle? g.toNat = none → exec (.abortGroup 16 g) s = .next (s.answered .badState 0)) ∧
        ∀ r : CycleRecord, s.cycle? g.toNat = some r →
          (r.phase = .onPhase → exec (.abortGroup 16 g) s = .next (s.answered .late 0)) ∧
          (r.phase = .restoringAbort → exec (.abortGroup 16 g) s = .next (s.answered .ok 0).issueClaims) ∧
          (r.phase = .offPhase ∨ r.phase = .dwell →
            (r.abortOffered = true → exec (.abortGroup 16 g) s = .next (s.answered .ok 0).issueClaims) ∧
            (r.abortOffered = false → s.link.sending = none → s.link.state.takesFrames = true →
              (∀ x ∈ s.link.queue, isAbortOf r.tag x.frame = false) →
              ordinaryCount (s.link.queue.filter (fun x => !isCycleFrameOf r.tag x.frame)) < 30 →
                exec (.abortGroup 16 g) s =
                  .next (State.issueClaims { s with
                    port := s.portAfter ⟨.ok, 0⟩
                    records := s.records.map (fun x => if x.group = g.toNat then { x with abortOffered := true } else x)
                    link := { s.link with
                      queue := insertByKey (queuedFrame 7 s.station (.groupAbort ⟨r.tag, g.toNat, .host⟩))
                        (s.link.queue.filter (fun x => !isCycleFrameOf r.tag x.frame)) } })) ∧
            (r.abortOffered = false →
              exec (.abortGroup 16 g) s = .next ((s.openFrame.offerAbort g.toNat .host).writeResult ⟨.ok, 0⟩).issueClaims))))

/-- CLEAR TRIP returns a TRIPPED outlet to OFF (R48), and RESET ENERGY zeroes the energy, the remainder and the reverse-power flag of the
outlet named, or of all, and leaves everything else (R40). -/
def Obligations.ClearTripAndResetEnergyActAtOnce : Prop :=
  (∀ (n : Byte) (s : State), s.takesHostFrames = true →
    (n.toNat < 1 ∨ 24 < n.toNat → exec (.clearTrip 16 n) s = .next (s.answered .badArg 1)) ∧
    ∀ o : OutletId, n.toNat = o.val + 1 →
      ((s.outlet o).cycle = .group → exec (.clearTrip 16 n) s = .next (s.answered .inCycle 0)) ∧
      ((s.outlet o).cycle ≠ .group → (s.outlet o).state = .tripped →
        exec (.clearTrip 16 n) s =
          .next ((s.answered .ok 0).withOutlet o { (s.outlet o).idle .off with target := .none } { s.meter o with overCount := 0 })) ∧
      ((s.outlet o).cycle ≠ .group → (s.outlet o).state ≠ .tripped → exec (.clearTrip 16 n) s = .next (s.answered .ok 0))) ∧
  (∀ (n : Byte) (s : State), s.takesHostFrames = true →
    (24 < n.toNat → exec (.resetEnergy 16 n) s = .next (s.answered .badArg 1)) ∧
    (n.toNat ≤ 24 →
      ∃ t, exec (.resetEnergy 16 n) s = .next t ∧ { t with meters := s.meters } = s.answered .ok 0 ∧
        ∀ o, t.meter o =
          if n.toNat = 0 ∨ n.toNat = o.val + 1 then { s.meter o with energy := 0, remainder := 0, reversePower := false } else s.meter o))

/-- SET PROTECT replaces the protected set, unless LOCK is honoured or an outlet it would add is in a group cycle or busy (R22, R23). -/
def Obligations.SetProtectReplacesTheSet : Prop :=
  ∀ (set : OutletSet) (s : State) (added : OutletId → Prop), s.takesHostFrames = true →
    (added = fun o => hasOutlet set o = true ∧ (s.outlet o).isProtected = false) →
    (s.lke = true → s.lockSample = true → exec (.setProtect 32 set) s = .next (s.answered .locked 0)) ∧
    (s.lke = false ∨ s.lockSample = false →
      (∀ o, added o → (s.outlet o).cycle = .group → (∀ p, p < o → added p → (s.outlet p).cycle ≠ .group) →
        exec (.setProtect 32 set) s = .next (s.answered .inCycle (o.val + 1))) ∧
      ((∀ o, added o → (s.outlet o).cycle ≠ .group) →
        (∀ busy : OutletId → Prop,
          (busy = fun o => added o ∧
            ((s.outlet o).target ≠ .none ∨ (∃ d, (s.outlet o).cycle = .localCycle d) ∨ (s.outlet o).state = .opening)) →
            (∀ o, busy o → (∀ p, p < o → ¬busy p) → exec (.setProtect 32 set) s = .next (s.answered .busy (o.val + 1))) ∧
            ((∀ o, ¬busy o) →
              ∃ t, exec (.setProtect 32 set) s = .next t ∧ { t with outlets := s.outlets } = s.answered .ok 0 ∧
                ∀ o, t.outlet o = { s.outlet o with isProtected := hasOutlet set o }))))

/-- FORGET PEER is checked in the order of R100 and queues one FORGET (BAD-ARG with detail 1 for the own number is the model's reading, log 11). -/
def Obligations.ForgetPeerQueuesOneForget : Prop :=
  ∀ (n : Byte) (s : State), s.takesHostFrames = true →
    (s.phase ≠ .running → exec (.forgetPeer 16 n) s = .next (s.answered .phase 0)) ∧
    (s.phase = .running → 15 < n.toNat ∨ n.toNat = s.station.val → exec (.forgetPeer 16 n) s = .next (s.answered .badArg 1)) ∧
    (s.phase = .running → ∀ k : StationId, n.toNat = k.val → k ≠ s.station →
      ((s.peer k).state = .live → exec (.forgetPeer 16 n) s = .next (s.answered .peerLive 0)) ∧
      ((s.peer k).state ≠ .live →
        (s.link.state ≠ .joining → s.link.state ≠ .active → exec (.forgetPeer 16 n) s = .next (s.answered .linkDown 0)) ∧
        (s.link.state = .joining ∨ s.link.state = .active →
          (30 ≤ ordinaryCount s.link.queue → exec (.forgetPeer 16 n) s = .next (s.answered .linkBusy 0)) ∧
          (ordinaryCount s.link.queue < 30 →
            exec (.forgetPeer 16 n) s =
              .next { s with
                port := s.portAfter ⟨.ok, 0⟩
                link := { s.link with queue := insertByKey (queuedFrame 7 s.station (.forget k)) s.link.queue } }))))

/-! ## Configuration and START (R163 to R171) -/

/-- A configuration command is refused with PHASE while RUNNING, with BAD-ARG and 0 for its item number, and with BAD-ARG and the position of
the first field out of range (R163, R189). -/
def Obligations.ConfigurationCommandsAreChecked : Prop :=
  ∀ (c : Instr) (item : Nat × Nat × Nat) (fields : List (Nat × Nat × Nat)) (s : State) (bits : Nat), configFields c = some (item, fields) →
    hostFrame c = some (bits, true) → s.takesHostFrames = true →
      (s.phase = .running → exec c s = .next (s.answered .phase 0)) ∧
      (s.phase = .configuring → ¬lies item → exec c s = .next (s.answered .badArg 0)) ∧
      (s.phase = .configuring → lies item → ∀ before f after, fields = before ++ f :: after → (∀ g ∈ before, lies g) → ¬lies f →
        exec c s = .next (s.answered .badArg (before.length + 1)))

/-- A configuration command that passes its checks replaces exactly its item; SET OUTLET and SET GROUP keep at most 16 group entries
(R135, R164 to R168), and SET BANK starts and ends overload records (R124). -/
def Obligations.ConfigurationCommandsReplaceTheirItem : Prop :=
  (∀ (s : State), s.takesHostFrames = true → s.phase = .configuring →
    (∀ (a : BoardArgs) item fields, configFields (.setBoard 112 a) = some (item, fields) → (∀ f ∈ fields, lies f) →
      exec (.setBoard 112 a) s =
        .next { s.answered .ok 0 with
          cfg := ⟨a.nominal.toNat, a.sagPercent.toNat, a.recoveryWait.toNat, a.offGather.toNat, a.onGather.toNat, a.claimWait.toNat,
            a.eventMask &&& 0x07FFFF⟩ }) ∧
    (∀ (a : BankArgs) item fields b, configFields (.setBank 48 a) = some (item, fields) → bankNo b = a.bank.toNat → (∀ f ∈ fields, lies f) →
      ∃ t x, exec (.setBank 48 a) s = .next t ∧ { t with banks := s.banks, overload := s.overload } = s.answered .ok 0 ∧
        x.branch.val = a.branch.toNat ∧ x.limit = a.limit.toNat ∧ (x.sagShed = true ↔ a.sagShed = 1) ∧ t.banks = s.banks.set b x ∧
        ∀ n, t.over n = if s.uses n = t.uses n then s.over n else ⟨.clear, none, 0, false⟩) ∧
    (∀ (a : ProfileArgs) item fields k, configFields (.setProfile 80 a) = some (item, fields) → k.val = a.profile.toNat →
      (∀ f ∈ fields, lies f) →
      exec (.setProfile 80 a) s =
        .next { s.answered .ok 0 with
          profiles := s.profiles.set k
            ⟨if a.alignment = 0 then .none else if a.alignment = 1 then .zero else .strict, a.alignLimit.toNat, a.coilPulse.toNat,
              a.settle.toNat, a.inrush.toNat, a.absorb.toNat⟩ })) ∧
  (∀ (s : State), s.takesHostFrames = true → s.phase = .configuring →
    (∀ (a : OutletArgs) item fields (o : OutletId), configFields (.setOutlet 72 a) = some (item, fields) → a.outlet.toNat = o.val + 1 →
      (∀ f ∈ fields, lies f) →
      (a.group ≠ 0 → s.group? a.group.toNat = none → 16 ≤ s.groups.length →
        exec (.setOutlet 72 a) s = .next (s.answered .groupFull a.group.toNat)) ∧
      (a.group = 0 ∨ (s.group? a.group.toNat).isSome = true ∨ s.groups.length < 16 →
        ∃ t x, exec (.setOutlet 72 a) s = .next t ∧ { t with outlets := s.outlets, groups := s.groups } = s.answered .ok 0 ∧
          x.profile.val = a.profile.toNat ∧ x.group = a.group.toNat ∧ x.tripThreshold = a.tripThreshold.toNat ∧
          (x.startOn = true ↔ a.startState = 1) ∧ x.restoreOrder = a.restoreOrder.toNat ∧ x.shedRank = a.shedRank.toNat ∧
          t.outlets = s.outlets.set o { s.outlet o with cfg := x } ∧
          (a.group = 0 ∨ (s.group? a.group.toNat).isSome = true → t.groups = s.groups) ∧
          (a.group ≠ 0 → s.group? a.group.toNat = none → t.group? a.group.toNat = some ⟨a.group.toNat, 10, .strict, none, 0⟩) ∧
          ∀ g, g ≠ a.group.toNat → t.group? g = s.group? g)) ∧
    (∀ (a : GroupArgs) item fields, configFields (.setGroup 40 a) = some (item, fields) → a.group ≠ 0 → (∀ f ∈ fields, lies f) →
      (s.group? a.group.toNat = none → 16 ≤ s.groups.length → exec (.setGroup 40 a) s = .next (s.answered .groupFull a.group.toNat)) ∧
      ((s.group? a.group.toNat).isSome = true ∨ s.groups.length < 16 →
        ∃ t, exec (.setGroup 40 a) s = .next t ∧ { t with groups := s.groups } = s.answered .ok 0 ∧
          t.group? a.group.toNat = some ⟨a.group.toNat, a.dwell.toNat, if a.policy = 0 then .strict else .lenient, none, 0⟩ ∧
          ∀ g, g ≠ a.group.toNat → t.group? g = s.group? g)))

/-- START checks the branch limits and the inrush allowances, fixes the groups, forms the restore set and enters JOINING (R169 to R171). -/
def Obligations.StartIsCheckedAndFixesTheConfiguration : Prop :=
  ∀ (s : State) (clash : BranchId → Prop) (large : OutletId → Prop), s.takesHostFrames = true →
    (clash = fun n => ∃ b c, (s.bank b).branch = n ∧ (s.bank c).branch = n ∧ (s.bank b).limit ≠ (s.bank c).limit) →
    (large = fun o => (s.bank (bankOf o)).limit < (s.profile o).inrush) →
    (s.phase = .running → exec (.start 8) s = .next (s.answered .phase 0)) ∧
    (s.phase = .configuring →
      (∀ n, clash n → (∀ m, m < n → ¬clash m) → exec (.start 8) s = .next (s.answered .configInvalid (64 + n.val))) ∧
      ((∀ n, ¬clash n) →
        (∀ o, large o → (∀ p, p < o → ¬large p) → exec (.start 8) s = .next (s.answered .configInvalid (o.val + 1))) ∧
        ((∀ o, ¬large o) →
          ∃ r : OutletSet, (∀ o, hasOutlet r o = true ↔ (s.outlet o).cfg.startOn = true ∧ (s.outlet o).state = .off) ∧
            exec (.start 8) s =
              .next (State.enterJoining { s.answered .ok 0 with
                phase := .running
                groups := (s.groups.filter (fun e => allOutlets.any (fun o => (s.outlet o).cfg.group == e.group))).map
                  (fun e => { e with roster := 1#16 <<< s.station.val })
                restoreSet := r, startRestored := false }))))

/-! ## Outlets: closing, opening, dwell (R5 to R15, R20, R21) -/

/-- Entry into CLOSING and OPENING by the profile's alignment, the align limit (R5, R7, R13, R14), and the meeting of a host target (R21). -/
def Obligations.OpeningAndClosingAreEnteredByAlignment : Prop :=
  ∀ (s : State) (o : OutletId) (x : Outlet) (m : Meter), x = s.outlet o → m = s.meter o →
    (∀ r, (s.window (bankOf o)).line = some r → r.noLine = false → s.alignLimit o = (s.profile o).alignLimit * 50000 / r.frequency) ∧
    ((∀ r, (s.window (bankOf o)).line = some r → r.noLine = true) → s.alignLimit o = 10 * (s.profile o).alignLimit) ∧
    ((s.profile o).alignment = .none →
      s.enterOpening o =
        (s.withOutlet o
          { x with
            state := .opening, sub := some .settle, relay := .opened, coil := .off, pendingOff := false, claimWait := none,
            stateTimer := some (s.profile o).settle }
          { m with overCount := 0, disturbed := true }).dropClaim o ∧
      s.enterClosing o =
        (s.leaveQueue o).withOutlet o
          { x with
            state := .closing, sub := some .coil, relay := .closed, coil := .pulse, claimWait := none,
            stateTimer := some (s.profile o).coilPulse }
          { m with overCount := if x.coil = .off then 0 else m.overCount, disturbed := true }) ∧
    ((s.profile o).alignment ≠ .none →
      s.enterOpening o =
        (s.withOutlet o
          { x with
            state := .opening, sub := some .align, relay := .opened, coil := .hold, pendingOff := false, claimWait := none,
            stateTimer := some (s.alignLimit o), alignLimitMs := s.alignLimit o, alignPeak := 0 }
          { m with overCount := if x.coil = .off then 0 else m.overCount, disturbed := true }).dropClaim o ∧
      s.enterClosing o =
        (s.leaveQueue o).withOutlet o
          { x with
            state := .closing, sub := some .align, relay := .opened, coil := .off, claimWait := none, stateTimer := some (s.alignLimit o),
            alignLimitMs := s.alignLimit o, alignPeak := 0 }
          { m with overCount := 0, disturbed := true }) ∧
    (x.state = .on → x.target = .on →
      s.meetTarget o = { s.withOutlet o { x with target := .none } m with port := s.portWith .switchDone (o.val + 1) 1 0 }) ∧
    (x.state = .off → x.target = .off →
      s.meetTarget o = { s.withOutlet o { x with target := .none } m with port := s.portWith .switchDone (o.val + 1) 0 0 }) ∧
    (¬(x.state = .on ∧ x.target = .on) → ¬(x.state = .off ∧ x.target = .off) → s.meetTarget o = s)

/-- The ends of the closing's ALIGN, COIL and SETTLE (R8 to R12); the remaining time passes with the expiry (log 2), the claims it makes issuable
follow (log 18), and SWITCH-FAILED, or a SWITCH-DONE, is posted before the group engine is told (log 44). -/
def Obligations.ClosingStepsEndAtTheirTimers : Prop :=
  ∀ (o : OutletId) (s a : State) (d : Nat) (x : Outlet) (m : Meter), s.inReset = false → (s.outlet o).consistent →
    (s.outlet o).stateTimer = some d → (s.outlet o).state = .closing → a = s.passTime d → x = a.outlet o → m = a.meter o →
    (x.sub = some .coil →
      exec (.coilPulseEnd o) s =
        .next (a.withOutlet o { x with sub := some .settle, coil := .hold, stateTimer := some (a.profile o).settle }
          { m with disturbed := true })) ∧
    (x.sub = some .settle → x.pendingOff = true → exec (.closingSettleEnd o) s = .next (a.enterOpening o)) ∧
    (x.sub = some .settle → x.pendingOff = false →
      exec (.closingSettleEnd o) s =
        .next (((a.withOutlet o { x with state := .on, sub := none, coil := .hold, stateTimer := none } m).meetTarget o).noteRestored o)) ∧
    (x.sub = some .align → (a.profile o).alignment ≠ .strict →
      exec (.closingAlignExpiry o) s =
        .next (a.withOutlet o
          { x with
            sub := some .coil, relay := .closed, coil := .pulse, unalignedLast := true, stateTimer := some (a.profile o).coilPulse }
          { m with overCount := 0, disturbed := true }).issueClaims) ∧
    (x.sub = some .align → (a.profile o).alignment = .strict →
      ∀ y n, y = { x.idle .off with unalignedLast := true } → n = { m with overCount := 0 } →
        (x.pendingOff = false →
          exec (.closingAlignExpiry o) s =
            .next (((((a.withOutlet o
              { y with target := .none, restoreIntent := false, cycle := if x.cycle = .group then .group else .none } n).dropClaim o).post
                .switchFailed (o.val + 1) 1 x.alignLimitMs).noteFailed o).issueClaims)) ∧
        (x.pendingOff = true → x.restoreIntent = true →
          exec (.closingAlignExpiry o) s =
            .next (((a.withOutlet o { y with state := .dwell } n).dropClaim o).noteOpened o).issueClaims) ∧
        (x.pendingOff = true → x.restoreIntent = false →
          exec (.closingAlignExpiry o) s = .next ((((a.withOutlet o y n).meetTarget o).dropClaim o).noteOpened o).issueClaims))

/-- The ends of the opening's ALIGN and SETTLE (R14, R15) and of a local dwell, frozen while its bank is held (R20, R58); the remaining time passes
with the expiry (log 2), the claims it makes issuable follow (log 18), and a SWITCH-DONE is posted before the group engine is told (log 44). -/
def Obligations.OpeningStepsAndLocalDwellEndAtTheirTimers : Prop :=
  ∀ (o : OutletId) (s a : State) (d : Nat) (x : Outlet) (m : Meter), s.inReset = false → (s.outlet o).consistent →
    (s.outlet o).stateTimer = some d → a = s.passTime d → x = a.outlet o → m = a.meter o →
    (x.state = .opening → x.sub = some .align →
      exec (.openingAlignExpiry o) s =
        .next (a.withOutlet o
          { x with sub := some .settle, coil := .off, unalignedLast := true, stateTimer := some (a.profile o).settle }
          { m with overCount := 0, disturbed := true })) ∧
    (x.state = .opening → x.sub = some .settle → x.restoreIntent = false →
      exec (.openingSettleEnd o) s =
        .next (((a.withOutlet o (x.idle .off) { m with overCount := 0 }).meetTarget o).noteOpened o).issueClaims) ∧
    (x.state = .opening → x.sub = some .settle → x.restoreIntent = true →
      exec (.openingSettleEnd o) s =
        .next ((a.withOutlet o
          { x.idle .dwell with stateTimer := match x.cycle with | .localCycle n => some (n * 1000) | _ => none }
          { m with overCount := 0 }).noteOpened o).issueClaims) ∧
    (x.state = .dwell → (∃ n, x.cycle = .localCycle n) → s.isHeld (bankOf o) = false →
      exec (.localDwellExpiry o) s =
        .next ({ a.withOutlet o { x.idle .claiming with restoreIntent := false, cycle := .none, claimWait := some 0 }
          { m with overCount := 0 } with queues := (a.joinQueue o).queues }).issueClaims) ∧
    (x.state = .dwell → (∃ n, x.cycle = .localCycle n) → s.isHeld (bankOf o) = true → exec (.localDwellExpiry o) s = .next s)

/-- The claim-wait limit returns the outlet to OFF with CLAIM-EXPIRED (R115); the remaining time passes with the expiry (log 2), the group engine is
told before CLAIM-EXPIRED is posted (log 44), and the claims it makes issuable follow (log 18). -/
def Obligations.ClaimWaitExpiryEndsTheWait : Prop :=
  ∀ (o : OutletId) (b : Bank) (s a : State) (t : Nat) (x : Outlet), s.inReset = false → (s.outlet o).state = .claiming →
    (s.outlet o).claimWait = some t → b = bankOf o → a = s.passTime (s.cfg.claimWait * 1000 - t) → x = a.outlet o →
    ((s.line b).state ≠ .normal → exec (.claimWaitExpiry o) s = .next s) ∧
    ((s.line b).state = .normal → ∀ cause : Nat,
      (cause =
        if hasNumber s.conflicts (s.bank b).branch = true then 1
        else if 0 < (s.claim b).denials then 2
        else if s.link.state ≠ .active then 3
        else 4) →
      exec (.claimWaitExpiry o) s =
        .next (((((a.leaveClaiming o).withOutlet o
          { x.idle .off with restoreIntent := false, cycle := if x.cycle = .group then .group else .none, target := .none }
          { a.meter o with overCount := 0 }).noteFailed o).post .claimExpired (o.val + 1) cause
            (s.branchTotal (s.bank b).branch))).issueClaims)

/-! ## Queues and claims (R75, R104 to R119) -/

/-- An outlet that leaves its closure queue takes its claim with it (R104, R113); a claim is dropped (R119), counted down by undisturbed
windows and released (R117, R118). That a claim which returns to NONE keeps its amount, loses its withdrawn mark and has
absorb count 0, after a drop (R119) too, is the model's choice (log 27). -/
def Obligations.ClaimsLeaveAreDroppedAndAbsorbed : Prop :=
  (∀ (s : State) (o : OutletId) (b : Bank) (c : Claim), b = bankOf o → c = s.claim b →
    s.leaveQueue o =
      { s with
        queues := s.queues.set b ((s.queue b).filter (fun x => x != o))
        claims := s.claims.set b { c with retryWait := if c.retryWait = some o then none else c.retryWait } } ∧
    (c.outlet ≠ some o ∨ c.state ≠ .sent → s.leaveClaiming o = s.leaveQueue o) ∧
    (c.outlet = some o → s.leaveClaiming o = (s.withdrawClaim b).leaveQueue o) ∧
    (c.state ≠ .sent → s.withdrawClaim b = s) ∧
    (c.state = .sent → s.sendingClaim b = false →
      s.withdrawClaim b =
        { s with
          link := { s.link with queue := s.link.queue.filter (fun x => !isClaimOf b x.frame) }
          claims := s.claims.set b
            { c with state := .none, outlet := none, withdrawn := false, ending := .none, absorbCount := 0, retryWait := none } }) ∧
    (c.state = .sent → ∀ sending : Sending, s.link.sending = some sending → isClaimOf b sending.frame.frame = true →
      s.withdrawClaim b =
        { s with
          link := { s.link with
            queue := s.link.queue.filter (fun x => !isClaimOf b x.frame || x == sending.frame), sending := some { sending with removeAfter := true } }
          claims := s.claims.set b { c with withdrawn := true } })) ∧
  (∀ (s : State) (b : Bank) (c : Claim), c = s.claim b →
    (∀ o, b = bankOf o →
      (c.state = .granted → c.outlet = some o → c.ending = .none →
        s.dropClaim o = { s with claims := s.claims.set b { c with ending := .dropped } }.offerStatus) ∧
      (c.state ≠ .granted ∨ c.outlet ≠ some o ∨ c.ending ≠ .none → s.dropClaim o = s)) ∧
    ∀ (clean : OutletId → Bool),
      (∀ o, c.state = .granted → c.outlet = some o → c.ending = .none → (s.outlet o).state = .on → clean o = true →
        (c.absorbCount + 1 < c.absorbTarget →
          s.absorbWindow b clean = { s with claims := s.claims.set b { c with absorbCount := c.absorbCount + 1 } }) ∧
        (c.absorbTarget ≤ c.absorbCount + 1 →
          s.absorbWindow b clean =
            { s with claims := s.claims.set b { c with absorbCount := c.absorbCount + 1, ending := .released } }.offerStatus)) ∧
      (c.state ≠ .granted ∨ c.ending ≠ .none ∨ (∀ o, c.outlet = some o → (s.outlet o).state ≠ .on ∨ clean o = false) →
        s.absorbWindow b clean = s))

/-- The conditions and the effect of issuing a claim, bank by bank (R107, R78), and the orders of the closure queues (R104) and of the
transmit queue (R75). -/
def Obligations.ClaimsAreIssuedInBankOrder : Prop :=
  (∀ s : State, s.issueClaims = ((s.issueClaim .bankA).issueClaim .bankB).issueClaim .bankC ∧
    ∀ (b : Bank) (c : Claim), c = s.claim b →
      (s.queue b = [] ∨ s.phase ≠ .running ∨ s.link.state ≠ .active ∨ c.state ≠ .none ∨ (s.line b).state ≠ .normal ∨
          (∃ head, c.retryWait = some head ∧ (s.queue b).head? = some head) → s.issueClaim b = s) ∧
      ∀ head rest, s.queue b = head :: rest → s.phase = .running → s.link.state = .active → c.state = .none → (s.line b).state = .normal →
        c.retryWait ≠ some head →
        (ordinaryCount s.link.queue < 30 →
          s.issueClaim b =
            { s with
              link := { s.link with
                queue := insertByKey
                  (queuedFrame (7 - c.denials) s.station (.claim ⟨b, (s.bank b).branch, head, (s.profile head).inrush⟩)) s.link.queue }
              claims := s.claims.set b
                { c with
                  state := .sent, outlet := some head, amount := (s.profile head).inrush, absorbTarget := (s.profile head).absorb,
                  absorbCount := 0, withdrawn := false, retryWait := none } }) ∧
        (30 ≤ ordinaryCount s.link.queue → s.issueClaim b = { s with claims := s.claims.set b { c with retryWait := some head } })) ∧
  ((∀ (s : State) (o : OutletId) (b : Bank) (q : List OutletId), b = bankOf o → q = s.queue b →
    (o ∈ q → s.joinQueue o = s) ∧
    (o ∉ q → q.Pairwise (fun x y => s.restoreOrder x ≤ s.restoreOrder y) →
      s.joinQueue o =
        { s with
          queues := s.queues.set b
            (q.filter (fun x => s.restoreOrder x ≤ s.restoreOrder o) ++ o :: q.filter (fun x => s.restoreOrder o < s.restoreOrder x)) })) ∧
  ∀ (x : QueuedFrame) (q : List QueuedFrame), q.Pairwise (fun y z => y.key ≤ z.key) →
    insertByKey x q = q.filter (fun y => y.key ≤ x.key) ++ x :: q.filter (fun y => x.key < y.key))

/-- A CLAIM is judged by the grant rule on the branch total, recorded, and acted on by its claimant, whose unsent STATUS and JOIN are then
composed again (R95, R103, R110 to R112). A claim that leaves SENT keeps its amount, loses its
withdrawn mark and has absorb count 0 (the model's choice, log 27). -/
def Obligations.ClaimsAreJudgedAndActedOn : Prop :=
  ∀ (s h : State) (k : StationId) (p : ClaimPayload) (grant : Prop), h = s.heardFrom k →
    (grant = (((h.peer k).state ≠ .absent ∧ ∃ i, (h.peer k).info = some i ∧ i.map.get p.bank = p.branch) ∧
      (h.uses p.branch = true → hasNumber h.conflicts p.branch = false ∧
        h.branchTotal p.branch - (h.peer k).helds.get p.bank + p.amount ≤ h.ownLimit p.branch))) →
    (∃ r : State, (¬grant → r = h) ∧
      (grant → r = { h with peers := h.peers.set k { h.peer k with helds := (h.peer k).helds.set p.bank p.amount } }) ∧
      (k ≠ s.station → s.applyClaim k p = r) ∧
      (k = s.station → h.uses p.branch = true → ∀ c x, c = h.claim p.bank → x = h.outlet p.outlet →
        (c.state ≠ .sent → s.applyClaim k p = r.recompose) ∧
        (c.state = .sent → ¬grant → c.withdrawn = true →
          s.applyClaim k p =
            State.recompose { r with
              claims := r.claims.set p.bank
                { c with state := .none, outlet := none, withdrawn := false, ending := .none, absorbCount := 0, retryWait := none } }) ∧
        (c.state = .sent → ¬grant → c.withdrawn = false →
          s.applyClaim k p =
            State.recompose { r with
              claims := r.claims.set p.bank
                { c with
                  state := .none, outlet := none, ending := .none, absorbCount := 0, denials := min 7 (c.denials + 1),
                  retryWait := some p.outlet } }) ∧
        (c.state = .sent → grant → c.withdrawn = false → x.state = .claiming →
          s.applyClaim k p =
            (State.enterClosing { r with claims := r.claims.set p.bank { c with state := .granted, denials := 0, retryWait := none } }
              p.outlet).recompose) ∧
        (c.state = .sent → grant → c.withdrawn = true ∨ x.state ≠ .claiming →
          s.applyClaim k p =
            (State.offerStatus { r with
              claims := r.claims.set p.bank { c with state := .granted, withdrawn := false, ending := .dropped } }).recompose))) ∧
    (∀ n, s.branchTotal n =
      min 16384 ((s.peers.cells.map (fun e => ((allBanks.filter (fun b =>
        match e.info with
        | some i => e.state != .absent && i.map.get b == n
        | none => false)).map (fun b => e.loads.get b + e.helds.get b)).sum)).sum)) ∧
    (∀ n, (s.uses n = true ↔ ∃ b, (s.bank b).branch = n) ∧
      ∀ b, (s.bank b).branch = n → (∀ a, (s.bank a).branch = n → (s.bank a).limit = (s.bank b).limit) → s.ownLimit n = (s.bank b).limit) ∧
    ∀ kinds : FrameKind → Prop, (kinds = fun q => ∃ x ∈ s.link.queue, frameKind x.frame = q) →
      (¬kinds .status → ¬kinds .join → s.recompose = s) ∧ (kinds .status → ¬kinds .join → s.recompose = s.offerStatus) ∧
      (¬kinds .status → kinds .join → s.recompose = s.offerJoin false) ∧ (kinds .status → kinds .join → s.recompose = s.offerStatus.offerJoin false)

/-! ## Mains (R14, R29 to R45, R51 to R60) -/

/-- A voltage crossing within the hold-off is ignored; one taken ends the ALIGN of the bank's outlets, closes the half-cycle and, rising, counts
toward the window (R8, R14, R29 to R31; the order is the model's, log 4; the microseconds and the measured values come as operands, log 3; claims made
issuable follow, log 18). -/
def Obligations.VoltageCrossingsReachTheOutlets : Prop :=
  ∀ (b : Bank) (edge : Edge) (micros : Fin 1000) (h : HalfMeasure) (w : WindowMeasure) (s a : State), s.inReset = false →
    s.outletsConsistent → a = s.notePeaks b h.peaks →
    ({ a with outlets := s.outlets } = s ∧
      ∀ o, a.outlet o =
        if bankOf o = b ∧ (s.outlet o).state = .opening ∧ (s.outlet o).sub = some .align then
          { s.outlet o with alignPeak := max (s.outlet o).alignPeak (h.peaks.getD (o.val % 8) 0) }
        else s.outlet o) ∧
    (∀ t, (s.line b).lastCross = some t → (s.boardTime - t.ms).toNat * 1000 + micros.val - t.us < 2000 →
      exec (.voltageZeroCrossing b edge micros h w) s = .next a) ∧
    ((∀ t, (s.line b).lastCross = some t → 2000 ≤ (s.boardTime - t.ms).toNat * 1000 + micros.val - t.us) →
      ∃ c : State, { c with outlets := a.outlets, meters := a.meters } = a ∧
        (∀ o, c.outlet o =
          if bankOf o = b ∧ (s.outlet o).state = .closing ∧ (s.outlet o).sub = some .align then
            { a.outlet o with
              sub := some .coil, relay := .closed, coil := .pulse, unalignedLast := false, stateTimer := some (s.profile o).coilPulse }
          else if bankOf o = b ∧ (s.outlet o).state = .opening ∧ (s.outlet o).sub = some .align ∧ (a.outlet o).alignPeak ≤ 10 then
            { a.outlet o with sub := some .settle, coil := .off, unalignedLast := false, stateTimer := some (s.profile o).settle }
          else a.outlet o) ∧
        (∀ o, c.meter o = if c.outlet o = a.outlet o then s.meter o else { s.meter o with overCount := 0, disturbed := true }) ∧
        ∀ half : State, half = { c with lines := s.lines.set b { s.line b with lastCross := some ⟨s.boardTime, micros⟩ } }.closeHalf b h true
            ⟨s.boardTime, micros⟩ →
          (edge = .falling → exec (.voltageZeroCrossing b edge micros h w) s = .next half.issueClaims) ∧
          (edge = .rising →
            exec (.voltageZeroCrossing b edge micros h w) s = .next (half.countRise b w ⟨s.boardTime, micros⟩).issueClaims))

/-- A current crossing ends the ALIGN of an opening whose current exceeded 0.10 A since it began (R14, R29); the microseconds and the peak since the
last command come as operands (log 3). -/
def Obligations.CurrentCrossingsEndTheOpeningAlign : Prop :=
  ∀ (o : OutletId) (micros : Fin 1000) (peak : Nat) (s : State) (x : Outlet) (m : Meter), s.inReset = false → (s.outlet o).consistent →
    m = s.meter o →
    (x = if (s.outlet o).state = .opening ∧ (s.outlet o).sub = some .align then
        { s.outlet o with alignPeak := max (s.outlet o).alignPeak peak } else s.outlet o) →
    (∀ t, m.lastCross = some t → (s.boardTime - t.ms).toNat * 1000 + micros.val - t.us < 2000 →
      exec (.currentZeroCrossing o micros peak) s = .next (s.withOutlet o x m)) ∧
    ((∀ t, m.lastCross = some t → 2000 ≤ (s.boardTime - t.ms).toNat * 1000 + micros.val - t.us) →
      (x.state = .opening → x.sub = some .align → 10 < x.alignPeak →
        exec (.currentZeroCrossing o micros peak) s =
          .next (s.withOutlet o { x with sub := some .settle, coil := .off, unalignedLast := false, stateTimer := some (s.profile o).settle }
            { m with lastCross := some ⟨s.boardTime, micros⟩, overCount := 0, disturbed := true })) ∧
      (x.state ≠ .opening ∨ x.sub ≠ some .align ∨ x.alignPeak ≤ 10 →
        exec (.currentZeroCrossing o micros peak) s = .next (s.withOutlet o x { m with lastCross := some ⟨s.boardTime, micros⟩ })))

/-- A half-cycle closed goes to the line monitor, which counts low and good ones against the thresholds of R51 (R52, R57), and to the trip watch,
which counts those above the threshold (R30, R42). HALF_CYCLE_TIMEOUT passes the time that is left (log 2) and the next half-cycle begins 10 ms after the
start of the one it closes (log 8); a tie in rounding a threshold is open (log 5). That the line monitor comes before the trip watch, and the outlets in
number order, is the model's choice (log 4), and so is that claims made issuable follow the timeout (log 18); measured values are operands, one that a list
lacks reading as 0 (log 3). -/
def Obligations.HalfCyclesAreJudgedAndWatched : Prop :=
  ∀ s : State,
    (∀ (b : Bank) (h : HalfMeasure) (w : BankWindow) (d : Nat) (a : State), s.inReset = false → w = s.window b →
      d = 10 - (s.boardTime - w.halfStart.ms).toNat → a = s.passTime d →
      exec (.halfCycleTimeout b h) s =
        .next ((a.notePeaks b h.peaks).closeHalf b h false ⟨w.halfStart.ms + 10, w.halfStart.us⟩).issueClaims) ∧
    (∀ (b : Bank) (h : HalfMeasure) (crossing : Bool) (start : Stamp) (w : BankWindow), w = s.window b →
      s.closeHalf b h crossing start =
        (bankOutlets b).foldl (State.watchOutlet h.amps)
          (State.judgeHalf
            { s with windows := s.windows.set b { w with halves := w.halves + 1, halfStart := start, halfOnCrossing := crossing } } b h.volts
            (w.halfOnCrossing && crossing))) ∧
    (2 * s.sagThreshold * 100 ≤ 2 * s.cfg.nominal * s.cfg.sagPercent + 100 ∧
      2 * s.cfg.nominal * s.cfg.sagPercent ≤ 2 * s.sagThreshold * 100 + 100) ∧
    (2 * s.recoveryLevel * 100 ≤ 2 * s.cfg.nominal * (s.cfg.sagPercent + 5) + 100 ∧
      2 * s.cfg.nominal * (s.cfg.sagPercent + 5) ≤ 2 * s.recoveryLevel * 100 + 100) ∧
    (∀ (b : Bank) (volts : Nat) (onCrossings : Bool) (l : Line), l = s.line b →
      (l.state ≠ .sag → s.sagThreshold ≤ volts → s.judgeHalf b volts onCrossings = { s with lines := s.lines.set b { l with low := 0 } }) ∧
      (l.state ≠ .sag → volts < s.sagThreshold → l.low < 2 →
        s.judgeHalf b volts onCrossings = { s with lines := s.lines.set b { l with low := l.low + 1 } }) ∧
      (l.state ≠ .sag → volts < s.sagThreshold → 2 ≤ l.low →
        s.judgeHalf b volts onCrossings = State.sagCondition { s with lines := s.lines.set b { l with low := l.low + 1 } } b .lowVoltage) ∧
      (l.state = .sag → onCrossings = false ∨ volts < s.recoveryLevel →
        s.judgeHalf b volts onCrossings = { s with lines := s.lines.set b { l with good := 0 } }) ∧
      (l.state = .sag → onCrossings = true → s.recoveryLevel ≤ volts → l.good < 2 →
        s.judgeHalf b volts onCrossings = { s with lines := s.lines.set b { l with good := l.good + 1 } }) ∧
      (l.state = .sag → onCrossings = true → s.recoveryLevel ≤ volts → 2 ≤ l.good →
        s.judgeHalf b volts onCrossings =
          State.offerStatus { s with
            lines := s.lines.set b { l with state := .recovering, low := 0, good := 0, recovery := some (s.cfg.recoveryWait * 100) } })) ∧
    (∀ (amps : List Nat) (o : OutletId) (x : Outlet) (m : Meter) (n : Nat), x = s.outlet o → m = s.meter o → n = amps.getD (o.val % 8) 0 →
      (x.coil = .off → s.watchOutlet amps o = s) ∧
      (x.coil ≠ .off → n ≤ x.cfg.tripThreshold * 10 → s.watchOutlet amps o = s.withOutlet o x { m with overCount := 0 }) ∧
      (x.coil ≠ .off → x.cfg.tripThreshold * 10 < n → m.overCount = 0 → s.watchOutlet amps o = s.withOutlet o x { m with overCount := 1 }) ∧
      (x.coil ≠ .off → x.cfg.tripThreshold * 10 < n → 0 < m.overCount →
        s.watchOutlet amps o = (s.withOutlet o x { m with overCount := m.overCount + 1 }).trip o .halfCycle n))

/-- A trip takes a live outlet to TRIPPED and is handed to the other blocks (R43 to R45; their order is the model's, log 26). That claims made issuable
follow an INSTANT_TRIP is the model's choice (log 18). -/
def Obligations.TripsLockTheOutletOut : Prop :=
  ∀ (o : OutletId) (s : State) (x : Outlet) (m : Meter), x = s.outlet o → m = s.meter o →
    (∀ reason value, x.coil ≠ .off →
      s.trip o reason value =
        ((((s.withOutlet o
          { x.idle .tripped with restoreIntent := false, target := .none, cycle := if x.cycle = .group then .group else .none }
          { m with overCount := 0, disturbed := true }).dropClaim o).noteOpened o).noteFailed o).post .trip (o.val + 1)
            (match reason with | .halfCycle => 1 | .instant => 2) value) ∧
    (∀ reason value, x.coil = .off → s.trip o reason value = s) ∧
    ∀ magnitude, s.inReset = false →
      (6000 < magnitude → exec (.instantTrip o magnitude) s = .next (s.trip o .instant magnitude).issueClaims) ∧
      (magnitude ≤ 6000 → exec (.instantTrip o magnitude) s = .next s)

/-- 25 ms without a crossing, entry into SAG and return to it, and the handling of the outlets (R53 to R56, R59). NO_CROSSING_TIMEOUT passes the time
that is left (log 2); the outlets are taken in outlet number order (log 44); claims made issuable follow (log 18). -/
def Obligations.SagConditionsOpenTheOutlets : Prop :=
  ∀ (b : Bank) (s : State) (l : Line), l = s.line b →
    (∀ (d : Nat) (a : State), s.inReset = false → l.state ≠ .sag →
      (d = match l.lastCross with | some t => 25 - (s.boardTime - t.ms).toNat | none => 25 - s.boardTime.toNat) → a = s.passTime d →
      exec (.noCrossingTimeout b) s = .next (a.sagCondition b .noCrossing).issueClaims) ∧
    (s.inReset = false → l.state = .sag → exec (.noCrossingTimeout b) s = .next s) ∧
    (∀ (cause : SagCause) (shed : State), l.state = .normal →
      shed = (bankOutlets b).foldl (State.sagOutlet b)
        { s with
          lines := s.lines.set b
            { l with state := .sag, low := 0, good := 0, sagStart := some s.boardTime, reentry := 0, shedInUse := (s.bank b).sagShed } } →
      s.sagCondition b cause =
        (((shed.withdrawClaim b).disturbBank b).offerStatus).post .sagStart (bankNo b)
          (match cause with | .lowVoltage => 1 | .noCrossing => 2)
          ((bankOutlets b).filter (fun o => (shed.outlet o).state == .shed && (s.outlet o).state != .shed)).length) ∧
    (∀ cause, l.state = .recovering →
      s.sagCondition b cause =
        (((bankOutlets b).foldl (State.sagOutlet b)
          { s with
            lines := s.lines.set b
              { l with state := .sag, low := 0, good := 0, recovery := none, reentry := min 255 (l.reentry + 1) } }).disturbBank b).offerStatus) ∧
    (∀ cause, l.state = .sag → s.sagCondition b cause = s) ∧
    (∀ o, bankOf o = b → ∀ (x : Outlet) (m : Meter), x = s.outlet o → m = { s.meter o with overCount := 0 } →
      (x.state = .on ∧ l.shedInUse = true ∨ x.state = .closing ∧ x.pendingOff = false →
        s.sagOutlet b o = (s.withOutlet o (x.idle .shed) m).markDropped o) ∧
      (x.state = .closing → x.pendingOff = true → x.restoreIntent = true →
        s.sagOutlet b o = ((s.withOutlet o (x.idle .dwell) m).markDropped o).noteOpened o) ∧
      (x.state = .closing → x.pendingOff = true → x.restoreIntent = false →
        s.sagOutlet b o = (((s.withOutlet o (x.idle .off) m).meetTarget o).markDropped o).noteOpened o) ∧
      (x.state = .on ∧ l.shedInUse = false ∨ x.state ≠ .on ∧ x.state ≠ .closing → s.sagOutlet b o = s)) ∧
    (∀ o c, c = s.claim (bankOf o) →
      s.markDropped o =
        if c.state = .granted ∧ c.outlet = some o ∧ c.ending = .none then
          { s with claims := s.claims.set (bankOf o) { c with ending := .dropped } } else s) ∧
    ({ s.disturbBank b with meters := s.meters } = s ∧
      ∀ o, (s.disturbBank b).meter o = { s.meter o with disturbed := (s.meter o).disturbed || bankOf o == b })

/-- The recovery wait over, the bank is NORMAL: while RUNNING its SHED outlets claim in restore order, in CONFIGURING they stay SHED, and SAG-END is
queued (R60). The time left passes with the expiry (log 2), and claims made issuable follow (log 18). -/
def Obligations.RecoveryRestoresTheShedOutlets : Prop :=
  ∀ (b : Bank) (s : State) (l : Line), l = s.line b →
    (∀ d a, s.inReset = false → l.state = .recovering → l.recovery = some d → a = s.passTime d →
      exec (.recoveryTimerExpiry b) s = .next (a.enterNormal b).issueClaims) ∧
    (∀ n r : State, n = { s with lines := s.lines.set b { l with state := .normal, low := 0, good := 0, recovery := none } } →
      (s.phase = .running → r = (s.shedOutlets b).foldl State.restoreShed n) → (s.phase = .configuring → r = n) →
      s.enterNormal b =
        { ({ r with claims := r.claims.set b { r.claim b with retryWait := none } }.offerStatus).post .sagEnd (bankNo b) l.reentry
            (match l.sagStart with | some t => (s.boardTime - t).toNat | none => 0) with
          lines := s.lines.set b
            { l with state := .normal, low := 0, good := 0, recovery := none, sagStart := none, reentry := 0 } }) ∧
    (s.phase = .configuring → (s.enterNormal b).outlets = s.outlets ∧ (s.enterNormal b).queues = s.queues) ∧
    ((∀ o, o ∈ s.shedOutlets b ↔ bankOf o = b ∧ (s.outlet o).state = .shed) ∧
      (s.shedOutlets b).Pairwise (fun o p => s.restoreOrder o < s.restoreOrder p ∨ s.restoreOrder o = s.restoreOrder p ∧ o < p)) ∧
    ∀ o x, x = s.outlet o → x.state ≠ .claiming →
      s.restoreShed o =
        ({ s.withOutlet o { x.idle .claiming with claimWait := some 0 }
            { s.meter o with overCount := 0 } with
          queues := (s.joinQueue o).queues }).noteClaiming o

/-- A window ends on the rising crossing that completes it or by timer: its line record, and the window that opens (R31 to R33, R35). WINDOW_TIMEOUT
passes the time that is left (log 2); the outlets are taken in outlet number order (log 42); a tie in rounding the frequency is open (log 5), and so is a
reading outside its range (log 6). -/
def Obligations.WindowsEndWithTheirRecords : Prop :=
  ∀ (b : Bank) (m : WindowMeasure) (s : State) (w : BankWindow), w = s.window b →
    (∀ d a, s.inReset = false →
      (d = match (s.line b).lastCross with
        | some t => 250 - min (s.boardTime - w.start).toNat (s.boardTime - t.ms).toNat
        | none => 250 - (s.boardTime - w.start).toNat) →
      a = s.passTime d → exec (.windowTimeout b m) s = .next (a.endWindow b m none)) ∧
    (∀ closing r, r = w.lineRecord s.boardTime closing m.volts →
      s.endWindow b m closing =
        ((bankOutlets b).foldl (State.openOutletWindow b)
          { (bankOutlets b).foldl (State.endOutletWindow r.noLine r.volts (s.boardTime - w.start).toNat m) s with
            windows := s.windows.set b
              { w with
                line := some r, start := s.boardTime, riseStart := closing,
                cycles := if r.noLine = true ∨ r.frequency < 5500 then 10 else 12, rises := 0, halves := 0 } }).absorbWindow b
          (fun o => !(s.meter o).disturbed)) ∧
    (∀ now, (w.riseStart = none ∨ w.cycles ≤ w.rises + 1 → s.countRise b m now = s.endWindow b m (some now)) ∧
      (w.riseStart ≠ none → w.rises + 1 < w.cycles →
        s.countRise b m now = { s with windows := s.windows.set b { w with rises := w.rises + 1 } })) ∧
    (∀ now closing volts r, r = w.lineRecord now closing volts →
      (r.noLine = true ↔ w.riseStart = none ∨ closing = none) ∧ (r.noLine = true → r.volts = 0 ∧ r.frequency = 0) ∧
      (r.noLine = false → r.volts = min 3000 volts) ∧ r.endTime = now ∧ (w.halves ≤ 255 → r.halves = w.halves) ∧
      (1 ≤ (now - w.start).toNat → (now - w.start).toNat ≤ 65535 → r.duration = (now - w.start).toNat) ∧
      ∀ t u micros, w.riseStart = some t → closing = some u → micros = (u.ms - t.ms).toNat * 1000 + u.us - t.us → 0 < micros →
        w.cycles * 100000000 < 9999 * micros →
          2 * r.frequency * micros ≤ 2 * w.cycles * 100000000 + micros ∧ 2 * w.cycles * 100000000 ≤ 2 * r.frequency * micros + micros) ∧
    ∀ o, ({ s.openOutletWindow b o with meters := s.meters } = s ∧
      ∀ p, (s.openOutletWindow b o).meter p =
        if p = o then
          { s.meter o with
            disturbed := decide ((s.line b).state ≠ .normal ∨ (s.outlet o).state = .closing ∨ (s.outlet o).state = .opening) }
        else s.meter p)

/-- What a window's end does to one outlet: record, undisturbed RMS, energy, reverse power, peak, the peak that a captured READ OUTLET of it remembers,
and ENERGY-WRAP (R34, R36, R38, R39, R41). The measured values come as operands (log 3); the powers are computed from the recorded voltage and current
(log 38), a tie and the rounding of apparent power being open (log 5); the accumulator wraps modulo 2^48 (log 34). -/
def Obligations.WindowsUpdateEachOutlet : Prop :=
  ∀ (noLine : Bool) (volts ms : Nat) (w : WindowMeasure) (s : State) (o : OutletId) (r : WindowRecord) (m n : Meter), m = s.meter o →
    (r = windowRecord noLine m.disturbed volts (min 6500 (w.amps.getD (o.val % 8) 0)) (w.watts.getD (o.val % 8) 0)) →
    n = (State.endOutletWindow noLine volts ms w s o).meter o →
    (r.amps = min 6500 (w.amps.getD (o.val % 8) 0) ∧ r.disturbed = m.disturbed ∧ r.noLine = noLine ∧
      (noLine = true → r.watts = 0 ∧ r.voltAmps = 0 ∧ r.powerFactor = 0 ∧ r.reverse = false) ∧
      (noLine = false →
        ((w.watts.getD (o.val % 8) 0).natAbs ≤ 200000 → r.watts = w.watts.getD (o.val % 8) 0) ∧ (r.reverse = true ↔ r.watts < 0) ∧
        volts * r.amps < r.voltAmps * 100 + 100 ∧ r.voltAmps * 100 < volts * r.amps + 100 ∧
        (r.voltAmps < 10 → r.powerFactor = 0) ∧
        (10 ≤ r.voltAmps → r.watts.natAbs ≤ r.voltAmps →
          2 * r.powerFactor * r.voltAmps ≤ 200 * r.watts.natAbs + r.voltAmps ∧
            200 * r.watts.natAbs ≤ 2 * r.powerFactor * r.voltAmps + r.voltAmps))) ∧
    (n.record = some r ∧ n.undisturbed = (if m.disturbed = true then m.undisturbed else some r.amps) ∧ n.peak = max m.peak r.amps ∧
      n.reversePower = (m.reversePower || r.reverse) ∧ n.overCount = m.overCount ∧ n.lastCross = m.lastCross ∧ n.disturbed = m.disturbed) ∧
    (∀ added, added = (if noLine = true then 0 else r.watts.toNat * ms) →
      36000 * (m.energy.toNat + (m.remainder + added) / 36000) + n.remainder = 36000 * m.energy.toNat + m.remainder + added ∧
      n.energy.toNat = (m.energy.toNat + (m.remainder + added) / 36000) % 2 ^ 48 ∧
      (m.energy.toNat + (m.remainder + added) / 36000 < 2 ^ 48 →
        (State.endOutletWindow noLine volts ms w s o).port.events = s.port.events ∧ (State.endOutletWindow noLine volts ms w s o).port.lost = s.port.lost) ∧
      (∀ c : Capture, s.port.capture = some c → ∃ d : Capture, (State.endOutletWindow noLine volts ms w s o).port.capture = some d ∧
        d.request = c.request ∧ d.result = c.result ∧ d.hadEvent = c.hadEvent ∧
        (∀ x clear, c.request = .outlet x clear → x.toNat = o.val + 1 → d.peakSince = max c.peakSince r.amps) ∧
        ((∀ x clear, c.request = .outlet x clear → x.toNat ≠ o.val + 1) → d.peakSince = c.peakSince) ∧
        (d.lossSince = true ↔ c.lossSince = true ∨ 2 ^ 48 ≤ m.energy.toNat + (m.remainder + added) / 36000 ∧
          maskEnables s.cfg.eventMask .energyWrap = true ∧ 64 ≤ s.port.events.length)) ∧
      (s.port.capture = none → (State.endOutletWindow noLine volts ms w s o).port.capture = none) ∧
      (2 ^ 48 ≤ m.energy.toNat + (m.remainder + added) / 36000 →
        (State.endOutletWindow noLine volts ms w s o).port.events = (s.portWith .energyWrap (o.val + 1) 0 (n.energy.toNat % 2 ^ 32)).events ∧
        (State.endOutletWindow noLine volts ms w s o).port.lost = (s.portWith .energyWrap (o.val + 1) 0 (n.energy.toNat % 2 ^ 32)).lost)) ∧
    { State.endOutletWindow noLine volts ms w s o with meters := s.meters, port := s.port } = s ∧
    ∀ p, p ≠ o → (State.endOutletWindow noLine volts ms w s o).meter p = s.meter p

/-! ## The peer link (R65 to R82, R93 to R95) -/

/-- The STATUS schedule, what STATUS and JOIN carry (R36, R87, R93, R95, R106, R127), and their reserved places (R75, R76). The command passes the
time to the next multiple of 250 ms (the model's choice, log 28), which is 0 where board time wraps first (log 29). -/
def Obligations.StatusIsComposedFromTheBlocks : Prop :=
  ∀ s : State,
    (∀ d a, s.inReset = false → d = min ((250 - s.boardTime.toNat % 250) % 250) (2 ^ 32 - s.boardTime.toNat) → a = s.passTime d →
      a.boardTime.toNat % 250 = 0 ∧
      (s.link.state = .joining ∨ s.link.state = .active ∨ s.link.state = .linkDown → exec .scheduledStatus s = .next a.offerStatus) ∧
      (s.link.state = .silent ∨ s.link.state = .isolated → exec .scheduledStatus s = .next a)) ∧
    (∃ p : Banked StatusBank, s.offerStatus = s.offerReserved (.status p) ∧
      ∀ b, (p.get b).load = s.bankLoad b ∧
        (p.get b).held = (if (s.claim b).state = .granted ∧ (s.claim b).ending = .none then (s.claim b).amount else 0) ∧
        ((p.get b).sag = true ↔ (s.line b).state = .sag) ∧ ((p.get b).recovering = true ↔ (s.line b).state = .recovering) ∧
        ∀ candidate : OutletId → Prop,
          (candidate = fun o => bankOf o = b ∧ (s.outlet o).state = .on ∧ (s.outlet o).isProtected = false ∧ (s.outlet o).cycle ≠ .group ∧
            1 ≤ (s.outlet o).cfg.shedRank ∧ (s.outlet o).cfg.shedRank ≤ 254) →
          (∀ o, candidate o → (p.get b).rank ≤ (s.outlet o).cfg.shedRank) ∧
            ((∀ o, ¬candidate o) ∧ (p.get b).rank = 255 ∨ ∃ o, candidate o ∧ (p.get b).rank = (s.outlet o).cfg.shedRank)) ∧
    (∀ b, ∃ sum, sum = ((bankOutlets b).map (fun o =>
        match (s.meter o).undisturbed, (s.meter o).record with
        | some a, _ => a
        | none, some r => r.amps
        | none, none => 0)).sum ∧ sum ≤ 10 * s.bankLoad b ∧ 10 * s.bankLoad b < sum + 10) ∧
    (∀ r, s.offerJoin r =
      s.offerReserved (.join ⟨s.serial, s.banks.map (·.branch), s.banks.map (·.limit),
        s.claims.map (fun c => if c.state = .granted ∧ c.ending = .none then c.amount else 0), r, s.groups.map (·.group)⟩)) ∧
    ∀ f, (s.link.state = .silent ∨ s.link.state = .isolated → s.offerReserved f = s) ∧
      (s.link.state = .joining ∨ s.link.state = .active ∨ s.link.state = .linkDown →
        (∀ sending, s.link.sending = some sending → frameKind sending.frame.frame = frameKind f →
          s.offerReserved f =
            { s with
              link := { s.link with
                sending := some { sending with
                  replacement := some (match sending.replacement with | some old => mergeJoin old f | none => f) } } }) ∧
        ((∀ sending, s.link.sending = some sending → frameKind sending.frame.frame ≠ frameKind f) →
          s.offerReserved f =
            { s with
              link := { s.link with
                queue := insertByKey
                  (queuedFrame 7 s.station
                    (match s.link.queue.find? (fun x => decide (frameKind x.frame = frameKind f)) with
                      | some x => mergeJoin x.frame f
                      | none => f))
                  (s.link.queue.filter (fun x => decide (frameKind x.frame ≠ frameKind f))) } })) ∧
      (∀ p q, mergeJoin (.join p) (.join q) = .join { q with replyRequested := p.replyRequested || q.replyRequested }) ∧
      ∀ p q, mergeJoin (.status p) (.status q) = .status q

/-- An attempt begins when the bus is won, and its failure counts, removes or replaces what waited, and ends in LINK-DOWN at 16
(R68, R69, R71, R74, R76, R77, R80, R82; rivals' keys as operand, log 13; a JOIN that replaces one asks for replies if either did, R76). A claim that
returns to NONE keeps its amount and has absorb count 0 (log 27), the records are ended in group number order (log 41), and claims made issuable follow (log 18). -/
def Obligations.AttemptsEndByResultOfTheBus : Prop :=
  ∀ s : State, s.inReset = false →
    (∀ (rivals : List Nat) (x : QueuedFrame) (rest : List QueuedFrame), s.link.sending = none → s.link.queue = x :: rest →
      s.link.state = .joining ∨ s.link.state = .active → (∀ k ∈ rivals, x.key ≤ k) →
        exec (.busIdleOffer rivals) s = .next { s with link := { s.link with sending := some ⟨x, false, none⟩ } }) ∧
    (∀ rivals : List Nat, s.link.sending.isSome = true ∨ s.link.queue = [] ∨ s.link.state ≠ .joining ∧ s.link.state ≠ .active ∨
      (∃ x rest, s.link.queue = x :: rest ∧ ∃ k ∈ rivals, k < x.key) → exec (.busIdleOffer rivals) s = .next s) ∧
    (∀ mismatch, s.link.sending = none → exec (.attemptFailed mismatch) s = .next s.issueClaims) ∧
    (∀ (mismatch : Bool) (a : Sending) (ended : Link), s.link.sending = some a →
      ended = { s.link with sending := none, failures := s.link.failures + 1, rejectDriven := mismatch } →
      ∀ t : State,
        (a.removeAfter = false ∧ a.replacement = none ∧ t = { s with link := ended } ∨
          a.removeAfter = false ∧ (∃ f, a.replacement = some f ∧
            t = { s with link := { ended with queue := insertByKey (queuedFrame 7 s.station (mergeJoin a.frame.frame f)) (s.link.queue.erase a.frame) } }) ∨
          a.removeAfter = true ∧ (∃ p, a.frame.frame = .claim p ∧ (s.claim p.bank).state = .sent ∧ (s.claim p.bank).withdrawn = true ∧
            t = { s with
              link := { ended with queue := s.link.queue.erase a.frame }
              claims := s.claims.set p.bank { s.claim p.bank with
                state := .none, outlet := none, withdrawn := false, ending := .none, absorbCount := 0, retryWait := none } }) ∨
          a.removeAfter = true ∧ (∀ p, a.frame.frame = .claim p → (s.claim p.bank).state ≠ .sent ∨ (s.claim p.bank).withdrawn = false) ∧
            t = { s with link := { ended with queue := s.link.queue.erase a.frame } }) →
        (s.link.failures + 1 < 16 → exec (.attemptFailed mismatch) s = .next t.issueClaims) ∧
        (16 ≤ s.link.failures + 1 →
          exec (.attemptFailed mismatch) s = .next (t.enterLinkDown (frameKind a.frame.frame)).issueClaims)) ∧
    (∀ (k : FrameKind), s.enterLinkDown k =
      (State.endCyclesLocally { s with
        link := { s.link with state := .linkDown, joining := none, quiet := some 2000, queue := [], sending := none }
        claims := s.claims.map (fun c =>
          if c.state = .sent then
            { c with state := .none, outlet := none, withdrawn := false, ending := .none, absorbCount := 0, retryWait := none } else c) }).post
        .linkDown s.station.val (frameKindCode k) 0) ∧
    s.endCyclesLocally =
      (s.records.map (·.group)).foldl (fun t g => t.actAbort g .link)
        { s with groups := s.groups.map (fun e => { e with pendingTag := none }) }

/-- The joining and quiet timers, the start restore (R79, R80, R171), and frames that fail (R70; what failed is an operand, log 14, and a JOIN
with a branch byte above 15 is in error, log 48). The time left passes with an expiry (log 2), LINK-UP is queued before the start restore (log 35), and claims made issuable follow (log 18). -/
def Obligations.TheStationJoinsAndReturnsToTheLink : Prop :=
  ∀ s : State,
    (∀ d a, s.inReset = false → s.link.state = .joining → s.link.joining = some d → a = s.passTime d →
      exec .joiningTimerExpiry s =
        .next (((State.post { a with link := { a.link with state := .active, joining := none } } .linkUp s.station.val 0
          (s.peersIn .live)).startRestore).issueClaims)) ∧
    (s.startRestored = true → s.startRestore = s) ∧
    (s.startRestored = false →
      ∃ l : List OutletId, s.startRestore = { l.foldl State.restoreShed s with restoreSet := 0, startRestored := true } ∧
        (∀ o, o ∈ l ↔ hasOutlet s.restoreSet o = true ∧ (s.outlet o).state = .off ∨
          (s.outlet o).state = .shed ∧ (s.line (bankOf o)).state = .normal) ∧
        l.Pairwise (fun o p => s.restoreOrder o < s.restoreOrder p ∨ s.restoreOrder o = s.restoreOrder p ∧ o < p)) ∧
    (∀ d a, s.inReset = false → s.link.state = .linkDown → s.link.quiet = some d → a = s.passTime d →
      exec .quietTimerExpiry s = .next a.enterJoining) ∧
    s.enterJoining =
      State.offerJoin { s with link := { s.link with state := .joining, failures := 0, joining := some 1000, quiet := none } } true ∧
    (s.inReset = false → ∀ r : Reception,
      (s.link.state = .joining ∨ s.link.state = .active →
        (r.idleEarly = true →
          exec (.failedFrame r) s = .next (State.offerJoin { s with link := { s.link with rejectDriven := false } } true)) ∧
        (r.idleEarly = false → (∃ k f, judge r.bits = .good k f) →
          exec (.failedFrame r) s = .next { s with link := { s.link with rejectDriven := false } }) ∧
        (r.idleEarly = false → (∀ k f, judge r.bits ≠ .good k f) →
          exec (.failedFrame r) s = .next { s with link := { s.link with rejectDriven := true } })) ∧
      (s.link.state = .linkDown → r.idleEarly = true ∨ r.rejectDominant = true ∨ (∀ k f, judge r.bits ≠ .good k f) →
        exec (.failedFrame r) s = .next { s with link := { s.link with quiet := some 2000, rejectDriven := false } }) ∧
      (s.link.state = .silent ∨ s.link.state = .isolated → exec (.failedFrame r) s = .next s))

/-- A carried frame is applied, found in error, taken as the end of the own attempt, or reveals another board of the station's number, and the reject slot
of a frame that is not in error is left recessive (R65, R70, R71, R73, R76, R80, R81; log 12, log 30). On entry into ISOLATED the records are ended in
group number order (log 41), and a claim that returns to NONE keeps its amount and has absorb count 0 (log 27); group number 0 is in range in a GROUP-OFF, GROUP-ON or
GROUP-ABORT (log 45); a replacement that waited for the own attempt stands in the queue before the frame is applied (R76; log 51); claims made issuable
follow (log 18). -/
def Obligations.CarriedFramesReachTheStation : Prop :=
  ∀ (c : Instr) (k : StationId) (f : PeerFrame) (s : State), c.carried = some (k, f) → s.inReset = false →
    (s.link.state = .silent ∨ s.link.state = .isolated → exec c s = .next s) ∧
    (s.link.state = .joining ∨ s.link.state = .active →
      (payloadInRange f = false → exec c s = .next { s with link := { s.link with rejectDriven := true } }) ∧
      (payloadInRange f = true →
        (∀ a, s.link.sending = some a → a.frame.frame = f → k = s.station →
          exec c s =
            .next ((State.applies { s with
              link := { s.link with
                queue := match a.replacement with
                  | some g => insertByKey (queuedFrame 7 s.station g) (s.link.queue.erase a.frame)
                  | none => s.link.queue.erase a.frame
                sending := none, failures := 0, rejectDriven := false } } k f).issueClaims)) ∧
        (k ≠ s.station ∨ (∃ p, f = .join p ∧ p.serial = s.serial) ∧ (∀ a, s.link.sending = some a → a.frame.frame ≠ f) →
          exec c s = .next ((State.applies { s with link := { s.link with rejectDriven := false } } k f).issueClaims)) ∧
        (k = s.station → (∀ p, f = .join p → p.serial ≠ s.serial) → (∀ a, s.link.sending = some a → a.frame.frame ≠ f) →
          exec c s = .next (State.enterIsolated { s with link := { s.link with rejectDriven := false } } (frameKind f)
            (match f with | .join p => p.serial.toNat % 2 ^ 32 | _ => 0))))) ∧
    (s.link.state = .linkDown →
      (payloadInRange f = false → exec c s = .next { s with link := { s.link with quiet := some 2000, rejectDriven := false } }) ∧
      (payloadInRange f = true → k ≠ s.station →
        exec c s = .next (State.applies { s with link := { s.link with rejectDriven := false } } k f).issueClaims) ∧
      (payloadInRange f = true → k = s.station →
        exec c s = .next (State.enterIsolated { s with link := { s.link with rejectDriven := false } } (frameKind f)
          (match f with | .join p => p.serial.toNat % 2 ^ 32 | _ => 0)))) ∧
    ∀ kind value, s.enterIsolated kind value =
      (State.endCyclesLocally { s with
        link := { s.link with state := .isolated, joining := none, quiet := none, queue := [], sending := none }
        claims := s.claims.map (fun c =>
          if c.state = .sent then
            { c with state := .none, outlet := none, withdrawn := false, ending := .none, absorbCount := 0, retryWait := none } else c) }).post
        .duplicateStation s.station.val (frameKindCode kind) value

/-! ## Peers, overload (R84 to R102, R109, R125 to R132) -/

/-- A JOIN writes its entry and no other, and leaves the rosters and the branch conflicts as the table now gives them (R86, R88, R91, R92). On the way it
reports DUPLICATE-STATION (R90), BRANCH-CONFLICT, several in ascending branch number, every SET before every CLEARED (R91, R92; log 40), and PEER-JOINED
(R88, R102), answers with its own JOIN (R89), triggers retries, a first map counting as banks that enter (R109; log 19), and aborts or shortens the wait of
the cycles its rosters touch, a record in DONE losing its awaited station too, in group number order (R155; log 41). -/
def Obligations.JoinsWriteTheirEntryAndReachTheBlocks : Prop :=
  ∀ (k : StationId) (p : JoinPayload) (s t : State) (e : Peer), t = s.applyJoin k p → e = s.peer k →
    (∃ groups conflict, t.peer k =
      { state := .live, info := some ⟨p.serial, p.map, p.limits⟩, helds := p.helds, groups := groups, conflict := conflict
        lastHeard := some s.boardTime, becameLive := if e.state = .live then e.becameLive else some s.boardTime
        loads := if e.state = .absent then .fill 0 else e.loads
        ranks := if e.state = .absent then .fill 255 else e.ranks
        flags := if e.state = .absent then .fill ⟨false, false⟩ else e.flags } ∧
      (∀ g, g ∈ groups ↔ g ∈ p.groups ∧ g ≠ 0) ∧ groups.Pairwise (· < ·) ∧
      (k = s.station → conflict = e.conflict) ∧
      (k ≠ s.station → (conflict = true ↔ ∃ n b, s.uses n = true ∧ p.map.get b = n ∧ p.limits.get b ≠ s.ownLimit n))) ∧
    (∀ j, j ≠ k → t.peer j = s.peer j) ∧
    (∀ n, hasNumber t.conflicts n = true ↔
      (hasNumber s.conflicts n = true ∨ k ≠ s.station ∧ s.uses n = true ∧ ∃ b, p.map.get b = n ∧ p.limits.get b ≠ s.ownLimit n) ∧
        ∃ j i b, j ≠ s.station ∧ (t.peer j).state ≠ .absent ∧ (t.peer j).info = some i ∧ i.map.get b = n ∧ i.limits.get b ≠ s.ownLimit n) ∧
    (∀ g x, t.group? g = some x → ∀ j, hasNumber x.roster j = true ↔ j = s.station ∨ (t.peer j).state ≠ .absent ∧ g ∈ (t.peer j).groups) ∧
    (∃ (d w c r n q u : State) (rosters : Nat → NumberSet) (found : List BranchId) (duplicate known : Prop) (trigger : BranchId → Bool),
      (duplicate = (k ≠ s.station ∧ e.state = .live ∧ ∀ i, e.info = some i → i.serial ≠ p.serial)) ∧
      (known = ∃ i, e.info = some i ∧ i.serial = p.serial) ∧
      (duplicate → d = s.post .duplicateStation k.val 1 (p.serial.toNat % 2 ^ 32)) ∧ (¬duplicate → d = s) ∧
      { w with peers := d.peers, groups := d.groups } = d ∧
      (∀ j, w.peer j = if j = k then { t.peer k with conflict := e.conflict } else s.peer j) ∧
      w.groups = d.groups.map (fun x => { x with roster := rosters x.group }) ∧
      (∀ g j, hasNumber (rosters g) j = true ↔ j = s.station ∨ (w.peer j).state ≠ .absent ∧ g ∈ (w.peer j).groups) ∧
      (∀ n, n ∈ found ↔ s.uses n = true ∧ ∃ b, p.map.get b = n ∧ p.limits.get b ≠ s.ownLimit n) ∧ found.Pairwise (· < ·) ∧
      (k = s.station → c = w) ∧
      (k ≠ s.station → c = found.foldl (State.setConflict k) { w with peers := w.peers.set k { w.peer k with conflict := !found.isEmpty } }) ∧
      r = allNumbers.foldl (State.clearConflict k) c ∧
      (k ≠ s.station → e.state = .absent → n = r.post .peerJoined k.val 1 (p.serial.toNat % 2 ^ 32)) ∧
      (k ≠ s.station → e.state = .lost → known → n = r.post .peerJoined k.val 2 (p.serial.toNat % 2 ^ 32)) ∧
      (k ≠ s.station → e.state = .lost → ¬known → n = r.post .peerJoined k.val 3 (p.serial.toNat % 2 ^ 32)) ∧
      (k = s.station ∨ e.state = .live → n = r) ∧
      (p.replyRequested = true → k ≠ s.station → s.link.state = .joining ∨ s.link.state = .active → q = n.offerJoin false) ∧
      (p.replyRequested = false ∨ k = s.station ∨ s.link.state ≠ .joining ∧ s.link.state ≠ .active → q = n) ∧
      (∀ n, trigger n = true ↔ loweredOrCleared s q n = true ∨ k = s.station ∧ e.state = .absent ∨
        ∃ b, ¬((∃ i, e.info = some i ∧ i.map.get b = n) ↔ p.map.get b = n) ∨
          p.map.get b = n ∧ ∃ i, e.info = some i ∧ i.map.get b = n ∧ i.limits.get b ≠ p.limits.get b) ∧
      u = q.triggerRetries trigger ∧ t = (s.records.map (·.group)).foldl (State.groupJoin s k p) u) ∧
    (∀ (v : State) (n : BranchId),
      (hasNumber v.conflicts n = true → v.setConflict k n = v) ∧
      (hasNumber v.conflicts n = false →
        v.setConflict k n = State.post { v with conflicts := addNumber v.conflicts n } .branchConflict n.val 1 k.val) ∧
      ∀ differs : Prop,
        (differs = ∃ j i b, j ≠ v.station ∧ (v.peer j).state ≠ .absent ∧ (v.peer j).info = some i ∧ i.map.get b = n ∧
          i.limits.get b ≠ v.ownLimit n) →
        (hasNumber v.conflicts n = false ∨ differs → v.clearConflict k n = v) ∧
        (hasNumber v.conflicts n = true → ¬differs →
          v.clearConflict k n = State.post { v with conflicts := removeNumber v.conflicts n } .branchConflict n.val 2 k.val)) ∧
    ∀ (v : State) (g : Nat) (aborts leaves : Prop),
      (aborts = ((∃ j, hasNumber (v.roster g) j = true ∧ hasNumber (s.roster g) j = false) ∨
        p.replyRequested = true ∧ k ≠ v.station ∧ hasNumber (s.roster g) k = true)) →
      (leaves = (hasNumber (s.roster g) k = true ∧ hasNumber (v.roster g) k = false)) →
      (v.record? g = none → State.groupJoin s k p v g = v) ∧
      ∀ r, v.record? g = some r → ∃ x : State,
        (r.phase = .offPhase ∨ r.phase = .dwell → aborts → x = v.offerAbort g .rejoined) ∧
        (r.phase ≠ .offPhase ∧ r.phase ≠ .dwell ∨ ¬aborts → x = v) ∧
        (leaves → State.groupJoin s k p v g = x.removeAwaited g k) ∧ (¬leaves → State.groupJoin s k p v g = x)

/-- Hearing a station, STATUS, FORGET with PEER-FORGOTTEN or the own JOIN, the retry triggers and the loss of a peer (R96 to R98, R101, R109, R118, R155).
That the own STATUS of a zero ends the claim even while the own entry is ABSENT is the model's reading (log 37); BRANCH-CONFLICT comes in ascending branch
number (log 40), and the records are gone through in group number order (log 41). The claim that the own STATUS ends keeps its amount and loses its
withdrawn mark, and has absorb count 0 after a drop too (log 27), the sender of a FORGET is heard before the steps of R101 (log 47), and PEER-FORGOTTEN comes after a CLEARED, as the
steps of R101 have it (log 49). PEER_LIVENESS_EXPIRY passes the time that is left (log 2), and claims
made issuable follow (log 18). -/
def Obligations.EntriesAreHeardReportedLostAndForgotten : Prop :=
  ∀ (s : State) (k : StationId) (e : Peer), e = s.peer k →
    ((e.state = .absent → s.link.state = .joining ∨ s.link.state = .active → s.heardFrom k = s.offerJoin true) ∧
      (e.state = .absent → s.link.state ≠ .joining → s.link.state ≠ .active → s.heardFrom k = s) ∧
      (e.state = .live → s.heardFrom k = { s with peers := s.peers.set k { e with lastHeard := some s.boardTime } }) ∧
      (∀ i, e.state = .lost → e.info = some i →
        s.heardFrom k =
          State.post { s with
            peers := s.peers.set k { e with state := .live, lastHeard := some s.boardTime, becameLive := some s.boardTime } }
            .peerJoined k.val 2 (i.serial.toNat % 2 ^ 32))) ∧
    (∀ (p : Banked StatusBank) (t : State), t = s.applyStatus k p →
      (e.state = .absent → t.peer k = e) ∧
      (e.state ≠ .absent →
        t.peer k =
          { e with
            state := .live, lastHeard := some s.boardTime, becameLive := if e.state = .lost then some s.boardTime else e.becameLive
            loads := p.map (·.load), helds := p.map (·.held), ranks := p.map (·.rank), flags := p.map (fun x => ⟨x.sag, x.recovering⟩) }) ∧
      (∀ j, j ≠ k → t.peer j = s.peer j) ∧
      ∃ h u : State, h = (s.heardFrom k).modPeer k (Peer.reported p) ∧
        (k ≠ s.station → u = h) ∧
        (k = s.station → { u with claims := h.claims } = h ∧
          ∀ b, u.claim b =
            if (h.claim b).state = .granted ∧ (h.claim b).ending ≠ .none ∧ (p.get b).held = 0 then
              { h.claim b with state := .none, outlet := none, withdrawn := false, ending := .none, absorbCount := 0, retryWait := none }
            else h.claim b) ∧
        t = (u.triggerRetries (loweredOrCleared s u)).overloadAfter k) ∧
    (∀ (j : StationId) (t : State), t = s.applyForget k j →
      t.peer j = Peer.absent ∧ (∀ i, i ≠ j → i ≠ k → t.peer i = s.peer i) ∧
      (∀ g x, t.group? g = some x → ∀ i, hasNumber x.roster i = true ↔ i = s.station ∨ (t.peer i).state ≠ .absent ∧ g ∈ (t.peer i).groups) ∧
      (∀ n, hasNumber t.conflicts n = true ↔ hasNumber s.conflicts n = true ∧
        ∃ i x b, i ≠ s.station ∧ (t.peer i).state ≠ .absent ∧ (t.peer i).info = some x ∧ x.map.get b = n ∧ x.limits.get b ≠ s.ownLimit n) ∧
      ∃ (h w r v u : State) (rosters : Nat → NumberSet), (e.state = .absent → h = s) ∧ (e.state ≠ .absent → h = s.heardFrom k) ∧
        { w with peers := h.peers, groups := h.groups } = h ∧ (∀ i, w.peer i = if i = j then Peer.absent else h.peer i) ∧
        w.groups = h.groups.map (fun x => { x with roster := rosters x.group }) ∧
        (∀ g i, hasNumber (rosters g) i = true ↔ i = s.station ∨ (w.peer i).state ≠ .absent ∧ g ∈ (w.peer i).groups) ∧
        r = allNumbers.foldl (State.clearConflict j) w ∧
        (j ≠ s.station → v = r.post .peerForgotten j.val (entryStateCode (h.peer j).state) 0) ∧
        (j = s.station → s.link.state = .joining ∨ s.link.state = .active → v = r.offerJoin true) ∧
        (j = s.station → s.link.state ≠ .joining → s.link.state ≠ .active → v = r) ∧
        u = (v.triggerRetries (loweredOrCleared s v)).endHolds j ∧
        (j = s.station → t = u) ∧ (j ≠ s.station → t = (s.records.map (·.group)).foldl (fun x g => x.removeAwaited g j) u)) ∧
    (∀ after : State, ∀ n, loweredOrCleared s after n = true ↔
      after.branchTotal n < s.branchTotal n ∨ hasNumber s.conflicts n = true ∧ hasNumber after.conflicts n = false) ∧
    (∀ p : BranchId → Bool, { s.triggerRetries p with claims := s.claims } = s ∧
      ∀ b, (s.triggerRetries p).claim b = if p (s.bank b).branch = true then { s.claim b with retryWait := none } else s.claim b) ∧
    (∀ t d a, s.inReset = false → s.link.state ≠ .silent → k ≠ s.station → e.state = .live → e.lastHeard = some t →
      d = 1500 - (s.boardTime - t).toNat → a = s.passTime d →
      exec (.peerLivenessExpiry k) s =
        .next ((s.records.map (·.group)).foldl (State.groupLost k)
          ((State.post { a with peers := a.peers.set k { e with state := .lost } } .peerLost k.val 0
            (match e.becameLive with | some l => (a.boardTime - l).toNat | none => 0)).endHolds k)).issueClaims) ∧
    (s.inReset = false → s.link.state = .silent ∨ k = s.station ∨ e.state ≠ .live → exec (.peerLivenessExpiry k) s = .next s)

/-- The overload evaluation of a branch on its load total, the designated shedder, its shed and the end of a hold (R125 to R132). A STATUS is taken to
every branch in ascending order, and the load total saturates as the branch total does, which is the model's choice (log 25), as it is that the reported mark
is set whether or not the port takes the event (log 52). -/
def Obligations.OverloadedBranchesShedOneOutlet : Prop :=
  ∀ (s e : State) (n : BranchId) (k : StationId) (r : Overload) (touches : Prop) (candidate : OutletId → Prop), r = s.over n →
    e = { s with overload := s.overload.set n { r with loadTotal := s.branchLoad n } } →
    (touches = (s.uses n = true ∧ (s.peer k).state ≠ .absent ∧ ∃ i b, (s.peer k).info = some i ∧ i.map.get b = n)) →
    (candidate = fun o => (s.bank (bankOf o)).branch = n ∧ (s.outlet o).state = .on ∧ (s.outlet o).isProtected = false ∧
      (s.outlet o).cycle ≠ .group ∧ 1 ≤ (s.outlet o).cfg.shedRank ∧ (s.outlet o).cfg.shedRank ≤ 254) →
    s.overloadAfter k = allNumbers.foldl (State.overloadStep k) s ∧ allNumbers.map (·.val) = List.range 16 ∧
    s.branchLoad n =
      min 16384 ((s.peers.cells.map (fun e => ((allBanks.filter (fun b =>
        match e.info with
        | some i => e.state != .absent && i.map.get b == n
        | none => false)).map (fun b => e.loads.get b)).sum)).sum) ∧
    (r.state = .hold → r.shedder = some k →
      s.overloadStep k n = { s with overload := s.overload.set n { r with state := .clear, shedder := none } }) ∧
    (r.state = .hold ∧ r.shedder ≠ some k ∨ r.state ≠ .hold ∧ ¬touches → s.overloadStep k n = s) ∧
    (r.state ≠ .hold → touches →
      (s.branchLoad n ≤ s.ownLimit n →
        s.overloadStep k n =
          { s with overload := s.overload.set n { r with loadTotal := s.branchLoad n, state := .clear, reported := false } }) ∧
      (s.ownLimit n < s.branchLoad n → r.state = .clear →
        s.overloadStep k n = { s with overload := s.overload.set n { r with loadTotal := s.branchLoad n, state := .overOnce } }) ∧
      (s.ownLimit n < s.branchLoad n → r.state = .overOnce → s.overloadStep k n = e.designate n)) ∧
    ((s.designated n = none →
        (r.reported = true → s.designate n = { s with overload := s.overload.set n { r with state := .clear, shedder := none } }) ∧
        (r.reported = false →
          s.designate n =
            State.post { s with overload := s.overload.set n { r with state := .clear, shedder := none, reported := true } } .branchOverload
              n.val 1 (s.branchLoad n))) ∧
      ∀ j hold, s.designated n = some j → hold = { s with overload := s.overload.set n { r with state := .hold, shedder := some j } } →
        (j ≠ s.station → s.designate n = hold) ∧
        (j = s.station →
          (∀ o, candidate o → (∀ q, candidate q → (s.outlet o).cfg.shedRank < (s.outlet q).cfg.shedRank ∨
              (s.outlet o).cfg.shedRank = (s.outlet q).cfg.shedRank ∧ q ≤ o) →
            s.designate n = ((hold.enterOpening o).post .overloadShed (o.val + 1) n.val (s.branchLoad n)).offerStatus) ∧
          ((∀ o, ¬candidate o) → r.reported = true → s.designate n = hold.offerStatus) ∧
          ((∀ o, ¬candidate o) → r.reported = false →
            s.designate n =
              State.post { hold.offerStatus with
                overload := s.overload.set n { r with state := .hold, shedder := some j, reported := true } } .branchOverload n.val 2
                (s.branchLoad n)))) ∧
    (∀ rank : StationId → Nat → Prop,
      (rank = fun j v => (s.peer j).state = .live ∧ v < 255 ∧ ∃ i b, (s.peer j).info = some i ∧ i.map.get b = n ∧ (s.peer j).ranks.get b = v) →
      ((∀ j v, ¬rank j v) → s.designated n = none) ∧
      ∀ j v, rank j v → (∀ i w, rank i w → v < w ∨ v = w ∧ j ≤ i) → s.designated n = some j) ∧
    ({ s.endHolds k with overload := s.overload } = s ∧
      (s.endHolds k).over n = if r.state = .hold ∧ r.shedder = some k then { r with state := .clear, shedder := none } else r)

/-! ## Group cycles (R136 to R157) -/

/-- An OPEN-GROUP is ignored, reported as merged, or creates the record, offers the ROSTER-LOST abort and handles every member by its state (R140 to
R142); an abort that is not taken acts last (log 22), and the detail of GROUP-REQUESTED is the sender, whatever station the tag names (log 50). A member
in an opening that will end in OFF is OPENING until it ends, as R142 has it, where the table of R138 has OFF: the model's choice (log 53). -/
def Obligations.OpenGroupOpensTheMembers : Prop :=
  ∀ (s u : State) (k : StationId) (p : OpenGroupPayload) (r : CycleRecord) (o : OutletId) (x : Outlet), x = u.outlet o →
    (k = s.station → u =
      { s.heardFrom k with
        groups := (s.heardFrom k).groups.map
          (fun e => if e.group = p.group ∧ e.pendingTag = some p.tag then { e with pendingTag := none } else e) }) →
    (k ≠ s.station → u = s.heardFrom k) →
    (r =
      { group := p.group, tag := p.tag, dwell := p.dwell, policy := p.policy, phase := .offPhase, awaited := u.roster p.group, early := 0
        gOpened := 0, gHeld := 0, gRestored := 0, gFailed := 0, offTimer := some (u.cfg.offGather * 1000), dwellTimer := none, onTimer := none
        abortOffered := false, offOffered := false, onOffered := false, outcome := none
        members := (allOutlets.filter (fun o => (u.outlet o).cfg.group == p.group)).map
          (fun o => ⟨o, (u.outlet o).statusAtOpen, (u.outlet o).statusAtOpen == .opened⟩) }) →
    (u.group? p.group = none ∨ u.link.state = .linkDown → s.applyOpenGroup k p = u) ∧
    ((u.group? p.group).isSome = true → u.link.state ≠ .linkDown →
      (∀ c, u.cycle? p.group = some c →
        (k = s.station → s.applyOpenGroup k p = u.post .groupMerged p.group c.tag.station.val c.tag.seq.val) ∧
        (k ≠ s.station → s.applyOpenGroup k p = u)) ∧
      (u.cycle? p.group = none → ∀ (q : State → State),
        (q = fun t => if k = s.station then t else t.post .groupRequested p.group k.val p.dwell) →
        ((∀ j, hasNumber (u.roster p.group) j = true → (u.peer j).state ≠ .lost) →
          s.applyOpenGroup k p =
            q (((u.members p.group).foldl State.openMember { u with records := insertRecord r u.records }).maybeGroupOff p.group)) ∧
        (∀ v j, hasNumber (u.roster p.group) j = true → (u.peer j).state = .lost →
          State.queueAbort { u with records := insertRecord r u.records } r .rosterLost = some v →
            s.applyOpenGroup k p = q (((u.members p.group).foldl State.openMember v).maybeGroupOff p.group)) ∧
        (∀ j, hasNumber (u.roster p.group) j = true → (u.peer j).state = .lost →
          State.queueAbort { u with records := insertRecord r u.records } r .rosterLost = none →
            s.applyOpenGroup k p =
              (q (((u.members p.group).foldl State.openMember
                (State.abortNotQueued { u with records := insertRecord r u.records } r)).maybeGroupOff p.group)).actAbort p.group .rosterLost))) ∧
    (x.statusAtOpen = if x.isProtected = true then .held else
      match x.state with
      | .on | .closing | .opening => .opening
      | .claiming | .dwell => .opened
      | .off | .tripped | .shed => .off) ∧
    (x.isProtected = true → u.openMember o = u) ∧
    (x.isProtected = false → ∀ y, y = { x with cycle := .group, target := .none } →
      (x.state = .on → u.openMember o = (u.withOutlet o { y with restoreIntent := true } (u.meter o)).enterOpening o) ∧
      (x.state = .claiming →
        u.openMember o =
          (u.leaveClaiming o).withOutlet o { y.idle .dwell with restoreIntent := true } { u.meter o with overCount := 0 }) ∧
      (x.state = .closing → x.pendingOff = false →
        u.openMember o = u.withOutlet o { y with restoreIntent := true, pendingOff := true } (u.meter o)) ∧
      (x.state = .dwell → u.openMember o = u.withOutlet o { y with stateTimer := none } (u.meter o)) ∧
      (x.state = .closing ∧ x.pendingOff = true ∨ x.state = .opening ∨ x.state = .off ∨ x.state = .tripped ∨ x.state = .shed →
        u.openMember o = u.withOutlet o y (u.meter o)))

/-- What the ends of a member's openings, closings and waits do to its status (R143, R144, R149, R154, R171). A member once counted as opened stays
counted (log 20), and one that an abort restores keeps the status OPEN (log 21). -/
def Obligations.MembersReportToTheirCycle : Prop :=
  ∀ (s : State) (o : OutletId) (g : Nat) (set : MemberStatus → State), g = (s.outlet o).cfg.group →
    (∀ st, set st = s.recordsWith g (fun r => { r with
      members := r.members.map (fun m =>
        if m.outlet = o then { m with status := st, wasOpened := m.wasOpened || st == .opened } else m) })) →
    ((s.cycle? g = none ∨ (∃ r, s.cycle? g = some r ∧ ∀ m ∈ r.members, m.outlet ≠ o) →
      s.noteOpened o = s ∧ s.noteRestored o = s ∧ s.noteFailed o = s ∧ s.noteClaiming o = s) ∧
    ∀ r m before after, s.cycle? g = some r → r.members = before ++ m :: after → m.outlet = o → (∀ n ∈ before, n.outlet ≠ o) →
      (m.status ≠ .opening → s.noteOpened o = s) ∧
      (m.status = .opening → (s.outlet o).state ≠ .dwell → s.noteOpened o = ((set .off).maybeGroupOff g).checkAbortDone g) ∧
      (m.status = .opening → (s.outlet o).state = .dwell → r.phase = .offPhase → s.noteOpened o = (set .opened).maybeGroupOff g) ∧
      (m.status = .opening → (s.outlet o).state = .dwell → r.phase = .restoringAbort →
        s.noteOpened o = ((set .opened).restoreByAbort o).checkAbortDone g) ∧
      (m.status = .restoring → s.noteRestored o = (set .restored).maybeGroupOn g ∧ s.noteFailed o = (set .failed).maybeGroupOn g) ∧
      (m.status ≠ .restoring → s.noteRestored o = s ∧ s.noteFailed o = s) ∧
      (m.status ≠ .off → s.noteClaiming o = s) ∧
      (m.status = .off → r.phase = .offPhase ∨ r.phase = .dwell →
        s.noteClaiming o = ((((s.leaveClaiming o).place o .dwell none).setRestore o true)).setStatus g o .opened) ∧
      (m.status = .off → r.phase = .onPhase → s.noteClaiming o = set .restoring) ∧
      (m.status = .off → r.phase = .restoringAbort →
        s.noteClaiming o = s.withOutlet o { s.outlet o with cycle := .none } (s.meter o)))

/-- GROUP-OFF and GROUP-ON offers, the awaited set, aborts and the end of a cycle (R143, R145, R149, R150, R152 to R157; log 20). The end of a cycle
releases every member, one that it held too (R136), a local cycle-member being kept (log 23), and a station leaves the awaited set in any phase, DONE
included (R155). The members of a record stand in outlet order, so that those restored are in restore order and then outlet order, each once (R154).
The frames that a GROUP-ABORT removes make room for it (R77, R78; log 39). -/
def Obligations.CyclesGatherAbortAndEnd : Prop :=
  ∀ (s : State) (g : Nat) (r : CycleRecord), s.record? g = some r →
    (∀ k b, b = s.recordsWith g (fun x => { x with awaited := removeNumber x.awaited k }) →
      (hasNumber r.awaited k = false → s.removeAwaited g k = s) ∧
      (hasNumber r.awaited k = true → (∃ j, j ≠ k ∧ hasNumber r.awaited j = true) → s.removeAwaited g k = b) ∧
      (hasNumber r.awaited k = true → (∀ j, hasNumber r.awaited j = true → j = k) →
        (r.phase = .offPhase →
          s.removeAwaited g k = b.recordsWith g (fun r => { r with phase := .dwell, offTimer := none, dwellTimer := some (r.dwell * 1000) })) ∧
        (r.phase = .onPhase → s.removeAwaited g k = b.finishCycle g .complete) ∧
        (r.phase ≠ .offPhase → r.phase ≠ .onPhase → s.removeAwaited g k = b))) ∧
    (s.cycle? g = some r →
    (∀ out, s.finishCycle g out =
      State.post (r.members.foldl
          (fun t m =>
            t.withOutlet m.outlet
              { t.outlet m.outlet with
                cycle := if (t.outlet m.outlet).cycle = .group then .none else (t.outlet m.outlet).cycle, restoreIntent := false }
              (t.meter m.outlet))
          (s.recordsWith g (fun r => { r with phase := .done, offTimer := none, dwellTimer := none, onTimer := none, outcome := some out })))
        .groupDone g (outcomeCode out) (r.gOpened * 2 ^ 24 + r.gHeld * 2 ^ 16 + r.gRestored * 2 ^ 8 + r.gFailed)) ∧
    (∀ reason,
      (r.phase = .offPhase ∨ r.phase = .dwell →
        ∃ l : List OutletId,
          s.actAbort g reason =
            (l.foldl State.restoreByAbort
              (s.recordsWith g (fun r => { r with
                phase := .restoringAbort, offTimer := none, dwellTimer := none, outcome := some (.aborted reason) }))).checkAbortDone g ∧
          (∀ o, o ∈ l ↔ (∃ m ∈ r.members, m.outlet = o ∧ m.status = .opened) ∧ (s.outlet o).state = .dwell) ∧
          l.Pairwise (fun o p => s.restoreOrder o ≤ s.restoreOrder p) ∧
          ((r.members.map (·.outlet)).Pairwise (· < ·) →
            l.Pairwise (fun o p => s.restoreOrder o < s.restoreOrder p ∨ s.restoreOrder o = s.restoreOrder p ∧ o < p))) ∧
      (r.phase = .onPhase → s.actAbort g reason = s.finishCycle g (.aborted reason)) ∧
      (r.phase = .restoringAbort → s.actAbort g reason = s)) ∧
    (∀ out, r.phase = .restoringAbort → r.outcome = some out →
      ((∀ m ∈ r.members, m.status ≠ .opening) → s.checkAbortDone g = s.finishCycle g out) ∧
      ((∃ m ∈ r.members, m.status = .opening) → s.checkAbortDone g = s)) ∧
    (∀ b : State, (r.phase = .offPhase ∧ (∀ m ∈ r.members, m.status ≠ .opening) ∧ r.abortOffered = false ∧ r.offOffered = false →
        b = s.recordsWith g (fun r => { r with offOffered := true }) →
        (∀ t, b.offer 7 (.groupOff ⟨r.tag, g, (r.members.filter (·.wasOpened)).length, (r.members.filter (·.status == .held)).length⟩) = some t →
          s.maybeGroupOff g = t) ∧
        (s.queueHasRoom = false → s.maybeGroupOff g = b.actAbort g .link)) ∧
      (r.phase = .onPhase ∧ (∀ m ∈ r.members, m.status ≠ .restoring) ∧ r.abortOffered = false ∧ r.onOffered = false →
        b = s.recordsWith g (fun r => { r with onOffered := true }) →
        (∀ t, b.offer 7 (.groupOn ⟨r.tag, g, (r.members.filter (·.status == .restored)).length, (r.members.filter (·.status == .failed)).length⟩) = some t →
          s.maybeGroupOn g = t) ∧
        (s.queueHasRoom = false → s.maybeGroupOn g = b.finishCycle g (.aborted .link)))) ∧
    (r.phase ≠ .offPhase ∨ (∃ m ∈ r.members, m.status = .opening) ∨ r.abortOffered = true ∨ r.offOffered = true → s.maybeGroupOff g = s) ∧
    (r.phase ≠ .onPhase ∨ (∃ m ∈ r.members, m.status = .restoring) ∨ r.abortOffered = true ∨ r.onOffered = true → s.maybeGroupOn g = s) ∧
    (∀ reason, (r.abortOffered = true → s.offerAbort g reason = s) ∧
      (r.abortOffered = false →
        (∀ t, s.queueAbort r reason = some t → s.offerAbort g reason = t) ∧
        (s.queueAbort r reason = none → s.offerAbort g reason = (s.abortNotQueued r).actAbort g (endReasonOf reason)))) ∧
    (∀ b : State, b = s.abortNotQueued r →
      b =
        { s.recordsWith r.group (fun x => { x with abortOffered := true }) with
          link := { s.link with
            queue := s.link.queue.filter (fun x => !isCycleFrameOf r.tag x.frame || s.isSending x)
            sending := s.link.sending.map (fun a => if isCycleFrameOf r.tag a.frame.frame = true then { a with removeAfter := true } else a) } } ∧
      ∀ reason,
        ((∃ x ∈ b.link.queue, isAbortOf r.tag x.frame = true) → s.queueAbort r reason = some b) ∧
        ((∀ x ∈ b.link.queue, isAbortOf r.tag x.frame = false) → s.queueAbort r reason = b.offer 7 (.groupAbort ⟨r.tag, r.group, reason⟩))))

/-- GROUP-OFF, GROUP-ON and GROUP-ABORT applied, the loss of a roster station, and the gather and dwell timers (R145 to R151, R153, R155, R158). The members
of a record stand in outlet order, so that those restored are in restore order and then outlet order, each once (R148). The time left passes with an expiry
(log 2), and claims made issuable follow (log 18). -/
def Obligations.GroupFramesAndTimersMoveTheCycle : Prop :=
  ∀ (s : State) (k : StationId) (g : Nat) (h : State), h = s.heardFrom k →
    (∀ p : GroupOffPayload, p.group = g →
      ((∀ r, h.cycle? g = some r → r.tag ≠ p.tag ∨ r.phase ≠ .offPhase ∨ hasNumber r.awaited k = false) → s.applyGroupOff k p = h) ∧
      (∀ r b, h.cycle? g = some r → r.tag = p.tag → r.phase = .offPhase → hasNumber r.awaited k = true →
        b = h.recordsWith g (fun r => { r with gOpened := min 255 (r.gOpened + p.opened), gHeld := min 255 (r.gHeld + p.held) }) →
        (r.policy = .lenient ∨ p.held = 0 → s.applyGroupOff k p = b.removeAwaited g k) ∧
        (r.policy = .strict → 0 < p.held →
          s.applyGroupOff k p = (b.recordsWith g (fun x => { x with awaited := removeNumber x.awaited k })).actAbort g .held))) ∧
    (∀ p : GroupOnPayload, p.group = g →
      ((∀ r, h.cycle? g = some r → r.tag ≠ p.tag ∨ r.phase = .offPhase ∨ r.phase = .restoringAbort) → s.applyGroupOn k p = h) ∧
      (∀ r b, h.cycle? g = some r → r.tag = p.tag →
        b = h.recordsWith g (fun r => { r with gRestored := min 255 (r.gRestored + p.restored), gFailed := min 255 (r.gFailed + p.failed) }) →
        (r.phase = .dwell → hasNumber (h.roster g) k = true →
          s.applyGroupOn k p = b.recordsWith g (fun x => { x with early := addNumber x.early k })) ∧
        (r.phase = .dwell → hasNumber (h.roster g) k = false → s.applyGroupOn k p = h) ∧
        (r.phase = .onPhase → hasNumber r.awaited k = true → s.applyGroupOn k p = b.removeAwaited g k) ∧
        (r.phase = .onPhase → hasNumber r.awaited k = false → s.applyGroupOn k p = h))) ∧
    (∀ p : GroupAbortPayload, p.group = g →
      ((∀ r, h.cycle? g = some r → r.tag ≠ p.tag) → s.applyGroupAbort k p = h) ∧
      (∀ r, h.cycle? g = some r → r.tag = p.tag → s.applyGroupAbort k p = h.actAbort g (endReasonOf p.reason))) ∧
    (∀ r, s.cycle? g = some r → hasNumber (s.roster g) k = true →
      (r.phase = .offPhase ∨ r.phase = .dwell → State.groupLost k s g = s.offerAbort g .peerLost) ∧
      (r.phase = .onPhase → State.groupLost k s g = s.removeAwaited g k) ∧ (r.phase = .restoringAbort → State.groupLost k s g = s)) ∧
    (s.cycle? g = none ∨ hasNumber (s.roster g) k = false → State.groupLost k s g = s) ∧
    ∀ (r : CycleRecord) (d : Nat) (a : State), s.inReset = false → s.cycle? g = some r → a = s.passTime d →
      (r.phase = .offPhase → r.offTimer = some d →
        exec (.offGatherExpiry g) s = .next ((a.recordsWith g (fun r => { r with offTimer := none })).offerAbort g .offTimeout).issueClaims) ∧
      (r.phase = .dwell → (∃ m ∈ r.members, (s.line (bankOf m.outlet)).state ≠ .normal) → exec (.dwellExpiry g) s = .next s) ∧
      (r.phase = .dwell → r.dwellTimer = some d → (∀ m ∈ r.members, (s.line (bankOf m.outlet)).state = .normal) →
        ∃ l : List OutletId, ∃ awaited : NumberSet,
          exec (.dwellExpiry g) s =
            .next (((l.foldl (State.restoreByDwell g) (a.recordsWith g (fun r => { r with dwellTimer := none }))).recordsWith g
              (fun r => { r with phase := .onPhase, awaited := awaited, onTimer := some (s.cfg.onGather * 1000) })).maybeGroupOn g).issueClaims ∧
          (∀ o, o ∈ l ↔ (∃ m ∈ r.members, m.outlet = o ∧ m.status = .opened) ∧ (s.outlet o).state = .dwell) ∧
          l.Pairwise (fun o p => s.restoreOrder o ≤ s.restoreOrder p) ∧
          ((r.members.map (·.outlet)).Pairwise (· < ·) →
            l.Pairwise (fun o p => s.restoreOrder o < s.restoreOrder p ∨ s.restoreOrder o = s.restoreOrder p ∧ o < p)) ∧
          ∀ j, hasNumber awaited j = true ↔ hasNumber (s.roster g) j = true ∧ (s.peer j).state ≠ .lost ∧ hasNumber r.early j = false) ∧
      (r.phase = .onPhase → r.onTimer = some d → exec (.onGatherExpiry g) s = .next (a.finishCycle g .incomplete))
end

