-- ==== Sys2Proof/Laws/Host.lean ====
section
/-! SUPPORT. What the operations of the host port can do: each of them changes the port and nothing else, and a frame ends with select high. The bytes of numbers and of frames. -/

namespace Sys2Proof.Machine

/-- Nothing but the host port differs. -/
def PortOnly (s t : State) : Prop := t = { s with port := t.port }

theorem PortOnly.refl (s : State) : PortOnly s s := rfl

theorem PortOnly.trans {s t u : State} (h : PortOnly s t) (k : PortOnly t u) : PortOnly s u := by
  unfold PortOnly at *; rw [k, h]

theorem PortOnly.ite {c : Prop} [Decidable c] {s t u : State} (h : PortOnly s t) (k : PortOnly s u) : PortOnly s (if c then t else u) := by
  split
  · exact h
  · exact k

theorem portOnly_modPort (s : State) (f : Port → Port) : PortOnly s (s.modPort f) := rfl
theorem portOnly_beginFrame (s : State) : PortOnly s s.beginFrame := rfl
theorem portOnly_openFrame (s : State) : PortOnly s s.openFrame := rfl
theorem portOnly_joinFrame (s : State) : PortOnly s s.joinFrame := .ite (.refl s) (portOnly_openFrame s)
theorem portOnly_closeFrame (s : State) : PortOnly s s.closeFrame := rfl
theorem portOnly_discardFrame (s : State) : PortOnly s s.discardFrame := rfl
theorem portOnly_rejectFrame (s : State) : PortOnly s s.rejectFrame := rfl
theorem portOnly_writeResult (s : State) (r : ResultSlot) : PortOnly s (s.writeResult r) := rfl
theorem portOnly_captureReply (s : State) (r : ReadRequest) : PortOnly s (s.captureReply r) := rfl

theorem portOnly_withCapture (s : State) (r : ReadRequest) : PortOnly s (s.withCapture r) := by
  unfold State.withCapture
  split
  · exact .ite (.refl s) (portOnly_captureReply s r)
  · exact portOnly_captureReply s r

theorem portOnly_finishRead (s : State) (c : Capture) : PortOnly s (s.finishRead c) := by
  unfold State.finishRead
  split <;> rfl

theorem portOnly_capturePort (s : State) (c : PortCapture) : PortOnly s (s.capturePort c) := by
  unfold State.capturePort
  split
  · exact .ite (portOnly_discardFrame s) (portOnly_beginFrame s)
  · exact .ite (portOnly_captureReply s _) (portOnly_discardFrame s)

/-! What the port holds after each of them. -/

@[simp] theorem beginFrame_port (s : State) :
    s.beginFrame.port = { s.port with select := .low, statusOut := s.statusByte, dataOut := [], capture := none } := rfl
@[simp] theorem openFrame_port (s : State) :
    s.openFrame.port = { s.port with select := .low, statusOut := s.frameStatus, dataOut := [], capture := none } := rfl
@[simp] theorem closeFrame_port (s : State) : s.closeFrame.port = { s.port with select := .high, capture := none } := rfl
@[simp] theorem discardFrame_port (s : State) : s.discardFrame.port = { s.port with select := .discarded, capture := none } := rfl
@[simp] theorem rejectFrame_port (s : State) : s.rejectFrame.port = { s.port with select := .high, capture := none, rej := true } := rfl
@[simp] theorem writeResult_port (s : State) (r : ResultSlot) :
    (s.writeResult r).port = { s.port with select := .high, capture := none, slot := r, res := true, rej := false } := rfl

/-- An accepted frame's port, and a refused one's, are the port with the frame opened and then closed with the result (R177). -/
theorem openFrame_writeResult_port (s : State) (r : ResultSlot) : (s.openFrame.writeResult r).port = s.portAfter r := rfl

theorem openFrame_writeResult (s : State) (r : ResultSlot) : s.openFrame.writeResult r = { s with port := s.portAfter r } := rfl

/-- A frame that the port takes runs; one met by a reset is closed (R175). -/
theorem atRising_taken {s : State} (h : s.takesHostFrames = true) (f : State → State) : s.atRising f = f s := by
  unfold State.atRising; rw [h]; rfl

theorem atRising_discarded {s : State} (h : s.takesHostFrames = false) (f : State → State) : s.atRising f = s.closeFrame := by
  unfold State.atRising; rw [h]; rfl

theorem takesHostFrames_iff (s : State) : s.takesHostFrames = true ↔ s.inReset = false ∧ s.port.select ≠ .discarded := by
  simp [State.takesHostFrames]

/-! The bytes of a reply and of a frame. -/

@[simp] theorem beBytes_length (w n : Nat) : (beBytes w n).length = w := by
  induction w with
  | zero => rfl
  | succ w ih => rw [beBytes, List.length_cons, ih]

/-- The byte at place `k` of a number is its digit of that place, most significant first (R189). -/
theorem beBytes_getElem? {w k : Nat} (n : Nat) (h : k < w) : (beBytes w n)[k]? = some (BitVec.ofNat 8 (n / 256 ^ (w - 1 - k))) := by
  induction w generalizing k with
  | zero => cases h
  | succ w ih =>
    cases k with
    | zero => rfl
    | succ k =>
      rw [beBytes, List.getElem?_cons_succ, ih (Nat.lt_of_succ_lt_succ h)]
      congr 4
      omega

/-- A flag's bit is its value at that place. -/
theorem bitAt_eq (k : Nat) (b : Bool) : bitAt k b = 2 ^ k * b.toNat := by cases b <;> simp [bitAt]

@[simp] theorem bytesOfBits_length : ∀ l : List Bool, (bytesOfBits l).length = l.length / 8
  | _ :: _ :: _ :: _ :: _ :: _ :: _ :: _ :: rest => by
    rw [bytesOfBits, List.length_cons, bytesOfBits_length rest]
    simp only [List.length_cons]
    omega
  | [] | [_] | [_, _] | [_, _, _] | [_, _, _, _] | [_, _, _, _, _] | [_, _, _, _, _, _] | [_, _, _, _, _, _, _] => by simp [bytesOfBits]

end Sys2Proof.Machine
end

