-- ==== Sys2Proof/Laws/Tab.lean ====
section
/-! SUPPORT. Reading a table after a write, a fill, a map: the facts every record lemma rests on. -/

namespace Sys2Proof

variable {α β : Type} {n : Nat}

@[simp] theorem Tab.get_set_self (t : Tab n α) (i : Fin n) (x : α) : (t.set i x).get i = x := by
  simp [Tab.get, Tab.set]

theorem Tab.get_set (t : Tab n α) (i j : Fin n) (x : α) : (t.set i x).get j = if j = i then x else t.get j := by
  by_cases h : j = i
  · subst h; simp
  · have h' : i.val ≠ j.val := fun e => h (Fin.ext e.symm)
    simp [Tab.get, Tab.set, h, h']

@[simp] theorem Tab.set_set (t : Tab n α) (i : Fin n) (x y : α) : (t.set i x).set i y = t.set i y := by
  simp [Tab.set]

@[simp] theorem Tab.set_get (t : Tab n α) (i : Fin n) : t.set i (t.get i) = t := by
  cases t; simp [Tab.set, Tab.get]

@[simp] theorem Tab.get_fill (x : α) (i : Fin n) : (Tab.fill n x).get i = x := by
  simp [Tab.get, Tab.fill]

theorem Tab.mapFrom_getElem (f : Nat → α → β) (k : Nat) (l : List α) (i : Nat) (h : i < (Tab.mapFrom f k l).length) :
    (Tab.mapFrom f k l)[i] = f (k + i) (l[i]'(by rw [Tab.mapFrom_length] at h; exact h)) := by
  induction l generalizing k i with
  | nil => simp [Tab.mapFrom] at h
  | cons x xs ih =>
    cases i with
    | zero => simp [Tab.mapFrom]
    | succ i => simp [Tab.mapFrom, ih, Nat.add_comm, Nat.add_left_comm]

@[simp] theorem Tab.get_mapIdx (f : Nat → α → β) (t : Tab n α) (i : Fin n) : (t.mapIdx f).get i = f i.val (t.get i) := by
  simp [Tab.get, Tab.mapIdx, Tab.mapFrom_getElem]

@[simp] theorem Banked.get_set_self (t : Banked α) (b : Bank) (x : α) : (t.set b x).get b = x := by cases b <;> rfl

@[simp] theorem Banked.set_set (t : Banked α) (b : Bank) (x y : α) : (t.set b x).set b y = t.set b y := by cases b <;> rfl

@[simp] theorem Banked.set_get (t : Banked α) (b : Bank) : t.set b (t.get b) = t := by cases b <;> rfl

theorem Banked.get_set (t : Banked α) (b c : Bank) (x : α) : (t.set b x).get c = if c = b then x else t.get c := by
  cases b <;> cases c <;> rfl

@[simp] theorem Banked.get_fill (x : α) (b : Bank) : (Banked.fill x).get b = x := by cases b <;> rfl

@[simp] theorem Banked.get_build (f : Bank → α) (b : Bank) : (Banked.build f).get b = f b := by cases b <;> rfl

@[simp] theorem Banked.get_map (f : α → β) (t : Banked α) (b : Bank) : (t.map f).get b = f (t.get b) := by cases b <;> rfl

end Sys2Proof
end

