-- ==== Sys2Proof/Laws/State.lean ====
section
/-! SUPPORT. What each update of a record leaves, field by field: every line holds by computation. -/

namespace Sys2Proof.Machine

@[simp] theorem setOutlet_pending (s : State) o x : (s.setOutlet o x).pending = s.pending := rfl
@[simp] theorem setOutlet_inReset (s : State) o x : (s.setOutlet o x).inReset = s.inReset := rfl
@[simp] theorem setOutlet_jumperPins (s : State) o x : (s.setOutlet o x).jumperPins = s.jumperPins := rfl
@[simp] theorem setOutlet_lockPin (s : State) o x : (s.setOutlet o x).lockPin = s.lockPin := rfl
@[simp] theorem setOutlet_serial (s : State) o x : (s.setOutlet o x).serial = s.serial := rfl
@[simp] theorem setOutlet_boardTime (s : State) o x : (s.setOutlet o x).boardTime = s.boardTime := rfl
@[simp] theorem setOutlet_phase (s : State) o x : (s.setOutlet o x).phase = s.phase := rfl
@[simp] theorem setOutlet_station (s : State) o x : (s.setOutlet o x).station = s.station := rfl
@[simp] theorem setOutlet_lke (s : State) o x : (s.setOutlet o x).lke = s.lke := rfl
@[simp] theorem setOutlet_lockSample (s : State) o x : (s.setOutlet o x).lockSample = s.lockSample := rfl
@[simp] theorem setOutlet_cfg (s : State) o x : (s.setOutlet o x).cfg = s.cfg := rfl
@[simp] theorem setOutlet_banks (s : State) o x : (s.setOutlet o x).banks = s.banks := rfl
@[simp] theorem setOutlet_profiles (s : State) o x : (s.setOutlet o x).profiles = s.profiles := rfl
@[simp] theorem setOutlet_restoreSet (s : State) o x : (s.setOutlet o x).restoreSet = s.restoreSet := rfl
@[simp] theorem setOutlet_startRestored (s : State) o x : (s.setOutlet o x).startRestored = s.startRestored := rfl
@[simp] theorem setOutlet_meters (s : State) o x : (s.setOutlet o x).meters = s.meters := rfl
@[simp] theorem setOutlet_windows (s : State) o x : (s.setOutlet o x).windows = s.windows := rfl
@[simp] theorem setOutlet_lines (s : State) o x : (s.setOutlet o x).lines = s.lines := rfl
@[simp] theorem setOutlet_link (s : State) o x : (s.setOutlet o x).link = s.link := rfl
@[simp] theorem setOutlet_peers (s : State) o x : (s.setOutlet o x).peers = s.peers := rfl
@[simp] theorem setOutlet_conflicts (s : State) o x : (s.setOutlet o x).conflicts = s.conflicts := rfl
@[simp] theorem setOutlet_queues (s : State) o x : (s.setOutlet o x).queues = s.queues := rfl
@[simp] theorem setOutlet_claims (s : State) o x : (s.setOutlet o x).claims = s.claims := rfl
@[simp] theorem setOutlet_overload (s : State) o x : (s.setOutlet o x).overload = s.overload := rfl
@[simp] theorem setOutlet_groups (s : State) o x : (s.setOutlet o x).groups = s.groups := rfl
@[simp] theorem setOutlet_records (s : State) o x : (s.setOutlet o x).records = s.records := rfl
@[simp] theorem setOutlet_seq (s : State) o x : (s.setOutlet o x).seq = s.seq := rfl
@[simp] theorem setOutlet_port (s : State) o x : (s.setOutlet o x).port = s.port := rfl

@[simp] theorem modOutlet_pending (s : State) o f : (s.modOutlet o f).pending = s.pending := rfl
@[simp] theorem modOutlet_inReset (s : State) o f : (s.modOutlet o f).inReset = s.inReset := rfl
@[simp] theorem modOutlet_jumperPins (s : State) o f : (s.modOutlet o f).jumperPins = s.jumperPins := rfl
@[simp] theorem modOutlet_lockPin (s : State) o f : (s.modOutlet o f).lockPin = s.lockPin := rfl
@[simp] theorem modOutlet_serial (s : State) o f : (s.modOutlet o f).serial = s.serial := rfl
@[simp] theorem modOutlet_boardTime (s : State) o f : (s.modOutlet o f).boardTime = s.boardTime := rfl
@[simp] theorem modOutlet_phase (s : State) o f : (s.modOutlet o f).phase = s.phase := rfl
@[simp] theorem modOutlet_station (s : State) o f : (s.modOutlet o f).station = s.station := rfl
@[simp] theorem modOutlet_lke (s : State) o f : (s.modOutlet o f).lke = s.lke := rfl
@[simp] theorem modOutlet_lockSample (s : State) o f : (s.modOutlet o f).lockSample = s.lockSample := rfl
@[simp] theorem modOutlet_cfg (s : State) o f : (s.modOutlet o f).cfg = s.cfg := rfl
@[simp] theorem modOutlet_banks (s : State) o f : (s.modOutlet o f).banks = s.banks := rfl
@[simp] theorem modOutlet_profiles (s : State) o f : (s.modOutlet o f).profiles = s.profiles := rfl
@[simp] theorem modOutlet_restoreSet (s : State) o f : (s.modOutlet o f).restoreSet = s.restoreSet := rfl
@[simp] theorem modOutlet_startRestored (s : State) o f : (s.modOutlet o f).startRestored = s.startRestored := rfl
@[simp] theorem modOutlet_meters (s : State) o f : (s.modOutlet o f).meters = s.meters := rfl
@[simp] theorem modOutlet_windows (s : State) o f : (s.modOutlet o f).windows = s.windows := rfl
@[simp] theorem modOutlet_lines (s : State) o f : (s.modOutlet o f).lines = s.lines := rfl
@[simp] theorem modOutlet_link (s : State) o f : (s.modOutlet o f).link = s.link := rfl
@[simp] theorem modOutlet_peers (s : State) o f : (s.modOutlet o f).peers = s.peers := rfl
@[simp] theorem modOutlet_conflicts (s : State) o f : (s.modOutlet o f).conflicts = s.conflicts := rfl
@[simp] theorem modOutlet_queues (s : State) o f : (s.modOutlet o f).queues = s.queues := rfl
@[simp] theorem modOutlet_claims (s : State) o f : (s.modOutlet o f).claims = s.claims := rfl
@[simp] theorem modOutlet_overload (s : State) o f : (s.modOutlet o f).overload = s.overload := rfl
@[simp] theorem modOutlet_groups (s : State) o f : (s.modOutlet o f).groups = s.groups := rfl
@[simp] theorem modOutlet_records (s : State) o f : (s.modOutlet o f).records = s.records := rfl
@[simp] theorem modOutlet_seq (s : State) o f : (s.modOutlet o f).seq = s.seq := rfl
@[simp] theorem modOutlet_port (s : State) o f : (s.modOutlet o f).port = s.port := rfl

@[simp] theorem modMeter_pending (s : State) o f : (s.modMeter o f).pending = s.pending := rfl
@[simp] theorem modMeter_inReset (s : State) o f : (s.modMeter o f).inReset = s.inReset := rfl
@[simp] theorem modMeter_jumperPins (s : State) o f : (s.modMeter o f).jumperPins = s.jumperPins := rfl
@[simp] theorem modMeter_lockPin (s : State) o f : (s.modMeter o f).lockPin = s.lockPin := rfl
@[simp] theorem modMeter_serial (s : State) o f : (s.modMeter o f).serial = s.serial := rfl
@[simp] theorem modMeter_boardTime (s : State) o f : (s.modMeter o f).boardTime = s.boardTime := rfl
@[simp] theorem modMeter_phase (s : State) o f : (s.modMeter o f).phase = s.phase := rfl
@[simp] theorem modMeter_station (s : State) o f : (s.modMeter o f).station = s.station := rfl
@[simp] theorem modMeter_lke (s : State) o f : (s.modMeter o f).lke = s.lke := rfl
@[simp] theorem modMeter_lockSample (s : State) o f : (s.modMeter o f).lockSample = s.lockSample := rfl
@[simp] theorem modMeter_cfg (s : State) o f : (s.modMeter o f).cfg = s.cfg := rfl
@[simp] theorem modMeter_banks (s : State) o f : (s.modMeter o f).banks = s.banks := rfl
@[simp] theorem modMeter_profiles (s : State) o f : (s.modMeter o f).profiles = s.profiles := rfl
@[simp] theorem modMeter_restoreSet (s : State) o f : (s.modMeter o f).restoreSet = s.restoreSet := rfl
@[simp] theorem modMeter_startRestored (s : State) o f : (s.modMeter o f).startRestored = s.startRestored := rfl
@[simp] theorem modMeter_outlets (s : State) o f : (s.modMeter o f).outlets = s.outlets := rfl
@[simp] theorem modMeter_windows (s : State) o f : (s.modMeter o f).windows = s.windows := rfl
@[simp] theorem modMeter_lines (s : State) o f : (s.modMeter o f).lines = s.lines := rfl
@[simp] theorem modMeter_link (s : State) o f : (s.modMeter o f).link = s.link := rfl
@[simp] theorem modMeter_peers (s : State) o f : (s.modMeter o f).peers = s.peers := rfl
@[simp] theorem modMeter_conflicts (s : State) o f : (s.modMeter o f).conflicts = s.conflicts := rfl
@[simp] theorem modMeter_queues (s : State) o f : (s.modMeter o f).queues = s.queues := rfl
@[simp] theorem modMeter_claims (s : State) o f : (s.modMeter o f).claims = s.claims := rfl
@[simp] theorem modMeter_overload (s : State) o f : (s.modMeter o f).overload = s.overload := rfl
@[simp] theorem modMeter_groups (s : State) o f : (s.modMeter o f).groups = s.groups := rfl
@[simp] theorem modMeter_records (s : State) o f : (s.modMeter o f).records = s.records := rfl
@[simp] theorem modMeter_seq (s : State) o f : (s.modMeter o f).seq = s.seq := rfl
@[simp] theorem modMeter_port (s : State) o f : (s.modMeter o f).port = s.port := rfl

@[simp] theorem modWindow_pending (s : State) b f : (s.modWindow b f).pending = s.pending := rfl
@[simp] theorem modWindow_inReset (s : State) b f : (s.modWindow b f).inReset = s.inReset := rfl
@[simp] theorem modWindow_jumperPins (s : State) b f : (s.modWindow b f).jumperPins = s.jumperPins := rfl
@[simp] theorem modWindow_lockPin (s : State) b f : (s.modWindow b f).lockPin = s.lockPin := rfl
@[simp] theorem modWindow_serial (s : State) b f : (s.modWindow b f).serial = s.serial := rfl
@[simp] theorem modWindow_boardTime (s : State) b f : (s.modWindow b f).boardTime = s.boardTime := rfl
@[simp] theorem modWindow_phase (s : State) b f : (s.modWindow b f).phase = s.phase := rfl
@[simp] theorem modWindow_station (s : State) b f : (s.modWindow b f).station = s.station := rfl
@[simp] theorem modWindow_lke (s : State) b f : (s.modWindow b f).lke = s.lke := rfl
@[simp] theorem modWindow_lockSample (s : State) b f : (s.modWindow b f).lockSample = s.lockSample := rfl
@[simp] theorem modWindow_cfg (s : State) b f : (s.modWindow b f).cfg = s.cfg := rfl
@[simp] theorem modWindow_banks (s : State) b f : (s.modWindow b f).banks = s.banks := rfl
@[simp] theorem modWindow_profiles (s : State) b f : (s.modWindow b f).profiles = s.profiles := rfl
@[simp] theorem modWindow_restoreSet (s : State) b f : (s.modWindow b f).restoreSet = s.restoreSet := rfl
@[simp] theorem modWindow_startRestored (s : State) b f : (s.modWindow b f).startRestored = s.startRestored := rfl
@[simp] theorem modWindow_outlets (s : State) b f : (s.modWindow b f).outlets = s.outlets := rfl
@[simp] theorem modWindow_meters (s : State) b f : (s.modWindow b f).meters = s.meters := rfl
@[simp] theorem modWindow_lines (s : State) b f : (s.modWindow b f).lines = s.lines := rfl
@[simp] theorem modWindow_link (s : State) b f : (s.modWindow b f).link = s.link := rfl
@[simp] theorem modWindow_peers (s : State) b f : (s.modWindow b f).peers = s.peers := rfl
@[simp] theorem modWindow_conflicts (s : State) b f : (s.modWindow b f).conflicts = s.conflicts := rfl
@[simp] theorem modWindow_queues (s : State) b f : (s.modWindow b f).queues = s.queues := rfl
@[simp] theorem modWindow_claims (s : State) b f : (s.modWindow b f).claims = s.claims := rfl
@[simp] theorem modWindow_overload (s : State) b f : (s.modWindow b f).overload = s.overload := rfl
@[simp] theorem modWindow_groups (s : State) b f : (s.modWindow b f).groups = s.groups := rfl
@[simp] theorem modWindow_records (s : State) b f : (s.modWindow b f).records = s.records := rfl
@[simp] theorem modWindow_seq (s : State) b f : (s.modWindow b f).seq = s.seq := rfl
@[simp] theorem modWindow_port (s : State) b f : (s.modWindow b f).port = s.port := rfl

@[simp] theorem modLine_pending (s : State) b f : (s.modLine b f).pending = s.pending := rfl
@[simp] theorem modLine_inReset (s : State) b f : (s.modLine b f).inReset = s.inReset := rfl
@[simp] theorem modLine_jumperPins (s : State) b f : (s.modLine b f).jumperPins = s.jumperPins := rfl
@[simp] theorem modLine_lockPin (s : State) b f : (s.modLine b f).lockPin = s.lockPin := rfl
@[simp] theorem modLine_serial (s : State) b f : (s.modLine b f).serial = s.serial := rfl
@[simp] theorem modLine_boardTime (s : State) b f : (s.modLine b f).boardTime = s.boardTime := rfl
@[simp] theorem modLine_phase (s : State) b f : (s.modLine b f).phase = s.phase := rfl
@[simp] theorem modLine_station (s : State) b f : (s.modLine b f).station = s.station := rfl
@[simp] theorem modLine_lke (s : State) b f : (s.modLine b f).lke = s.lke := rfl
@[simp] theorem modLine_lockSample (s : State) b f : (s.modLine b f).lockSample = s.lockSample := rfl
@[simp] theorem modLine_cfg (s : State) b f : (s.modLine b f).cfg = s.cfg := rfl
@[simp] theorem modLine_banks (s : State) b f : (s.modLine b f).banks = s.banks := rfl
@[simp] theorem modLine_profiles (s : State) b f : (s.modLine b f).profiles = s.profiles := rfl
@[simp] theorem modLine_restoreSet (s : State) b f : (s.modLine b f).restoreSet = s.restoreSet := rfl
@[simp] theorem modLine_startRestored (s : State) b f : (s.modLine b f).startRestored = s.startRestored := rfl
@[simp] theorem modLine_outlets (s : State) b f : (s.modLine b f).outlets = s.outlets := rfl
@[simp] theorem modLine_meters (s : State) b f : (s.modLine b f).meters = s.meters := rfl
@[simp] theorem modLine_windows (s : State) b f : (s.modLine b f).windows = s.windows := rfl
@[simp] theorem modLine_link (s : State) b f : (s.modLine b f).link = s.link := rfl
@[simp] theorem modLine_peers (s : State) b f : (s.modLine b f).peers = s.peers := rfl
@[simp] theorem modLine_conflicts (s : State) b f : (s.modLine b f).conflicts = s.conflicts := rfl
@[simp] theorem modLine_queues (s : State) b f : (s.modLine b f).queues = s.queues := rfl
@[simp] theorem modLine_claims (s : State) b f : (s.modLine b f).claims = s.claims := rfl
@[simp] theorem modLine_overload (s : State) b f : (s.modLine b f).overload = s.overload := rfl
@[simp] theorem modLine_groups (s : State) b f : (s.modLine b f).groups = s.groups := rfl
@[simp] theorem modLine_records (s : State) b f : (s.modLine b f).records = s.records := rfl
@[simp] theorem modLine_seq (s : State) b f : (s.modLine b f).seq = s.seq := rfl
@[simp] theorem modLine_port (s : State) b f : (s.modLine b f).port = s.port := rfl

@[simp] theorem modPeer_pending (s : State) k f : (s.modPeer k f).pending = s.pending := rfl
@[simp] theorem modPeer_inReset (s : State) k f : (s.modPeer k f).inReset = s.inReset := rfl
@[simp] theorem modPeer_jumperPins (s : State) k f : (s.modPeer k f).jumperPins = s.jumperPins := rfl
@[simp] theorem modPeer_lockPin (s : State) k f : (s.modPeer k f).lockPin = s.lockPin := rfl
@[simp] theorem modPeer_serial (s : State) k f : (s.modPeer k f).serial = s.serial := rfl
@[simp] theorem modPeer_boardTime (s : State) k f : (s.modPeer k f).boardTime = s.boardTime := rfl
@[simp] theorem modPeer_phase (s : State) k f : (s.modPeer k f).phase = s.phase := rfl
@[simp] theorem modPeer_station (s : State) k f : (s.modPeer k f).station = s.station := rfl
@[simp] theorem modPeer_lke (s : State) k f : (s.modPeer k f).lke = s.lke := rfl
@[simp] theorem modPeer_lockSample (s : State) k f : (s.modPeer k f).lockSample = s.lockSample := rfl
@[simp] theorem modPeer_cfg (s : State) k f : (s.modPeer k f).cfg = s.cfg := rfl
@[simp] theorem modPeer_banks (s : State) k f : (s.modPeer k f).banks = s.banks := rfl
@[simp] theorem modPeer_profiles (s : State) k f : (s.modPeer k f).profiles = s.profiles := rfl
@[simp] theorem modPeer_restoreSet (s : State) k f : (s.modPeer k f).restoreSet = s.restoreSet := rfl
@[simp] theorem modPeer_startRestored (s : State) k f : (s.modPeer k f).startRestored = s.startRestored := rfl
@[simp] theorem modPeer_outlets (s : State) k f : (s.modPeer k f).outlets = s.outlets := rfl
@[simp] theorem modPeer_meters (s : State) k f : (s.modPeer k f).meters = s.meters := rfl
@[simp] theorem modPeer_windows (s : State) k f : (s.modPeer k f).windows = s.windows := rfl
@[simp] theorem modPeer_lines (s : State) k f : (s.modPeer k f).lines = s.lines := rfl
@[simp] theorem modPeer_link (s : State) k f : (s.modPeer k f).link = s.link := rfl
@[simp] theorem modPeer_conflicts (s : State) k f : (s.modPeer k f).conflicts = s.conflicts := rfl
@[simp] theorem modPeer_queues (s : State) k f : (s.modPeer k f).queues = s.queues := rfl
@[simp] theorem modPeer_claims (s : State) k f : (s.modPeer k f).claims = s.claims := rfl
@[simp] theorem modPeer_overload (s : State) k f : (s.modPeer k f).overload = s.overload := rfl
@[simp] theorem modPeer_groups (s : State) k f : (s.modPeer k f).groups = s.groups := rfl
@[simp] theorem modPeer_records (s : State) k f : (s.modPeer k f).records = s.records := rfl
@[simp] theorem modPeer_seq (s : State) k f : (s.modPeer k f).seq = s.seq := rfl
@[simp] theorem modPeer_port (s : State) k f : (s.modPeer k f).port = s.port := rfl

@[simp] theorem setQueue_pending (s : State) b q : (s.setQueue b q).pending = s.pending := rfl
@[simp] theorem setQueue_inReset (s : State) b q : (s.setQueue b q).inReset = s.inReset := rfl
@[simp] theorem setQueue_jumperPins (s : State) b q : (s.setQueue b q).jumperPins = s.jumperPins := rfl
@[simp] theorem setQueue_lockPin (s : State) b q : (s.setQueue b q).lockPin = s.lockPin := rfl
@[simp] theorem setQueue_serial (s : State) b q : (s.setQueue b q).serial = s.serial := rfl
@[simp] theorem setQueue_boardTime (s : State) b q : (s.setQueue b q).boardTime = s.boardTime := rfl
@[simp] theorem setQueue_phase (s : State) b q : (s.setQueue b q).phase = s.phase := rfl
@[simp] theorem setQueue_station (s : State) b q : (s.setQueue b q).station = s.station := rfl
@[simp] theorem setQueue_lke (s : State) b q : (s.setQueue b q).lke = s.lke := rfl
@[simp] theorem setQueue_lockSample (s : State) b q : (s.setQueue b q).lockSample = s.lockSample := rfl
@[simp] theorem setQueue_cfg (s : State) b q : (s.setQueue b q).cfg = s.cfg := rfl
@[simp] theorem setQueue_banks (s : State) b q : (s.setQueue b q).banks = s.banks := rfl
@[simp] theorem setQueue_profiles (s : State) b q : (s.setQueue b q).profiles = s.profiles := rfl
@[simp] theorem setQueue_restoreSet (s : State) b q : (s.setQueue b q).restoreSet = s.restoreSet := rfl
@[simp] theorem setQueue_startRestored (s : State) b q : (s.setQueue b q).startRestored = s.startRestored := rfl
@[simp] theorem setQueue_outlets (s : State) b q : (s.setQueue b q).outlets = s.outlets := rfl
@[simp] theorem setQueue_meters (s : State) b q : (s.setQueue b q).meters = s.meters := rfl
@[simp] theorem setQueue_windows (s : State) b q : (s.setQueue b q).windows = s.windows := rfl
@[simp] theorem setQueue_lines (s : State) b q : (s.setQueue b q).lines = s.lines := rfl
@[simp] theorem setQueue_link (s : State) b q : (s.setQueue b q).link = s.link := rfl
@[simp] theorem setQueue_peers (s : State) b q : (s.setQueue b q).peers = s.peers := rfl
@[simp] theorem setQueue_conflicts (s : State) b q : (s.setQueue b q).conflicts = s.conflicts := rfl
@[simp] theorem setQueue_claims (s : State) b q : (s.setQueue b q).claims = s.claims := rfl
@[simp] theorem setQueue_overload (s : State) b q : (s.setQueue b q).overload = s.overload := rfl
@[simp] theorem setQueue_groups (s : State) b q : (s.setQueue b q).groups = s.groups := rfl
@[simp] theorem setQueue_records (s : State) b q : (s.setQueue b q).records = s.records := rfl
@[simp] theorem setQueue_seq (s : State) b q : (s.setQueue b q).seq = s.seq := rfl
@[simp] theorem setQueue_port (s : State) b q : (s.setQueue b q).port = s.port := rfl

@[simp] theorem modClaim_pending (s : State) b f : (s.modClaim b f).pending = s.pending := rfl
@[simp] theorem modClaim_inReset (s : State) b f : (s.modClaim b f).inReset = s.inReset := rfl
@[simp] theorem modClaim_jumperPins (s : State) b f : (s.modClaim b f).jumperPins = s.jumperPins := rfl
@[simp] theorem modClaim_lockPin (s : State) b f : (s.modClaim b f).lockPin = s.lockPin := rfl
@[simp] theorem modClaim_serial (s : State) b f : (s.modClaim b f).serial = s.serial := rfl
@[simp] theorem modClaim_boardTime (s : State) b f : (s.modClaim b f).boardTime = s.boardTime := rfl
@[simp] theorem modClaim_phase (s : State) b f : (s.modClaim b f).phase = s.phase := rfl
@[simp] theorem modClaim_station (s : State) b f : (s.modClaim b f).station = s.station := rfl
@[simp] theorem modClaim_lke (s : State) b f : (s.modClaim b f).lke = s.lke := rfl
@[simp] theorem modClaim_lockSample (s : State) b f : (s.modClaim b f).lockSample = s.lockSample := rfl
@[simp] theorem modClaim_cfg (s : State) b f : (s.modClaim b f).cfg = s.cfg := rfl
@[simp] theorem modClaim_banks (s : State) b f : (s.modClaim b f).banks = s.banks := rfl
@[simp] theorem modClaim_profiles (s : State) b f : (s.modClaim b f).profiles = s.profiles := rfl
@[simp] theorem modClaim_restoreSet (s : State) b f : (s.modClaim b f).restoreSet = s.restoreSet := rfl
@[simp] theorem modClaim_startRestored (s : State) b f : (s.modClaim b f).startRestored = s.startRestored := rfl
@[simp] theorem modClaim_outlets (s : State) b f : (s.modClaim b f).outlets = s.outlets := rfl
@[simp] theorem modClaim_meters (s : State) b f : (s.modClaim b f).meters = s.meters := rfl
@[simp] theorem modClaim_windows (s : State) b f : (s.modClaim b f).windows = s.windows := rfl
@[simp] theorem modClaim_lines (s : State) b f : (s.modClaim b f).lines = s.lines := rfl
@[simp] theorem modClaim_link (s : State) b f : (s.modClaim b f).link = s.link := rfl
@[simp] theorem modClaim_peers (s : State) b f : (s.modClaim b f).peers = s.peers := rfl
@[simp] theorem modClaim_conflicts (s : State) b f : (s.modClaim b f).conflicts = s.conflicts := rfl
@[simp] theorem modClaim_queues (s : State) b f : (s.modClaim b f).queues = s.queues := rfl
@[simp] theorem modClaim_overload (s : State) b f : (s.modClaim b f).overload = s.overload := rfl
@[simp] theorem modClaim_groups (s : State) b f : (s.modClaim b f).groups = s.groups := rfl
@[simp] theorem modClaim_records (s : State) b f : (s.modClaim b f).records = s.records := rfl
@[simp] theorem modClaim_seq (s : State) b f : (s.modClaim b f).seq = s.seq := rfl
@[simp] theorem modClaim_port (s : State) b f : (s.modClaim b f).port = s.port := rfl

@[simp] theorem modOver_pending (s : State) n f : (s.modOver n f).pending = s.pending := rfl
@[simp] theorem modOver_inReset (s : State) n f : (s.modOver n f).inReset = s.inReset := rfl
@[simp] theorem modOver_jumperPins (s : State) n f : (s.modOver n f).jumperPins = s.jumperPins := rfl
@[simp] theorem modOver_lockPin (s : State) n f : (s.modOver n f).lockPin = s.lockPin := rfl
@[simp] theorem modOver_serial (s : State) n f : (s.modOver n f).serial = s.serial := rfl
@[simp] theorem modOver_boardTime (s : State) n f : (s.modOver n f).boardTime = s.boardTime := rfl
@[simp] theorem modOver_phase (s : State) n f : (s.modOver n f).phase = s.phase := rfl
@[simp] theorem modOver_station (s : State) n f : (s.modOver n f).station = s.station := rfl
@[simp] theorem modOver_lke (s : State) n f : (s.modOver n f).lke = s.lke := rfl
@[simp] theorem modOver_lockSample (s : State) n f : (s.modOver n f).lockSample = s.lockSample := rfl
@[simp] theorem modOver_cfg (s : State) n f : (s.modOver n f).cfg = s.cfg := rfl
@[simp] theorem modOver_banks (s : State) n f : (s.modOver n f).banks = s.banks := rfl
@[simp] theorem modOver_profiles (s : State) n f : (s.modOver n f).profiles = s.profiles := rfl
@[simp] theorem modOver_restoreSet (s : State) n f : (s.modOver n f).restoreSet = s.restoreSet := rfl
@[simp] theorem modOver_startRestored (s : State) n f : (s.modOver n f).startRestored = s.startRestored := rfl
@[simp] theorem modOver_outlets (s : State) n f : (s.modOver n f).outlets = s.outlets := rfl
@[simp] theorem modOver_meters (s : State) n f : (s.modOver n f).meters = s.meters := rfl
@[simp] theorem modOver_windows (s : State) n f : (s.modOver n f).windows = s.windows := rfl
@[simp] theorem modOver_lines (s : State) n f : (s.modOver n f).lines = s.lines := rfl
@[simp] theorem modOver_link (s : State) n f : (s.modOver n f).link = s.link := rfl
@[simp] theorem modOver_peers (s : State) n f : (s.modOver n f).peers = s.peers := rfl
@[simp] theorem modOver_conflicts (s : State) n f : (s.modOver n f).conflicts = s.conflicts := rfl
@[simp] theorem modOver_queues (s : State) n f : (s.modOver n f).queues = s.queues := rfl
@[simp] theorem modOver_claims (s : State) n f : (s.modOver n f).claims = s.claims := rfl
@[simp] theorem modOver_groups (s : State) n f : (s.modOver n f).groups = s.groups := rfl
@[simp] theorem modOver_records (s : State) n f : (s.modOver n f).records = s.records := rfl
@[simp] theorem modOver_seq (s : State) n f : (s.modOver n f).seq = s.seq := rfl
@[simp] theorem modOver_port (s : State) n f : (s.modOver n f).port = s.port := rfl

@[simp] theorem modLink_pending (s : State) f : (s.modLink f).pending = s.pending := rfl
@[simp] theorem modLink_inReset (s : State) f : (s.modLink f).inReset = s.inReset := rfl
@[simp] theorem modLink_jumperPins (s : State) f : (s.modLink f).jumperPins = s.jumperPins := rfl
@[simp] theorem modLink_lockPin (s : State) f : (s.modLink f).lockPin = s.lockPin := rfl
@[simp] theorem modLink_serial (s : State) f : (s.modLink f).serial = s.serial := rfl
@[simp] theorem modLink_boardTime (s : State) f : (s.modLink f).boardTime = s.boardTime := rfl
@[simp] theorem modLink_phase (s : State) f : (s.modLink f).phase = s.phase := rfl
@[simp] theorem modLink_station (s : State) f : (s.modLink f).station = s.station := rfl
@[simp] theorem modLink_lke (s : State) f : (s.modLink f).lke = s.lke := rfl
@[simp] theorem modLink_lockSample (s : State) f : (s.modLink f).lockSample = s.lockSample := rfl
@[simp] theorem modLink_cfg (s : State) f : (s.modLink f).cfg = s.cfg := rfl
@[simp] theorem modLink_banks (s : State) f : (s.modLink f).banks = s.banks := rfl
@[simp] theorem modLink_profiles (s : State) f : (s.modLink f).profiles = s.profiles := rfl
@[simp] theorem modLink_restoreSet (s : State) f : (s.modLink f).restoreSet = s.restoreSet := rfl
@[simp] theorem modLink_startRestored (s : State) f : (s.modLink f).startRestored = s.startRestored := rfl
@[simp] theorem modLink_outlets (s : State) f : (s.modLink f).outlets = s.outlets := rfl
@[simp] theorem modLink_meters (s : State) f : (s.modLink f).meters = s.meters := rfl
@[simp] theorem modLink_windows (s : State) f : (s.modLink f).windows = s.windows := rfl
@[simp] theorem modLink_lines (s : State) f : (s.modLink f).lines = s.lines := rfl
@[simp] theorem modLink_peers (s : State) f : (s.modLink f).peers = s.peers := rfl
@[simp] theorem modLink_conflicts (s : State) f : (s.modLink f).conflicts = s.conflicts := rfl
@[simp] theorem modLink_queues (s : State) f : (s.modLink f).queues = s.queues := rfl
@[simp] theorem modLink_claims (s : State) f : (s.modLink f).claims = s.claims := rfl
@[simp] theorem modLink_overload (s : State) f : (s.modLink f).overload = s.overload := rfl
@[simp] theorem modLink_groups (s : State) f : (s.modLink f).groups = s.groups := rfl
@[simp] theorem modLink_records (s : State) f : (s.modLink f).records = s.records := rfl
@[simp] theorem modLink_seq (s : State) f : (s.modLink f).seq = s.seq := rfl
@[simp] theorem modLink_port (s : State) f : (s.modLink f).port = s.port := rfl

@[simp] theorem modPort_pending (s : State) f : (s.modPort f).pending = s.pending := rfl
@[simp] theorem modPort_inReset (s : State) f : (s.modPort f).inReset = s.inReset := rfl
@[simp] theorem modPort_jumperPins (s : State) f : (s.modPort f).jumperPins = s.jumperPins := rfl
@[simp] theorem modPort_lockPin (s : State) f : (s.modPort f).lockPin = s.lockPin := rfl
@[simp] theorem modPort_serial (s : State) f : (s.modPort f).serial = s.serial := rfl
@[simp] theorem modPort_boardTime (s : State) f : (s.modPort f).boardTime = s.boardTime := rfl
@[simp] theorem modPort_phase (s : State) f : (s.modPort f).phase = s.phase := rfl
@[simp] theorem modPort_station (s : State) f : (s.modPort f).station = s.station := rfl
@[simp] theorem modPort_lke (s : State) f : (s.modPort f).lke = s.lke := rfl
@[simp] theorem modPort_lockSample (s : State) f : (s.modPort f).lockSample = s.lockSample := rfl
@[simp] theorem modPort_cfg (s : State) f : (s.modPort f).cfg = s.cfg := rfl
@[simp] theorem modPort_banks (s : State) f : (s.modPort f).banks = s.banks := rfl
@[simp] theorem modPort_profiles (s : State) f : (s.modPort f).profiles = s.profiles := rfl
@[simp] theorem modPort_restoreSet (s : State) f : (s.modPort f).restoreSet = s.restoreSet := rfl
@[simp] theorem modPort_startRestored (s : State) f : (s.modPort f).startRestored = s.startRestored := rfl
@[simp] theorem modPort_outlets (s : State) f : (s.modPort f).outlets = s.outlets := rfl
@[simp] theorem modPort_meters (s : State) f : (s.modPort f).meters = s.meters := rfl
@[simp] theorem modPort_windows (s : State) f : (s.modPort f).windows = s.windows := rfl
@[simp] theorem modPort_lines (s : State) f : (s.modPort f).lines = s.lines := rfl
@[simp] theorem modPort_link (s : State) f : (s.modPort f).link = s.link := rfl
@[simp] theorem modPort_peers (s : State) f : (s.modPort f).peers = s.peers := rfl
@[simp] theorem modPort_conflicts (s : State) f : (s.modPort f).conflicts = s.conflicts := rfl
@[simp] theorem modPort_queues (s : State) f : (s.modPort f).queues = s.queues := rfl
@[simp] theorem modPort_claims (s : State) f : (s.modPort f).claims = s.claims := rfl
@[simp] theorem modPort_overload (s : State) f : (s.modPort f).overload = s.overload := rfl
@[simp] theorem modPort_groups (s : State) f : (s.modPort f).groups = s.groups := rfl
@[simp] theorem modPort_records (s : State) f : (s.modPort f).records = s.records := rfl
@[simp] theorem modPort_seq (s : State) f : (s.modPort f).seq = s.seq := rfl

@[simp] theorem modGroup_pending (s : State) g f : (s.modGroup g f).pending = s.pending := rfl
@[simp] theorem modGroup_inReset (s : State) g f : (s.modGroup g f).inReset = s.inReset := rfl
@[simp] theorem modGroup_jumperPins (s : State) g f : (s.modGroup g f).jumperPins = s.jumperPins := rfl
@[simp] theorem modGroup_lockPin (s : State) g f : (s.modGroup g f).lockPin = s.lockPin := rfl
@[simp] theorem modGroup_serial (s : State) g f : (s.modGroup g f).serial = s.serial := rfl
@[simp] theorem modGroup_boardTime (s : State) g f : (s.modGroup g f).boardTime = s.boardTime := rfl
@[simp] theorem modGroup_phase (s : State) g f : (s.modGroup g f).phase = s.phase := rfl
@[simp] theorem modGroup_station (s : State) g f : (s.modGroup g f).station = s.station := rfl
@[simp] theorem modGroup_lke (s : State) g f : (s.modGroup g f).lke = s.lke := rfl
@[simp] theorem modGroup_lockSample (s : State) g f : (s.modGroup g f).lockSample = s.lockSample := rfl
@[simp] theorem modGroup_cfg (s : State) g f : (s.modGroup g f).cfg = s.cfg := rfl
@[simp] theorem modGroup_banks (s : State) g f : (s.modGroup g f).banks = s.banks := rfl
@[simp] theorem modGroup_profiles (s : State) g f : (s.modGroup g f).profiles = s.profiles := rfl
@[simp] theorem modGroup_restoreSet (s : State) g f : (s.modGroup g f).restoreSet = s.restoreSet := rfl
@[simp] theorem modGroup_startRestored (s : State) g f : (s.modGroup g f).startRestored = s.startRestored := rfl
@[simp] theorem modGroup_outlets (s : State) g f : (s.modGroup g f).outlets = s.outlets := rfl
@[simp] theorem modGroup_meters (s : State) g f : (s.modGroup g f).meters = s.meters := rfl
@[simp] theorem modGroup_windows (s : State) g f : (s.modGroup g f).windows = s.windows := rfl
@[simp] theorem modGroup_lines (s : State) g f : (s.modGroup g f).lines = s.lines := rfl
@[simp] theorem modGroup_link (s : State) g f : (s.modGroup g f).link = s.link := rfl
@[simp] theorem modGroup_peers (s : State) g f : (s.modGroup g f).peers = s.peers := rfl
@[simp] theorem modGroup_conflicts (s : State) g f : (s.modGroup g f).conflicts = s.conflicts := rfl
@[simp] theorem modGroup_queues (s : State) g f : (s.modGroup g f).queues = s.queues := rfl
@[simp] theorem modGroup_claims (s : State) g f : (s.modGroup g f).claims = s.claims := rfl
@[simp] theorem modGroup_overload (s : State) g f : (s.modGroup g f).overload = s.overload := rfl
@[simp] theorem modGroup_records (s : State) g f : (s.modGroup g f).records = s.records := rfl
@[simp] theorem modGroup_seq (s : State) g f : (s.modGroup g f).seq = s.seq := rfl
@[simp] theorem modGroup_port (s : State) g f : (s.modGroup g f).port = s.port := rfl

@[simp] theorem modRecord_pending (s : State) g f : (s.modRecord g f).pending = s.pending := rfl
@[simp] theorem modRecord_inReset (s : State) g f : (s.modRecord g f).inReset = s.inReset := rfl
@[simp] theorem modRecord_jumperPins (s : State) g f : (s.modRecord g f).jumperPins = s.jumperPins := rfl
@[simp] theorem modRecord_lockPin (s : State) g f : (s.modRecord g f).lockPin = s.lockPin := rfl
@[simp] theorem modRecord_serial (s : State) g f : (s.modRecord g f).serial = s.serial := rfl
@[simp] theorem modRecord_boardTime (s : State) g f : (s.modRecord g f).boardTime = s.boardTime := rfl
@[simp] theorem modRecord_phase (s : State) g f : (s.modRecord g f).phase = s.phase := rfl
@[simp] theorem modRecord_station (s : State) g f : (s.modRecord g f).station = s.station := rfl
@[simp] theorem modRecord_lke (s : State) g f : (s.modRecord g f).lke = s.lke := rfl
@[simp] theorem modRecord_lockSample (s : State) g f : (s.modRecord g f).lockSample = s.lockSample := rfl
@[simp] theorem modRecord_cfg (s : State) g f : (s.modRecord g f).cfg = s.cfg := rfl
@[simp] theorem modRecord_banks (s : State) g f : (s.modRecord g f).banks = s.banks := rfl
@[simp] theorem modRecord_profiles (s : State) g f : (s.modRecord g f).profiles = s.profiles := rfl
@[simp] theorem modRecord_restoreSet (s : State) g f : (s.modRecord g f).restoreSet = s.restoreSet := rfl
@[simp] theorem modRecord_startRestored (s : State) g f : (s.modRecord g f).startRestored = s.startRestored := rfl
@[simp] theorem modRecord_outlets (s : State) g f : (s.modRecord g f).outlets = s.outlets := rfl
@[simp] theorem modRecord_meters (s : State) g f : (s.modRecord g f).meters = s.meters := rfl
@[simp] theorem modRecord_windows (s : State) g f : (s.modRecord g f).windows = s.windows := rfl
@[simp] theorem modRecord_lines (s : State) g f : (s.modRecord g f).lines = s.lines := rfl
@[simp] theorem modRecord_link (s : State) g f : (s.modRecord g f).link = s.link := rfl
@[simp] theorem modRecord_peers (s : State) g f : (s.modRecord g f).peers = s.peers := rfl
@[simp] theorem modRecord_conflicts (s : State) g f : (s.modRecord g f).conflicts = s.conflicts := rfl
@[simp] theorem modRecord_queues (s : State) g f : (s.modRecord g f).queues = s.queues := rfl
@[simp] theorem modRecord_claims (s : State) g f : (s.modRecord g f).claims = s.claims := rfl
@[simp] theorem modRecord_overload (s : State) g f : (s.modRecord g f).overload = s.overload := rfl
@[simp] theorem modRecord_groups (s : State) g f : (s.modRecord g f).groups = s.groups := rfl
@[simp] theorem modRecord_seq (s : State) g f : (s.modRecord g f).seq = s.seq := rfl
@[simp] theorem modRecord_port (s : State) g f : (s.modRecord g f).port = s.port := rfl

@[simp] theorem place_pending (s : State) o st sub : (s.place o st sub).pending = s.pending := rfl
@[simp] theorem place_inReset (s : State) o st sub : (s.place o st sub).inReset = s.inReset := rfl
@[simp] theorem place_jumperPins (s : State) o st sub : (s.place o st sub).jumperPins = s.jumperPins := rfl
@[simp] theorem place_lockPin (s : State) o st sub : (s.place o st sub).lockPin = s.lockPin := rfl
@[simp] theorem place_serial (s : State) o st sub : (s.place o st sub).serial = s.serial := rfl
@[simp] theorem place_boardTime (s : State) o st sub : (s.place o st sub).boardTime = s.boardTime := rfl
@[simp] theorem place_phase (s : State) o st sub : (s.place o st sub).phase = s.phase := rfl
@[simp] theorem place_station (s : State) o st sub : (s.place o st sub).station = s.station := rfl
@[simp] theorem place_lke (s : State) o st sub : (s.place o st sub).lke = s.lke := rfl
@[simp] theorem place_lockSample (s : State) o st sub : (s.place o st sub).lockSample = s.lockSample := rfl
@[simp] theorem place_cfg (s : State) o st sub : (s.place o st sub).cfg = s.cfg := rfl
@[simp] theorem place_banks (s : State) o st sub : (s.place o st sub).banks = s.banks := rfl
@[simp] theorem place_profiles (s : State) o st sub : (s.place o st sub).profiles = s.profiles := rfl
@[simp] theorem place_restoreSet (s : State) o st sub : (s.place o st sub).restoreSet = s.restoreSet := rfl
@[simp] theorem place_startRestored (s : State) o st sub : (s.place o st sub).startRestored = s.startRestored := rfl
@[simp] theorem place_windows (s : State) o st sub : (s.place o st sub).windows = s.windows := rfl
@[simp] theorem place_lines (s : State) o st sub : (s.place o st sub).lines = s.lines := rfl
@[simp] theorem place_link (s : State) o st sub : (s.place o st sub).link = s.link := rfl
@[simp] theorem place_peers (s : State) o st sub : (s.place o st sub).peers = s.peers := rfl
@[simp] theorem place_conflicts (s : State) o st sub : (s.place o st sub).conflicts = s.conflicts := rfl
@[simp] theorem place_queues (s : State) o st sub : (s.place o st sub).queues = s.queues := rfl
@[simp] theorem place_claims (s : State) o st sub : (s.place o st sub).claims = s.claims := rfl
@[simp] theorem place_overload (s : State) o st sub : (s.place o st sub).overload = s.overload := rfl
@[simp] theorem place_groups (s : State) o st sub : (s.place o st sub).groups = s.groups := rfl
@[simp] theorem place_records (s : State) o st sub : (s.place o st sub).records = s.records := rfl
@[simp] theorem place_seq (s : State) o st sub : (s.place o st sub).seq = s.seq := rfl
@[simp] theorem place_port (s : State) o st sub : (s.place o st sub).port = s.port := rfl


/-! The record that an update writes. -/

@[simp] theorem modLink_link (s : State) (f : Link → Link) : (s.modLink f).link = f s.link := rfl
@[simp] theorem modPort_port (s : State) (f : Port → Port) : (s.modPort f).port = f s.port := rfl
@[simp] theorem setOutlet_outlet (s : State) (o p : OutletId) (x : Outlet) : (s.setOutlet o x).outlet p = if p = o then x else s.outlet p :=
  Tab.get_set _ _ _ _
@[simp] theorem modOutlet_outlet (s : State) (o p : OutletId) (f : Outlet → Outlet) :
    (s.modOutlet o f).outlet p = if p = o then f (s.outlet o) else s.outlet p := Tab.get_set _ _ _ _
@[simp] theorem modMeter_meter (s : State) (o p : OutletId) (f : Meter → Meter) :
    (s.modMeter o f).meter p = if p = o then f (s.meter o) else s.meter p := Tab.get_set _ _ _ _
@[simp] theorem modPeer_peer (s : State) (k j : StationId) (f : Peer → Peer) :
    (s.modPeer k f).peer j = if j = k then f (s.peer k) else s.peer j := Tab.get_set _ _ _ _
@[simp] theorem modOver_over (s : State) (n m : BranchId) (f : Overload → Overload) :
    (s.modOver n f).over m = if m = n then f (s.over n) else s.over m := Tab.get_set _ _ _ _
@[simp] theorem modLine_line (s : State) (b c : Bank) (f : Line → Line) :
    (s.modLine b f).line c = if c = b then f (s.line b) else s.line c := Banked.get_set _ _ _ _
@[simp] theorem modWindow_window (s : State) (b c : Bank) (f : BankWindow → BankWindow) :
    (s.modWindow b f).window c = if c = b then f (s.window b) else s.window c := Banked.get_set _ _ _ _
@[simp] theorem setQueue_queue (s : State) (b c : Bank) (q : List OutletId) :
    (s.setQueue b q).queue c = if c = b then q else s.queue c := Banked.get_set _ _ _ _
@[simp] theorem modClaim_claim (s : State) (b c : Bank) (f : Claim → Claim) :
    (s.modClaim b f).claim c = if c = b then f (s.claim b) else s.claim c := Banked.get_set _ _ _ _
@[simp] theorem place_outlet (s : State) (o p : OutletId) (st : OutletState) (sub : Option SubPhase) :
    (s.place o st sub).outlet p = if p = o then (s.outlet o).place st sub else s.outlet p := modOutlet_outlet _ _ _ _

end Sys2Proof.Machine
end

