-- ==== Sys2Proof/Laws/Frames.lean ====
section
/-! SUPPORT. What the shared operations can touch: each is its own start with the named blocks replaced. -/

namespace Sys2Proof.Machine

/-- A fold keeps what each of its steps keeps. -/
theorem foldl_keeps {α : Type} {P : State → Prop} {f : State → α → State} (h : ∀ t x, P t → P (f t x)) (l : List α) (s : State) (hs : P s) :
    P (l.foldl f s) := by
  induction l generalizing s with
  | nil => exact hs
  | cons x xs ih => exact ih _ (h s x hs)

theorem ite_keeps {P : State → Prop} {c : Prop} [Decidable c] {s t : State} (hs : P s) (ht : P t) : P (if c then s else t) := by
  split
  · exact hs
  · exact ht

/-! The port. -/

theorem post_frame (s : State) (k : EventKind) (a b c : Nat) : s.post k a b c = { s with port := (s.post k a b c).port } := by
  unfold State.post; split <;> (try split) <;> rfl

/-! The transmit queue. -/

theorem insertFrame_frame (s : State) (u : Nat) (f : PeerFrame) : s.insertFrame u f = { s with link := (s.insertFrame u f).link } := rfl

theorem replaceReserved_frame (s : State) (f : PeerFrame) : s.replaceReserved f = { s with link := (s.replaceReserved f).link } := rfl

theorem offerReserved_frame (s : State) (f : PeerFrame) : s.offerReserved f = { s with link := (s.offerReserved f).link } := by
  unfold State.offerReserved; split
  · split
    · split
      · rfl
      · exact replaceReserved_frame s f
    · exact replaceReserved_frame s f
  · rfl

theorem offerStatus_frame (s : State) : s.offerStatus = { s with link := s.offerStatus.link } := offerReserved_frame _ _

theorem offerJoin_frame (s : State) (r : Bool) : s.offerJoin r = { s with link := (s.offerJoin r).link } := offerReserved_frame _ _

theorem recompose_frame (s : State) : s.recompose = { s with link := s.recompose.link } := by
  unfold State.recompose
  split <;> split <;> first
    | (rw [offerJoin_frame, offerStatus_frame])
    | exact offerJoin_frame _ _
    | exact offerStatus_frame _
    | rfl

theorem removeFrames_frame (s : State) (p : PeerFrame → Bool) : s.removeFrames p = { s with link := (s.removeFrames p).link } := rfl

/-- An offer that is taken changes the transmit queue only (R75). -/
theorem offer_frame {s t : State} {u : Nat} {f : PeerFrame} (h : s.offer u f = some t) : t = { s with link := t.link } := by
  unfold State.offer at h
  split at h
  · cases h; rfl
  · cases h

/-! The budget unit. -/

theorem withdrawClaim_frame (s : State) (b : Bank) :
    s.withdrawClaim b = { s with link := (s.withdrawClaim b).link, claims := (s.withdrawClaim b).claims } := by
  unfold State.withdrawClaim; split <;> (try split) <;> rfl

theorem markDropped_frame (s : State) (o : OutletId) : s.markDropped o = { s with claims := (s.markDropped o).claims } := by
  unfold State.markDropped; split <;> rfl

theorem dropClaim_frame (s : State) (o : OutletId) :
    s.dropClaim o = { s with link := (s.dropClaim o).link, claims := (s.dropClaim o).claims } := by
  unfold State.dropClaim; split
  · rw [offerStatus_frame, markDropped_frame]
  · rfl

theorem issueClaim_frame (s : State) (b : Bank) :
    s.issueClaim b = { s with link := (s.issueClaim b).link, claims := (s.issueClaim b).claims } := by
  unfold State.issueClaim
  split
  · rfl
  · split
    · split
      · rename_i t ht
        have := offer_frame ht
        rw [this]; rfl
      · rfl
    · rfl

theorem issueClaims_frame (s : State) : s.issueClaims = { s with link := s.issueClaims.link, claims := s.issueClaims.claims } := by
  unfold State.issueClaims
  rw [issueClaim_frame, issueClaim_frame, issueClaim_frame]

theorem clearRetry_frame (s : State) (n : BranchId) : s.clearRetry n = { s with claims := (s.clearRetry n).claims } := rfl

theorem triggerRetries_frame (s : State) (p : BranchId → Bool) : s.triggerRetries p = { s with claims := (s.triggerRetries p).claims } := by
  have : ∀ t : State, t = { s with claims := t.claims } → ∀ l : List BranchId,
      l.foldl (fun t n => if t.uses n && p n then t.clearRetry n else t) t =
        { s with claims := (l.foldl (fun t n => if t.uses n && p n then t.clearRetry n else t) t).claims } := by
    intro t ht l
    exact foldl_keeps (P := fun t => t = { s with claims := t.claims })
      (fun t n ht => by
        show (if _ then _ else _) = _
        split
        · rw [ht]; rfl
        · exact ht) l t ht
  exact this s rfl _

theorem absorbWindow_frame (s : State) (b : Bank) (c : OutletId → Bool) :
    s.absorbWindow b c = { s with link := (s.absorbWindow b c).link, claims := (s.absorbWindow b c).claims } := by
  unfold State.absorbWindow; split
  · rfl
  · split
    · split
      · rfl
      · rw [offerStatus_frame]; rfl
    · rfl

theorem recordClaim_frame (s : State) (k : StationId) (p : ClaimPayload) : s.recordClaim k p = { s with peers := (s.recordClaim k p).peers } := by
  unfold State.recordClaim; split
  · split
    · split <;> rfl
    · rfl
  · rfl

/-! The outlet switch unit. -/

theorem joinQueue_frame (s : State) (o : OutletId) : s.joinQueue o = { s with queues := (s.joinQueue o).queues } := by
  unfold State.joinQueue; split <;> rfl

theorem leaveQueue_frame (s : State) (o : OutletId) :
    s.leaveQueue o = { s with queues := (s.leaveQueue o).queues, claims := (s.leaveQueue o).claims } := rfl

theorem leaveClaiming_frame (s : State) (o : OutletId) :
    s.leaveClaiming o =
      { s with queues := (s.leaveClaiming o).queues, claims := (s.leaveClaiming o).claims, link := (s.leaveClaiming o).link } := by
  unfold State.leaveClaiming
  simp only
  split
  · rw [leaveQueue_frame, withdrawClaim_frame]
  · rfl

theorem meetTarget_frame (s : State) (o : OutletId) :
    s.meetTarget o = { s with outlets := (s.meetTarget o).outlets, port := (s.meetTarget o).port } := by
  unfold State.meetTarget
  split
  · rw [post_frame]; rfl
  · rw [post_frame]; rfl
  · rfl

end Sys2Proof.Machine
end

