-- ==== Sys2Proof/Laws/Fields.lean ====
section
/-! SUPPORT. The fields that each shared operation leaves, from its frame lemma. -/

namespace Sys2Proof.Machine

@[simp] theorem post_pending (s : State) k a b c : (s.post k a b c).pending = s.pending := (congrArg State.pending (post_frame s k a b c) :)
@[simp] theorem post_inReset (s : State) k a b c : (s.post k a b c).inReset = s.inReset := (congrArg State.inReset (post_frame s k a b c) :)
@[simp] theorem post_jumperPins (s : State) k a b c : (s.post k a b c).jumperPins = s.jumperPins := (congrArg State.jumperPins (post_frame s k a b c) :)
@[simp] theorem post_lockPin (s : State) k a b c : (s.post k a b c).lockPin = s.lockPin := (congrArg State.lockPin (post_frame s k a b c) :)
@[simp] theorem post_serial (s : State) k a b c : (s.post k a b c).serial = s.serial := (congrArg State.serial (post_frame s k a b c) :)
@[simp] theorem post_boardTime (s : State) k a b c : (s.post k a b c).boardTime = s.boardTime := (congrArg State.boardTime (post_frame s k a b c) :)
@[simp] theorem post_phase (s : State) k a b c : (s.post k a b c).phase = s.phase := (congrArg State.phase (post_frame s k a b c) :)
@[simp] theorem post_station (s : State) k a b c : (s.post k a b c).station = s.station := (congrArg State.station (post_frame s k a b c) :)
@[simp] theorem post_lke (s : State) k a b c : (s.post k a b c).lke = s.lke := (congrArg State.lke (post_frame s k a b c) :)
@[simp] theorem post_lockSample (s : State) k a b c : (s.post k a b c).lockSample = s.lockSample := (congrArg State.lockSample (post_frame s k a b c) :)
@[simp] theorem post_cfg (s : State) k a b c : (s.post k a b c).cfg = s.cfg := (congrArg State.cfg (post_frame s k a b c) :)
@[simp] theorem post_banks (s : State) k a b c : (s.post k a b c).banks = s.banks := (congrArg State.banks (post_frame s k a b c) :)
@[simp] theorem post_profiles (s : State) k a b c : (s.post k a b c).profiles = s.profiles := (congrArg State.profiles (post_frame s k a b c) :)
@[simp] theorem post_restoreSet (s : State) k a b c : (s.post k a b c).restoreSet = s.restoreSet := (congrArg State.restoreSet (post_frame s k a b c) :)
@[simp] theorem post_startRestored (s : State) k a b c : (s.post k a b c).startRestored = s.startRestored := (congrArg State.startRestored (post_frame s k a b c) :)
@[simp] theorem post_outlets (s : State) k a b c : (s.post k a b c).outlets = s.outlets := (congrArg State.outlets (post_frame s k a b c) :)
@[simp] theorem post_meters (s : State) k a b c : (s.post k a b c).meters = s.meters := (congrArg State.meters (post_frame s k a b c) :)
@[simp] theorem post_windows (s : State) k a b c : (s.post k a b c).windows = s.windows := (congrArg State.windows (post_frame s k a b c) :)
@[simp] theorem post_lines (s : State) k a b c : (s.post k a b c).lines = s.lines := (congrArg State.lines (post_frame s k a b c) :)
@[simp] theorem post_link (s : State) k a b c : (s.post k a b c).link = s.link := (congrArg State.link (post_frame s k a b c) :)
@[simp] theorem post_peers (s : State) k a b c : (s.post k a b c).peers = s.peers := (congrArg State.peers (post_frame s k a b c) :)
@[simp] theorem post_conflicts (s : State) k a b c : (s.post k a b c).conflicts = s.conflicts := (congrArg State.conflicts (post_frame s k a b c) :)
@[simp] theorem post_queues (s : State) k a b c : (s.post k a b c).queues = s.queues := (congrArg State.queues (post_frame s k a b c) :)
@[simp] theorem post_claims (s : State) k a b c : (s.post k a b c).claims = s.claims := (congrArg State.claims (post_frame s k a b c) :)
@[simp] theorem post_overload (s : State) k a b c : (s.post k a b c).overload = s.overload := (congrArg State.overload (post_frame s k a b c) :)
@[simp] theorem post_groups (s : State) k a b c : (s.post k a b c).groups = s.groups := (congrArg State.groups (post_frame s k a b c) :)
@[simp] theorem post_records (s : State) k a b c : (s.post k a b c).records = s.records := (congrArg State.records (post_frame s k a b c) :)
@[simp] theorem post_seq (s : State) k a b c : (s.post k a b c).seq = s.seq := (congrArg State.seq (post_frame s k a b c) :)

@[simp] theorem offerReserved_pending (s : State) f : (s.offerReserved f).pending = s.pending := (congrArg State.pending (offerReserved_frame s f) :)
@[simp] theorem offerReserved_inReset (s : State) f : (s.offerReserved f).inReset = s.inReset := (congrArg State.inReset (offerReserved_frame s f) :)
@[simp] theorem offerReserved_jumperPins (s : State) f : (s.offerReserved f).jumperPins = s.jumperPins := (congrArg State.jumperPins (offerReserved_frame s f) :)
@[simp] theorem offerReserved_lockPin (s : State) f : (s.offerReserved f).lockPin = s.lockPin := (congrArg State.lockPin (offerReserved_frame s f) :)
@[simp] theorem offerReserved_serial (s : State) f : (s.offerReserved f).serial = s.serial := (congrArg State.serial (offerReserved_frame s f) :)
@[simp] theorem offerReserved_boardTime (s : State) f : (s.offerReserved f).boardTime = s.boardTime := (congrArg State.boardTime (offerReserved_frame s f) :)
@[simp] theorem offerReserved_phase (s : State) f : (s.offerReserved f).phase = s.phase := (congrArg State.phase (offerReserved_frame s f) :)
@[simp] theorem offerReserved_station (s : State) f : (s.offerReserved f).station = s.station := (congrArg State.station (offerReserved_frame s f) :)
@[simp] theorem offerReserved_lke (s : State) f : (s.offerReserved f).lke = s.lke := (congrArg State.lke (offerReserved_frame s f) :)
@[simp] theorem offerReserved_lockSample (s : State) f : (s.offerReserved f).lockSample = s.lockSample := (congrArg State.lockSample (offerReserved_frame s f) :)
@[simp] theorem offerReserved_cfg (s : State) f : (s.offerReserved f).cfg = s.cfg := (congrArg State.cfg (offerReserved_frame s f) :)
@[simp] theorem offerReserved_banks (s : State) f : (s.offerReserved f).banks = s.banks := (congrArg State.banks (offerReserved_frame s f) :)
@[simp] theorem offerReserved_profiles (s : State) f : (s.offerReserved f).profiles = s.profiles := (congrArg State.profiles (offerReserved_frame s f) :)
@[simp] theorem offerReserved_restoreSet (s : State) f : (s.offerReserved f).restoreSet = s.restoreSet := (congrArg State.restoreSet (offerReserved_frame s f) :)
@[simp] theorem offerReserved_startRestored (s : State) f : (s.offerReserved f).startRestored = s.startRestored := (congrArg State.startRestored (offerReserved_frame s f) :)
@[simp] theorem offerReserved_outlets (s : State) f : (s.offerReserved f).outlets = s.outlets := (congrArg State.outlets (offerReserved_frame s f) :)
@[simp] theorem offerReserved_meters (s : State) f : (s.offerReserved f).meters = s.meters := (congrArg State.meters (offerReserved_frame s f) :)
@[simp] theorem offerReserved_windows (s : State) f : (s.offerReserved f).windows = s.windows := (congrArg State.windows (offerReserved_frame s f) :)
@[simp] theorem offerReserved_lines (s : State) f : (s.offerReserved f).lines = s.lines := (congrArg State.lines (offerReserved_frame s f) :)
@[simp] theorem offerReserved_peers (s : State) f : (s.offerReserved f).peers = s.peers := (congrArg State.peers (offerReserved_frame s f) :)
@[simp] theorem offerReserved_conflicts (s : State) f : (s.offerReserved f).conflicts = s.conflicts := (congrArg State.conflicts (offerReserved_frame s f) :)
@[simp] theorem offerReserved_queues (s : State) f : (s.offerReserved f).queues = s.queues := (congrArg State.queues (offerReserved_frame s f) :)
@[simp] theorem offerReserved_claims (s : State) f : (s.offerReserved f).claims = s.claims := (congrArg State.claims (offerReserved_frame s f) :)
@[simp] theorem offerReserved_overload (s : State) f : (s.offerReserved f).overload = s.overload := (congrArg State.overload (offerReserved_frame s f) :)
@[simp] theorem offerReserved_groups (s : State) f : (s.offerReserved f).groups = s.groups := (congrArg State.groups (offerReserved_frame s f) :)
@[simp] theorem offerReserved_records (s : State) f : (s.offerReserved f).records = s.records := (congrArg State.records (offerReserved_frame s f) :)
@[simp] theorem offerReserved_seq (s : State) f : (s.offerReserved f).seq = s.seq := (congrArg State.seq (offerReserved_frame s f) :)
@[simp] theorem offerReserved_port (s : State) f : (s.offerReserved f).port = s.port := (congrArg State.port (offerReserved_frame s f) :)

@[simp] theorem offerStatus_pending (s : State) : (s.offerStatus).pending = s.pending := (congrArg State.pending (offerStatus_frame s) :)
@[simp] theorem offerStatus_inReset (s : State) : (s.offerStatus).inReset = s.inReset := (congrArg State.inReset (offerStatus_frame s) :)
@[simp] theorem offerStatus_jumperPins (s : State) : (s.offerStatus).jumperPins = s.jumperPins := (congrArg State.jumperPins (offerStatus_frame s) :)
@[simp] theorem offerStatus_lockPin (s : State) : (s.offerStatus).lockPin = s.lockPin := (congrArg State.lockPin (offerStatus_frame s) :)
@[simp] theorem offerStatus_serial (s : State) : (s.offerStatus).serial = s.serial := (congrArg State.serial (offerStatus_frame s) :)
@[simp] theorem offerStatus_boardTime (s : State) : (s.offerStatus).boardTime = s.boardTime := (congrArg State.boardTime (offerStatus_frame s) :)
@[simp] theorem offerStatus_phase (s : State) : (s.offerStatus).phase = s.phase := (congrArg State.phase (offerStatus_frame s) :)
@[simp] theorem offerStatus_station (s : State) : (s.offerStatus).station = s.station := (congrArg State.station (offerStatus_frame s) :)
@[simp] theorem offerStatus_lke (s : State) : (s.offerStatus).lke = s.lke := (congrArg State.lke (offerStatus_frame s) :)
@[simp] theorem offerStatus_lockSample (s : State) : (s.offerStatus).lockSample = s.lockSample := (congrArg State.lockSample (offerStatus_frame s) :)
@[simp] theorem offerStatus_cfg (s : State) : (s.offerStatus).cfg = s.cfg := (congrArg State.cfg (offerStatus_frame s) :)
@[simp] theorem offerStatus_banks (s : State) : (s.offerStatus).banks = s.banks := (congrArg State.banks (offerStatus_frame s) :)
@[simp] theorem offerStatus_profiles (s : State) : (s.offerStatus).profiles = s.profiles := (congrArg State.profiles (offerStatus_frame s) :)
@[simp] theorem offerStatus_restoreSet (s : State) : (s.offerStatus).restoreSet = s.restoreSet := (congrArg State.restoreSet (offerStatus_frame s) :)
@[simp] theorem offerStatus_startRestored (s : State) : (s.offerStatus).startRestored = s.startRestored := (congrArg State.startRestored (offerStatus_frame s) :)
@[simp] theorem offerStatus_outlets (s : State) : (s.offerStatus).outlets = s.outlets := (congrArg State.outlets (offerStatus_frame s) :)
@[simp] theorem offerStatus_meters (s : State) : (s.offerStatus).meters = s.meters := (congrArg State.meters (offerStatus_frame s) :)
@[simp] theorem offerStatus_windows (s : State) : (s.offerStatus).windows = s.windows := (congrArg State.windows (offerStatus_frame s) :)
@[simp] theorem offerStatus_lines (s : State) : (s.offerStatus).lines = s.lines := (congrArg State.lines (offerStatus_frame s) :)
@[simp] theorem offerStatus_peers (s : State) : (s.offerStatus).peers = s.peers := (congrArg State.peers (offerStatus_frame s) :)
@[simp] theorem offerStatus_conflicts (s : State) : (s.offerStatus).conflicts = s.conflicts := (congrArg State.conflicts (offerStatus_frame s) :)
@[simp] theorem offerStatus_queues (s : State) : (s.offerStatus).queues = s.queues := (congrArg State.queues (offerStatus_frame s) :)
@[simp] theorem offerStatus_claims (s : State) : (s.offerStatus).claims = s.claims := (congrArg State.claims (offerStatus_frame s) :)
@[simp] theorem offerStatus_overload (s : State) : (s.offerStatus).overload = s.overload := (congrArg State.overload (offerStatus_frame s) :)
@[simp] theorem offerStatus_groups (s : State) : (s.offerStatus).groups = s.groups := (congrArg State.groups (offerStatus_frame s) :)
@[simp] theorem offerStatus_records (s : State) : (s.offerStatus).records = s.records := (congrArg State.records (offerStatus_frame s) :)
@[simp] theorem offerStatus_seq (s : State) : (s.offerStatus).seq = s.seq := (congrArg State.seq (offerStatus_frame s) :)
@[simp] theorem offerStatus_port (s : State) : (s.offerStatus).port = s.port := (congrArg State.port (offerStatus_frame s) :)

@[simp] theorem offerJoin_pending (s : State) r : (s.offerJoin r).pending = s.pending := (congrArg State.pending (offerJoin_frame s r) :)
@[simp] theorem offerJoin_inReset (s : State) r : (s.offerJoin r).inReset = s.inReset := (congrArg State.inReset (offerJoin_frame s r) :)
@[simp] theorem offerJoin_jumperPins (s : State) r : (s.offerJoin r).jumperPins = s.jumperPins := (congrArg State.jumperPins (offerJoin_frame s r) :)
@[simp] theorem offerJoin_lockPin (s : State) r : (s.offerJoin r).lockPin = s.lockPin := (congrArg State.lockPin (offerJoin_frame s r) :)
@[simp] theorem offerJoin_serial (s : State) r : (s.offerJoin r).serial = s.serial := (congrArg State.serial (offerJoin_frame s r) :)
@[simp] theorem offerJoin_boardTime (s : State) r : (s.offerJoin r).boardTime = s.boardTime := (congrArg State.boardTime (offerJoin_frame s r) :)
@[simp] theorem offerJoin_phase (s : State) r : (s.offerJoin r).phase = s.phase := (congrArg State.phase (offerJoin_frame s r) :)
@[simp] theorem offerJoin_station (s : State) r : (s.offerJoin r).station = s.station := (congrArg State.station (offerJoin_frame s r) :)
@[simp] theorem offerJoin_lke (s : State) r : (s.offerJoin r).lke = s.lke := (congrArg State.lke (offerJoin_frame s r) :)
@[simp] theorem offerJoin_lockSample (s : State) r : (s.offerJoin r).lockSample = s.lockSample := (congrArg State.lockSample (offerJoin_frame s r) :)
@[simp] theorem offerJoin_cfg (s : State) r : (s.offerJoin r).cfg = s.cfg := (congrArg State.cfg (offerJoin_frame s r) :)
@[simp] theorem offerJoin_banks (s : State) r : (s.offerJoin r).banks = s.banks := (congrArg State.banks (offerJoin_frame s r) :)
@[simp] theorem offerJoin_profiles (s : State) r : (s.offerJoin r).profiles = s.profiles := (congrArg State.profiles (offerJoin_frame s r) :)
@[simp] theorem offerJoin_restoreSet (s : State) r : (s.offerJoin r).restoreSet = s.restoreSet := (congrArg State.restoreSet (offerJoin_frame s r) :)
@[simp] theorem offerJoin_startRestored (s : State) r : (s.offerJoin r).startRestored = s.startRestored := (congrArg State.startRestored (offerJoin_frame s r) :)
@[simp] theorem offerJoin_outlets (s : State) r : (s.offerJoin r).outlets = s.outlets := (congrArg State.outlets (offerJoin_frame s r) :)
@[simp] theorem offerJoin_meters (s : State) r : (s.offerJoin r).meters = s.meters := (congrArg State.meters (offerJoin_frame s r) :)
@[simp] theorem offerJoin_windows (s : State) r : (s.offerJoin r).windows = s.windows := (congrArg State.windows (offerJoin_frame s r) :)
@[simp] theorem offerJoin_lines (s : State) r : (s.offerJoin r).lines = s.lines := (congrArg State.lines (offerJoin_frame s r) :)
@[simp] theorem offerJoin_peers (s : State) r : (s.offerJoin r).peers = s.peers := (congrArg State.peers (offerJoin_frame s r) :)
@[simp] theorem offerJoin_conflicts (s : State) r : (s.offerJoin r).conflicts = s.conflicts := (congrArg State.conflicts (offerJoin_frame s r) :)
@[simp] theorem offerJoin_queues (s : State) r : (s.offerJoin r).queues = s.queues := (congrArg State.queues (offerJoin_frame s r) :)
@[simp] theorem offerJoin_claims (s : State) r : (s.offerJoin r).claims = s.claims := (congrArg State.claims (offerJoin_frame s r) :)
@[simp] theorem offerJoin_overload (s : State) r : (s.offerJoin r).overload = s.overload := (congrArg State.overload (offerJoin_frame s r) :)
@[simp] theorem offerJoin_groups (s : State) r : (s.offerJoin r).groups = s.groups := (congrArg State.groups (offerJoin_frame s r) :)
@[simp] theorem offerJoin_records (s : State) r : (s.offerJoin r).records = s.records := (congrArg State.records (offerJoin_frame s r) :)
@[simp] theorem offerJoin_seq (s : State) r : (s.offerJoin r).seq = s.seq := (congrArg State.seq (offerJoin_frame s r) :)
@[simp] theorem offerJoin_port (s : State) r : (s.offerJoin r).port = s.port := (congrArg State.port (offerJoin_frame s r) :)

@[simp] theorem recompose_pending (s : State) : (s.recompose).pending = s.pending := (congrArg State.pending (recompose_frame s) :)
@[simp] theorem recompose_inReset (s : State) : (s.recompose).inReset = s.inReset := (congrArg State.inReset (recompose_frame s) :)
@[simp] theorem recompose_jumperPins (s : State) : (s.recompose).jumperPins = s.jumperPins := (congrArg State.jumperPins (recompose_frame s) :)
@[simp] theorem recompose_lockPin (s : State) : (s.recompose).lockPin = s.lockPin := (congrArg State.lockPin (recompose_frame s) :)
@[simp] theorem recompose_serial (s : State) : (s.recompose).serial = s.serial := (congrArg State.serial (recompose_frame s) :)
@[simp] theorem recompose_boardTime (s : State) : (s.recompose).boardTime = s.boardTime := (congrArg State.boardTime (recompose_frame s) :)
@[simp] theorem recompose_phase (s : State) : (s.recompose).phase = s.phase := (congrArg State.phase (recompose_frame s) :)
@[simp] theorem recompose_station (s : State) : (s.recompose).station = s.station := (congrArg State.station (recompose_frame s) :)
@[simp] theorem recompose_lke (s : State) : (s.recompose).lke = s.lke := (congrArg State.lke (recompose_frame s) :)
@[simp] theorem recompose_lockSample (s : State) : (s.recompose).lockSample = s.lockSample := (congrArg State.lockSample (recompose_frame s) :)
@[simp] theorem recompose_cfg (s : State) : (s.recompose).cfg = s.cfg := (congrArg State.cfg (recompose_frame s) :)
@[simp] theorem recompose_banks (s : State) : (s.recompose).banks = s.banks := (congrArg State.banks (recompose_frame s) :)
@[simp] theorem recompose_profiles (s : State) : (s.recompose).profiles = s.profiles := (congrArg State.profiles (recompose_frame s) :)
@[simp] theorem recompose_restoreSet (s : State) : (s.recompose).restoreSet = s.restoreSet := (congrArg State.restoreSet (recompose_frame s) :)
@[simp] theorem recompose_startRestored (s : State) : (s.recompose).startRestored = s.startRestored := (congrArg State.startRestored (recompose_frame s) :)
@[simp] theorem recompose_outlets (s : State) : (s.recompose).outlets = s.outlets := (congrArg State.outlets (recompose_frame s) :)
@[simp] theorem recompose_meters (s : State) : (s.recompose).meters = s.meters := (congrArg State.meters (recompose_frame s) :)
@[simp] theorem recompose_windows (s : State) : (s.recompose).windows = s.windows := (congrArg State.windows (recompose_frame s) :)
@[simp] theorem recompose_lines (s : State) : (s.recompose).lines = s.lines := (congrArg State.lines (recompose_frame s) :)
@[simp] theorem recompose_peers (s : State) : (s.recompose).peers = s.peers := (congrArg State.peers (recompose_frame s) :)
@[simp] theorem recompose_conflicts (s : State) : (s.recompose).conflicts = s.conflicts := (congrArg State.conflicts (recompose_frame s) :)
@[simp] theorem recompose_queues (s : State) : (s.recompose).queues = s.queues := (congrArg State.queues (recompose_frame s) :)
@[simp] theorem recompose_claims (s : State) : (s.recompose).claims = s.claims := (congrArg State.claims (recompose_frame s) :)
@[simp] theorem recompose_overload (s : State) : (s.recompose).overload = s.overload := (congrArg State.overload (recompose_frame s) :)
@[simp] theorem recompose_groups (s : State) : (s.recompose).groups = s.groups := (congrArg State.groups (recompose_frame s) :)
@[simp] theorem recompose_records (s : State) : (s.recompose).records = s.records := (congrArg State.records (recompose_frame s) :)
@[simp] theorem recompose_seq (s : State) : (s.recompose).seq = s.seq := (congrArg State.seq (recompose_frame s) :)
@[simp] theorem recompose_port (s : State) : (s.recompose).port = s.port := (congrArg State.port (recompose_frame s) :)

@[simp] theorem removeFrames_pending (s : State) p : (s.removeFrames p).pending = s.pending := (congrArg State.pending (removeFrames_frame s p) :)
@[simp] theorem removeFrames_inReset (s : State) p : (s.removeFrames p).inReset = s.inReset := (congrArg State.inReset (removeFrames_frame s p) :)
@[simp] theorem removeFrames_jumperPins (s : State) p : (s.removeFrames p).jumperPins = s.jumperPins := (congrArg State.jumperPins (removeFrames_frame s p) :)
@[simp] theorem removeFrames_lockPin (s : State) p : (s.removeFrames p).lockPin = s.lockPin := (congrArg State.lockPin (removeFrames_frame s p) :)
@[simp] theorem removeFrames_serial (s : State) p : (s.removeFrames p).serial = s.serial := (congrArg State.serial (removeFrames_frame s p) :)
@[simp] theorem removeFrames_boardTime (s : State) p : (s.removeFrames p).boardTime = s.boardTime := (congrArg State.boardTime (removeFrames_frame s p) :)
@[simp] theorem removeFrames_phase (s : State) p : (s.removeFrames p).phase = s.phase := (congrArg State.phase (removeFrames_frame s p) :)
@[simp] theorem removeFrames_station (s : State) p : (s.removeFrames p).station = s.station := (congrArg State.station (removeFrames_frame s p) :)
@[simp] theorem removeFrames_lke (s : State) p : (s.removeFrames p).lke = s.lke := (congrArg State.lke (removeFrames_frame s p) :)
@[simp] theorem removeFrames_lockSample (s : State) p : (s.removeFrames p).lockSample = s.lockSample := (congrArg State.lockSample (removeFrames_frame s p) :)
@[simp] theorem removeFrames_cfg (s : State) p : (s.removeFrames p).cfg = s.cfg := (congrArg State.cfg (removeFrames_frame s p) :)
@[simp] theorem removeFrames_banks (s : State) p : (s.removeFrames p).banks = s.banks := (congrArg State.banks (removeFrames_frame s p) :)
@[simp] theorem removeFrames_profiles (s : State) p : (s.removeFrames p).profiles = s.profiles := (congrArg State.profiles (removeFrames_frame s p) :)
@[simp] theorem removeFrames_restoreSet (s : State) p : (s.removeFrames p).restoreSet = s.restoreSet := (congrArg State.restoreSet (removeFrames_frame s p) :)
@[simp] theorem removeFrames_startRestored (s : State) p : (s.removeFrames p).startRestored = s.startRestored := (congrArg State.startRestored (removeFrames_frame s p) :)
@[simp] theorem removeFrames_outlets (s : State) p : (s.removeFrames p).outlets = s.outlets := (congrArg State.outlets (removeFrames_frame s p) :)
@[simp] theorem removeFrames_meters (s : State) p : (s.removeFrames p).meters = s.meters := (congrArg State.meters (removeFrames_frame s p) :)
@[simp] theorem removeFrames_windows (s : State) p : (s.removeFrames p).windows = s.windows := (congrArg State.windows (removeFrames_frame s p) :)
@[simp] theorem removeFrames_lines (s : State) p : (s.removeFrames p).lines = s.lines := (congrArg State.lines (removeFrames_frame s p) :)
@[simp] theorem removeFrames_peers (s : State) p : (s.removeFrames p).peers = s.peers := (congrArg State.peers (removeFrames_frame s p) :)
@[simp] theorem removeFrames_conflicts (s : State) p : (s.removeFrames p).conflicts = s.conflicts := (congrArg State.conflicts (removeFrames_frame s p) :)
@[simp] theorem removeFrames_queues (s : State) p : (s.removeFrames p).queues = s.queues := (congrArg State.queues (removeFrames_frame s p) :)
@[simp] theorem removeFrames_claims (s : State) p : (s.removeFrames p).claims = s.claims := (congrArg State.claims (removeFrames_frame s p) :)
@[simp] theorem removeFrames_overload (s : State) p : (s.removeFrames p).overload = s.overload := (congrArg State.overload (removeFrames_frame s p) :)
@[simp] theorem removeFrames_groups (s : State) p : (s.removeFrames p).groups = s.groups := (congrArg State.groups (removeFrames_frame s p) :)
@[simp] theorem removeFrames_records (s : State) p : (s.removeFrames p).records = s.records := (congrArg State.records (removeFrames_frame s p) :)
@[simp] theorem removeFrames_seq (s : State) p : (s.removeFrames p).seq = s.seq := (congrArg State.seq (removeFrames_frame s p) :)
@[simp] theorem removeFrames_port (s : State) p : (s.removeFrames p).port = s.port := (congrArg State.port (removeFrames_frame s p) :)

@[simp] theorem insertFrame_pending (s : State) u f : (s.insertFrame u f).pending = s.pending := (congrArg State.pending (insertFrame_frame s u f) :)
@[simp] theorem insertFrame_inReset (s : State) u f : (s.insertFrame u f).inReset = s.inReset := (congrArg State.inReset (insertFrame_frame s u f) :)
@[simp] theorem insertFrame_jumperPins (s : State) u f : (s.insertFrame u f).jumperPins = s.jumperPins := (congrArg State.jumperPins (insertFrame_frame s u f) :)
@[simp] theorem insertFrame_lockPin (s : State) u f : (s.insertFrame u f).lockPin = s.lockPin := (congrArg State.lockPin (insertFrame_frame s u f) :)
@[simp] theorem insertFrame_serial (s : State) u f : (s.insertFrame u f).serial = s.serial := (congrArg State.serial (insertFrame_frame s u f) :)
@[simp] theorem insertFrame_boardTime (s : State) u f : (s.insertFrame u f).boardTime = s.boardTime := (congrArg State.boardTime (insertFrame_frame s u f) :)
@[simp] theorem insertFrame_phase (s : State) u f : (s.insertFrame u f).phase = s.phase := (congrArg State.phase (insertFrame_frame s u f) :)
@[simp] theorem insertFrame_station (s : State) u f : (s.insertFrame u f).station = s.station := (congrArg State.station (insertFrame_frame s u f) :)
@[simp] theorem insertFrame_lke (s : State) u f : (s.insertFrame u f).lke = s.lke := (congrArg State.lke (insertFrame_frame s u f) :)
@[simp] theorem insertFrame_lockSample (s : State) u f : (s.insertFrame u f).lockSample = s.lockSample := (congrArg State.lockSample (insertFrame_frame s u f) :)
@[simp] theorem insertFrame_cfg (s : State) u f : (s.insertFrame u f).cfg = s.cfg := (congrArg State.cfg (insertFrame_frame s u f) :)
@[simp] theorem insertFrame_banks (s : State) u f : (s.insertFrame u f).banks = s.banks := (congrArg State.banks (insertFrame_frame s u f) :)
@[simp] theorem insertFrame_profiles (s : State) u f : (s.insertFrame u f).profiles = s.profiles := (congrArg State.profiles (insertFrame_frame s u f) :)
@[simp] theorem insertFrame_restoreSet (s : State) u f : (s.insertFrame u f).restoreSet = s.restoreSet := (congrArg State.restoreSet (insertFrame_frame s u f) :)
@[simp] theorem insertFrame_startRestored (s : State) u f : (s.insertFrame u f).startRestored = s.startRestored := (congrArg State.startRestored (insertFrame_frame s u f) :)
@[simp] theorem insertFrame_outlets (s : State) u f : (s.insertFrame u f).outlets = s.outlets := (congrArg State.outlets (insertFrame_frame s u f) :)
@[simp] theorem insertFrame_meters (s : State) u f : (s.insertFrame u f).meters = s.meters := (congrArg State.meters (insertFrame_frame s u f) :)
@[simp] theorem insertFrame_windows (s : State) u f : (s.insertFrame u f).windows = s.windows := (congrArg State.windows (insertFrame_frame s u f) :)
@[simp] theorem insertFrame_lines (s : State) u f : (s.insertFrame u f).lines = s.lines := (congrArg State.lines (insertFrame_frame s u f) :)
@[simp] theorem insertFrame_peers (s : State) u f : (s.insertFrame u f).peers = s.peers := (congrArg State.peers (insertFrame_frame s u f) :)
@[simp] theorem insertFrame_conflicts (s : State) u f : (s.insertFrame u f).conflicts = s.conflicts := (congrArg State.conflicts (insertFrame_frame s u f) :)
@[simp] theorem insertFrame_queues (s : State) u f : (s.insertFrame u f).queues = s.queues := (congrArg State.queues (insertFrame_frame s u f) :)
@[simp] theorem insertFrame_claims (s : State) u f : (s.insertFrame u f).claims = s.claims := (congrArg State.claims (insertFrame_frame s u f) :)
@[simp] theorem insertFrame_overload (s : State) u f : (s.insertFrame u f).overload = s.overload := (congrArg State.overload (insertFrame_frame s u f) :)
@[simp] theorem insertFrame_groups (s : State) u f : (s.insertFrame u f).groups = s.groups := (congrArg State.groups (insertFrame_frame s u f) :)
@[simp] theorem insertFrame_records (s : State) u f : (s.insertFrame u f).records = s.records := (congrArg State.records (insertFrame_frame s u f) :)
@[simp] theorem insertFrame_seq (s : State) u f : (s.insertFrame u f).seq = s.seq := (congrArg State.seq (insertFrame_frame s u f) :)
@[simp] theorem insertFrame_port (s : State) u f : (s.insertFrame u f).port = s.port := (congrArg State.port (insertFrame_frame s u f) :)

@[simp] theorem withdrawClaim_pending (s : State) b : (s.withdrawClaim b).pending = s.pending := (congrArg State.pending (withdrawClaim_frame s b) :)
@[simp] theorem withdrawClaim_inReset (s : State) b : (s.withdrawClaim b).inReset = s.inReset := (congrArg State.inReset (withdrawClaim_frame s b) :)
@[simp] theorem withdrawClaim_jumperPins (s : State) b : (s.withdrawClaim b).jumperPins = s.jumperPins := (congrArg State.jumperPins (withdrawClaim_frame s b) :)
@[simp] theorem withdrawClaim_lockPin (s : State) b : (s.withdrawClaim b).lockPin = s.lockPin := (congrArg State.lockPin (withdrawClaim_frame s b) :)
@[simp] theorem withdrawClaim_serial (s : State) b : (s.withdrawClaim b).serial = s.serial := (congrArg State.serial (withdrawClaim_frame s b) :)
@[simp] theorem withdrawClaim_boardTime (s : State) b : (s.withdrawClaim b).boardTime = s.boardTime := (congrArg State.boardTime (withdrawClaim_frame s b) :)
@[simp] theorem withdrawClaim_phase (s : State) b : (s.withdrawClaim b).phase = s.phase := (congrArg State.phase (withdrawClaim_frame s b) :)
@[simp] theorem withdrawClaim_station (s : State) b : (s.withdrawClaim b).station = s.station := (congrArg State.station (withdrawClaim_frame s b) :)
@[simp] theorem withdrawClaim_lke (s : State) b : (s.withdrawClaim b).lke = s.lke := (congrArg State.lke (withdrawClaim_frame s b) :)
@[simp] theorem withdrawClaim_lockSample (s : State) b : (s.withdrawClaim b).lockSample = s.lockSample := (congrArg State.lockSample (withdrawClaim_frame s b) :)
@[simp] theorem withdrawClaim_cfg (s : State) b : (s.withdrawClaim b).cfg = s.cfg := (congrArg State.cfg (withdrawClaim_frame s b) :)
@[simp] theorem withdrawClaim_banks (s : State) b : (s.withdrawClaim b).banks = s.banks := (congrArg State.banks (withdrawClaim_frame s b) :)
@[simp] theorem withdrawClaim_profiles (s : State) b : (s.withdrawClaim b).profiles = s.profiles := (congrArg State.profiles (withdrawClaim_frame s b) :)
@[simp] theorem withdrawClaim_restoreSet (s : State) b : (s.withdrawClaim b).restoreSet = s.restoreSet := (congrArg State.restoreSet (withdrawClaim_frame s b) :)
@[simp] theorem withdrawClaim_startRestored (s : State) b : (s.withdrawClaim b).startRestored = s.startRestored := (congrArg State.startRestored (withdrawClaim_frame s b) :)
@[simp] theorem withdrawClaim_outlets (s : State) b : (s.withdrawClaim b).outlets = s.outlets := (congrArg State.outlets (withdrawClaim_frame s b) :)
@[simp] theorem withdrawClaim_meters (s : State) b : (s.withdrawClaim b).meters = s.meters := (congrArg State.meters (withdrawClaim_frame s b) :)
@[simp] theorem withdrawClaim_windows (s : State) b : (s.withdrawClaim b).windows = s.windows := (congrArg State.windows (withdrawClaim_frame s b) :)
@[simp] theorem withdrawClaim_lines (s : State) b : (s.withdrawClaim b).lines = s.lines := (congrArg State.lines (withdrawClaim_frame s b) :)
@[simp] theorem withdrawClaim_peers (s : State) b : (s.withdrawClaim b).peers = s.peers := (congrArg State.peers (withdrawClaim_frame s b) :)
@[simp] theorem withdrawClaim_conflicts (s : State) b : (s.withdrawClaim b).conflicts = s.conflicts := (congrArg State.conflicts (withdrawClaim_frame s b) :)
@[simp] theorem withdrawClaim_queues (s : State) b : (s.withdrawClaim b).queues = s.queues := (congrArg State.queues (withdrawClaim_frame s b) :)
@[simp] theorem withdrawClaim_overload (s : State) b : (s.withdrawClaim b).overload = s.overload := (congrArg State.overload (withdrawClaim_frame s b) :)
@[simp] theorem withdrawClaim_groups (s : State) b : (s.withdrawClaim b).groups = s.groups := (congrArg State.groups (withdrawClaim_frame s b) :)
@[simp] theorem withdrawClaim_records (s : State) b : (s.withdrawClaim b).records = s.records := (congrArg State.records (withdrawClaim_frame s b) :)
@[simp] theorem withdrawClaim_seq (s : State) b : (s.withdrawClaim b).seq = s.seq := (congrArg State.seq (withdrawClaim_frame s b) :)
@[simp] theorem withdrawClaim_port (s : State) b : (s.withdrawClaim b).port = s.port := (congrArg State.port (withdrawClaim_frame s b) :)

@[simp] theorem markDropped_pending (s : State) o : (s.markDropped o).pending = s.pending := (congrArg State.pending (markDropped_frame s o) :)
@[simp] theorem markDropped_inReset (s : State) o : (s.markDropped o).inReset = s.inReset := (congrArg State.inReset (markDropped_frame s o) :)
@[simp] theorem markDropped_jumperPins (s : State) o : (s.markDropped o).jumperPins = s.jumperPins := (congrArg State.jumperPins (markDropped_frame s o) :)
@[simp] theorem markDropped_lockPin (s : State) o : (s.markDropped o).lockPin = s.lockPin := (congrArg State.lockPin (markDropped_frame s o) :)
@[simp] theorem markDropped_serial (s : State) o : (s.markDropped o).serial = s.serial := (congrArg State.serial (markDropped_frame s o) :)
@[simp] theorem markDropped_boardTime (s : State) o : (s.markDropped o).boardTime = s.boardTime := (congrArg State.boardTime (markDropped_frame s o) :)
@[simp] theorem markDropped_phase (s : State) o : (s.markDropped o).phase = s.phase := (congrArg State.phase (markDropped_frame s o) :)
@[simp] theorem markDropped_station (s : State) o : (s.markDropped o).station = s.station := (congrArg State.station (markDropped_frame s o) :)
@[simp] theorem markDropped_lke (s : State) o : (s.markDropped o).lke = s.lke := (congrArg State.lke (markDropped_frame s o) :)
@[simp] theorem markDropped_lockSample (s : State) o : (s.markDropped o).lockSample = s.lockSample := (congrArg State.lockSample (markDropped_frame s o) :)
@[simp] theorem markDropped_cfg (s : State) o : (s.markDropped o).cfg = s.cfg := (congrArg State.cfg (markDropped_frame s o) :)
@[simp] theorem markDropped_banks (s : State) o : (s.markDropped o).banks = s.banks := (congrArg State.banks (markDropped_frame s o) :)
@[simp] theorem markDropped_profiles (s : State) o : (s.markDropped o).profiles = s.profiles := (congrArg State.profiles (markDropped_frame s o) :)
@[simp] theorem markDropped_restoreSet (s : State) o : (s.markDropped o).restoreSet = s.restoreSet := (congrArg State.restoreSet (markDropped_frame s o) :)
@[simp] theorem markDropped_startRestored (s : State) o : (s.markDropped o).startRestored = s.startRestored := (congrArg State.startRestored (markDropped_frame s o) :)
@[simp] theorem markDropped_outlets (s : State) o : (s.markDropped o).outlets = s.outlets := (congrArg State.outlets (markDropped_frame s o) :)
@[simp] theorem markDropped_meters (s : State) o : (s.markDropped o).meters = s.meters := (congrArg State.meters (markDropped_frame s o) :)
@[simp] theorem markDropped_windows (s : State) o : (s.markDropped o).windows = s.windows := (congrArg State.windows (markDropped_frame s o) :)
@[simp] theorem markDropped_lines (s : State) o : (s.markDropped o).lines = s.lines := (congrArg State.lines (markDropped_frame s o) :)
@[simp] theorem markDropped_link (s : State) o : (s.markDropped o).link = s.link := (congrArg State.link (markDropped_frame s o) :)
@[simp] theorem markDropped_peers (s : State) o : (s.markDropped o).peers = s.peers := (congrArg State.peers (markDropped_frame s o) :)
@[simp] theorem markDropped_conflicts (s : State) o : (s.markDropped o).conflicts = s.conflicts := (congrArg State.conflicts (markDropped_frame s o) :)
@[simp] theorem markDropped_queues (s : State) o : (s.markDropped o).queues = s.queues := (congrArg State.queues (markDropped_frame s o) :)
@[simp] theorem markDropped_overload (s : State) o : (s.markDropped o).overload = s.overload := (congrArg State.overload (markDropped_frame s o) :)
@[simp] theorem markDropped_groups (s : State) o : (s.markDropped o).groups = s.groups := (congrArg State.groups (markDropped_frame s o) :)
@[simp] theorem markDropped_records (s : State) o : (s.markDropped o).records = s.records := (congrArg State.records (markDropped_frame s o) :)
@[simp] theorem markDropped_seq (s : State) o : (s.markDropped o).seq = s.seq := (congrArg State.seq (markDropped_frame s o) :)
@[simp] theorem markDropped_port (s : State) o : (s.markDropped o).port = s.port := (congrArg State.port (markDropped_frame s o) :)

@[simp] theorem dropClaim_pending (s : State) o : (s.dropClaim o).pending = s.pending := (congrArg State.pending (dropClaim_frame s o) :)
@[simp] theorem dropClaim_inReset (s : State) o : (s.dropClaim o).inReset = s.inReset := (congrArg State.inReset (dropClaim_frame s o) :)
@[simp] theorem dropClaim_jumperPins (s : State) o : (s.dropClaim o).jumperPins = s.jumperPins := (congrArg State.jumperPins (dropClaim_frame s o) :)
@[simp] theorem dropClaim_lockPin (s : State) o : (s.dropClaim o).lockPin = s.lockPin := (congrArg State.lockPin (dropClaim_frame s o) :)
@[simp] theorem dropClaim_serial (s : State) o : (s.dropClaim o).serial = s.serial := (congrArg State.serial (dropClaim_frame s o) :)
@[simp] theorem dropClaim_boardTime (s : State) o : (s.dropClaim o).boardTime = s.boardTime := (congrArg State.boardTime (dropClaim_frame s o) :)
@[simp] theorem dropClaim_phase (s : State) o : (s.dropClaim o).phase = s.phase := (congrArg State.phase (dropClaim_frame s o) :)
@[simp] theorem dropClaim_station (s : State) o : (s.dropClaim o).station = s.station := (congrArg State.station (dropClaim_frame s o) :)
@[simp] theorem dropClaim_lke (s : State) o : (s.dropClaim o).lke = s.lke := (congrArg State.lke (dropClaim_frame s o) :)
@[simp] theorem dropClaim_lockSample (s : State) o : (s.dropClaim o).lockSample = s.lockSample := (congrArg State.lockSample (dropClaim_frame s o) :)
@[simp] theorem dropClaim_cfg (s : State) o : (s.dropClaim o).cfg = s.cfg := (congrArg State.cfg (dropClaim_frame s o) :)
@[simp] theorem dropClaim_banks (s : State) o : (s.dropClaim o).banks = s.banks := (congrArg State.banks (dropClaim_frame s o) :)
@[simp] theorem dropClaim_profiles (s : State) o : (s.dropClaim o).profiles = s.profiles := (congrArg State.profiles (dropClaim_frame s o) :)
@[simp] theorem dropClaim_restoreSet (s : State) o : (s.dropClaim o).restoreSet = s.restoreSet := (congrArg State.restoreSet (dropClaim_frame s o) :)
@[simp] theorem dropClaim_startRestored (s : State) o : (s.dropClaim o).startRestored = s.startRestored := (congrArg State.startRestored (dropClaim_frame s o) :)
@[simp] theorem dropClaim_outlets (s : State) o : (s.dropClaim o).outlets = s.outlets := (congrArg State.outlets (dropClaim_frame s o) :)
@[simp] theorem dropClaim_meters (s : State) o : (s.dropClaim o).meters = s.meters := (congrArg State.meters (dropClaim_frame s o) :)
@[simp] theorem dropClaim_windows (s : State) o : (s.dropClaim o).windows = s.windows := (congrArg State.windows (dropClaim_frame s o) :)
@[simp] theorem dropClaim_lines (s : State) o : (s.dropClaim o).lines = s.lines := (congrArg State.lines (dropClaim_frame s o) :)
@[simp] theorem dropClaim_peers (s : State) o : (s.dropClaim o).peers = s.peers := (congrArg State.peers (dropClaim_frame s o) :)
@[simp] theorem dropClaim_conflicts (s : State) o : (s.dropClaim o).conflicts = s.conflicts := (congrArg State.conflicts (dropClaim_frame s o) :)
@[simp] theorem dropClaim_queues (s : State) o : (s.dropClaim o).queues = s.queues := (congrArg State.queues (dropClaim_frame s o) :)
@[simp] theorem dropClaim_overload (s : State) o : (s.dropClaim o).overload = s.overload := (congrArg State.overload (dropClaim_frame s o) :)
@[simp] theorem dropClaim_groups (s : State) o : (s.dropClaim o).groups = s.groups := (congrArg State.groups (dropClaim_frame s o) :)
@[simp] theorem dropClaim_records (s : State) o : (s.dropClaim o).records = s.records := (congrArg State.records (dropClaim_frame s o) :)
@[simp] theorem dropClaim_seq (s : State) o : (s.dropClaim o).seq = s.seq := (congrArg State.seq (dropClaim_frame s o) :)
@[simp] theorem dropClaim_port (s : State) o : (s.dropClaim o).port = s.port := (congrArg State.port (dropClaim_frame s o) :)

@[simp] theorem issueClaims_pending (s : State) : (s.issueClaims).pending = s.pending := (congrArg State.pending (issueClaims_frame s) :)
@[simp] theorem issueClaims_inReset (s : State) : (s.issueClaims).inReset = s.inReset := (congrArg State.inReset (issueClaims_frame s) :)
@[simp] theorem issueClaims_jumperPins (s : State) : (s.issueClaims).jumperPins = s.jumperPins := (congrArg State.jumperPins (issueClaims_frame s) :)
@[simp] theorem issueClaims_lockPin (s : State) : (s.issueClaims).lockPin = s.lockPin := (congrArg State.lockPin (issueClaims_frame s) :)
@[simp] theorem issueClaims_serial (s : State) : (s.issueClaims).serial = s.serial := (congrArg State.serial (issueClaims_frame s) :)
@[simp] theorem issueClaims_boardTime (s : State) : (s.issueClaims).boardTime = s.boardTime := (congrArg State.boardTime (issueClaims_frame s) :)
@[simp] theorem issueClaims_phase (s : State) : (s.issueClaims).phase = s.phase := (congrArg State.phase (issueClaims_frame s) :)
@[simp] theorem issueClaims_station (s : State) : (s.issueClaims).station = s.station := (congrArg State.station (issueClaims_frame s) :)
@[simp] theorem issueClaims_lke (s : State) : (s.issueClaims).lke = s.lke := (congrArg State.lke (issueClaims_frame s) :)
@[simp] theorem issueClaims_lockSample (s : State) : (s.issueClaims).lockSample = s.lockSample := (congrArg State.lockSample (issueClaims_frame s) :)
@[simp] theorem issueClaims_cfg (s : State) : (s.issueClaims).cfg = s.cfg := (congrArg State.cfg (issueClaims_frame s) :)
@[simp] theorem issueClaims_banks (s : State) : (s.issueClaims).banks = s.banks := (congrArg State.banks (issueClaims_frame s) :)
@[simp] theorem issueClaims_profiles (s : State) : (s.issueClaims).profiles = s.profiles := (congrArg State.profiles (issueClaims_frame s) :)
@[simp] theorem issueClaims_restoreSet (s : State) : (s.issueClaims).restoreSet = s.restoreSet := (congrArg State.restoreSet (issueClaims_frame s) :)
@[simp] theorem issueClaims_startRestored (s : State) : (s.issueClaims).startRestored = s.startRestored := (congrArg State.startRestored (issueClaims_frame s) :)
@[simp] theorem issueClaims_outlets (s : State) : (s.issueClaims).outlets = s.outlets := (congrArg State.outlets (issueClaims_frame s) :)
@[simp] theorem issueClaims_meters (s : State) : (s.issueClaims).meters = s.meters := (congrArg State.meters (issueClaims_frame s) :)
@[simp] theorem issueClaims_windows (s : State) : (s.issueClaims).windows = s.windows := (congrArg State.windows (issueClaims_frame s) :)
@[simp] theorem issueClaims_lines (s : State) : (s.issueClaims).lines = s.lines := (congrArg State.lines (issueClaims_frame s) :)
@[simp] theorem issueClaims_peers (s : State) : (s.issueClaims).peers = s.peers := (congrArg State.peers (issueClaims_frame s) :)
@[simp] theorem issueClaims_conflicts (s : State) : (s.issueClaims).conflicts = s.conflicts := (congrArg State.conflicts (issueClaims_frame s) :)
@[simp] theorem issueClaims_queues (s : State) : (s.issueClaims).queues = s.queues := (congrArg State.queues (issueClaims_frame s) :)
@[simp] theorem issueClaims_overload (s : State) : (s.issueClaims).overload = s.overload := (congrArg State.overload (issueClaims_frame s) :)
@[simp] theorem issueClaims_groups (s : State) : (s.issueClaims).groups = s.groups := (congrArg State.groups (issueClaims_frame s) :)
@[simp] theorem issueClaims_records (s : State) : (s.issueClaims).records = s.records := (congrArg State.records (issueClaims_frame s) :)
@[simp] theorem issueClaims_seq (s : State) : (s.issueClaims).seq = s.seq := (congrArg State.seq (issueClaims_frame s) :)
@[simp] theorem issueClaims_port (s : State) : (s.issueClaims).port = s.port := (congrArg State.port (issueClaims_frame s) :)

@[simp] theorem triggerRetries_pending (s : State) p : (s.triggerRetries p).pending = s.pending := (congrArg State.pending (triggerRetries_frame s p) :)
@[simp] theorem triggerRetries_inReset (s : State) p : (s.triggerRetries p).inReset = s.inReset := (congrArg State.inReset (triggerRetries_frame s p) :)
@[simp] theorem triggerRetries_jumperPins (s : State) p : (s.triggerRetries p).jumperPins = s.jumperPins := (congrArg State.jumperPins (triggerRetries_frame s p) :)
@[simp] theorem triggerRetries_lockPin (s : State) p : (s.triggerRetries p).lockPin = s.lockPin := (congrArg State.lockPin (triggerRetries_frame s p) :)
@[simp] theorem triggerRetries_serial (s : State) p : (s.triggerRetries p).serial = s.serial := (congrArg State.serial (triggerRetries_frame s p) :)
@[simp] theorem triggerRetries_boardTime (s : State) p : (s.triggerRetries p).boardTime = s.boardTime := (congrArg State.boardTime (triggerRetries_frame s p) :)
@[simp] theorem triggerRetries_phase (s : State) p : (s.triggerRetries p).phase = s.phase := (congrArg State.phase (triggerRetries_frame s p) :)
@[simp] theorem triggerRetries_station (s : State) p : (s.triggerRetries p).station = s.station := (congrArg State.station (triggerRetries_frame s p) :)
@[simp] theorem triggerRetries_lke (s : State) p : (s.triggerRetries p).lke = s.lke := (congrArg State.lke (triggerRetries_frame s p) :)
@[simp] theorem triggerRetries_lockSample (s : State) p : (s.triggerRetries p).lockSample = s.lockSample := (congrArg State.lockSample (triggerRetries_frame s p) :)
@[simp] theorem triggerRetries_cfg (s : State) p : (s.triggerRetries p).cfg = s.cfg := (congrArg State.cfg (triggerRetries_frame s p) :)
@[simp] theorem triggerRetries_banks (s : State) p : (s.triggerRetries p).banks = s.banks := (congrArg State.banks (triggerRetries_frame s p) :)
@[simp] theorem triggerRetries_profiles (s : State) p : (s.triggerRetries p).profiles = s.profiles := (congrArg State.profiles (triggerRetries_frame s p) :)
@[simp] theorem triggerRetries_restoreSet (s : State) p : (s.triggerRetries p).restoreSet = s.restoreSet := (congrArg State.restoreSet (triggerRetries_frame s p) :)
@[simp] theorem triggerRetries_startRestored (s : State) p : (s.triggerRetries p).startRestored = s.startRestored := (congrArg State.startRestored (triggerRetries_frame s p) :)
@[simp] theorem triggerRetries_outlets (s : State) p : (s.triggerRetries p).outlets = s.outlets := (congrArg State.outlets (triggerRetries_frame s p) :)
@[simp] theorem triggerRetries_meters (s : State) p : (s.triggerRetries p).meters = s.meters := (congrArg State.meters (triggerRetries_frame s p) :)
@[simp] theorem triggerRetries_windows (s : State) p : (s.triggerRetries p).windows = s.windows := (congrArg State.windows (triggerRetries_frame s p) :)
@[simp] theorem triggerRetries_lines (s : State) p : (s.triggerRetries p).lines = s.lines := (congrArg State.lines (triggerRetries_frame s p) :)
@[simp] theorem triggerRetries_link (s : State) p : (s.triggerRetries p).link = s.link := (congrArg State.link (triggerRetries_frame s p) :)
@[simp] theorem triggerRetries_peers (s : State) p : (s.triggerRetries p).peers = s.peers := (congrArg State.peers (triggerRetries_frame s p) :)
@[simp] theorem triggerRetries_conflicts (s : State) p : (s.triggerRetries p).conflicts = s.conflicts := (congrArg State.conflicts (triggerRetries_frame s p) :)
@[simp] theorem triggerRetries_queues (s : State) p : (s.triggerRetries p).queues = s.queues := (congrArg State.queues (triggerRetries_frame s p) :)
@[simp] theorem triggerRetries_overload (s : State) p : (s.triggerRetries p).overload = s.overload := (congrArg State.overload (triggerRetries_frame s p) :)
@[simp] theorem triggerRetries_groups (s : State) p : (s.triggerRetries p).groups = s.groups := (congrArg State.groups (triggerRetries_frame s p) :)
@[simp] theorem triggerRetries_records (s : State) p : (s.triggerRetries p).records = s.records := (congrArg State.records (triggerRetries_frame s p) :)
@[simp] theorem triggerRetries_seq (s : State) p : (s.triggerRetries p).seq = s.seq := (congrArg State.seq (triggerRetries_frame s p) :)
@[simp] theorem triggerRetries_port (s : State) p : (s.triggerRetries p).port = s.port := (congrArg State.port (triggerRetries_frame s p) :)

@[simp] theorem absorbWindow_pending (s : State) b c : (s.absorbWindow b c).pending = s.pending := (congrArg State.pending (absorbWindow_frame s b c) :)
@[simp] theorem absorbWindow_inReset (s : State) b c : (s.absorbWindow b c).inReset = s.inReset := (congrArg State.inReset (absorbWindow_frame s b c) :)
@[simp] theorem absorbWindow_jumperPins (s : State) b c : (s.absorbWindow b c).jumperPins = s.jumperPins := (congrArg State.jumperPins (absorbWindow_frame s b c) :)
@[simp] theorem absorbWindow_lockPin (s : State) b c : (s.absorbWindow b c).lockPin = s.lockPin := (congrArg State.lockPin (absorbWindow_frame s b c) :)
@[simp] theorem absorbWindow_serial (s : State) b c : (s.absorbWindow b c).serial = s.serial := (congrArg State.serial (absorbWindow_frame s b c) :)
@[simp] theorem absorbWindow_boardTime (s : State) b c : (s.absorbWindow b c).boardTime = s.boardTime := (congrArg State.boardTime (absorbWindow_frame s b c) :)
@[simp] theorem absorbWindow_phase (s : State) b c : (s.absorbWindow b c).phase = s.phase := (congrArg State.phase (absorbWindow_frame s b c) :)
@[simp] theorem absorbWindow_station (s : State) b c : (s.absorbWindow b c).station = s.station := (congrArg State.station (absorbWindow_frame s b c) :)
@[simp] theorem absorbWindow_lke (s : State) b c : (s.absorbWindow b c).lke = s.lke := (congrArg State.lke (absorbWindow_frame s b c) :)
@[simp] theorem absorbWindow_lockSample (s : State) b c : (s.absorbWindow b c).lockSample = s.lockSample := (congrArg State.lockSample (absorbWindow_frame s b c) :)
@[simp] theorem absorbWindow_cfg (s : State) b c : (s.absorbWindow b c).cfg = s.cfg := (congrArg State.cfg (absorbWindow_frame s b c) :)
@[simp] theorem absorbWindow_banks (s : State) b c : (s.absorbWindow b c).banks = s.banks := (congrArg State.banks (absorbWindow_frame s b c) :)
@[simp] theorem absorbWindow_profiles (s : State) b c : (s.absorbWindow b c).profiles = s.profiles := (congrArg State.profiles (absorbWindow_frame s b c) :)
@[simp] theorem absorbWindow_restoreSet (s : State) b c : (s.absorbWindow b c).restoreSet = s.restoreSet := (congrArg State.restoreSet (absorbWindow_frame s b c) :)
@[simp] theorem absorbWindow_startRestored (s : State) b c : (s.absorbWindow b c).startRestored = s.startRestored := (congrArg State.startRestored (absorbWindow_frame s b c) :)
@[simp] theorem absorbWindow_outlets (s : State) b c : (s.absorbWindow b c).outlets = s.outlets := (congrArg State.outlets (absorbWindow_frame s b c) :)
@[simp] theorem absorbWindow_meters (s : State) b c : (s.absorbWindow b c).meters = s.meters := (congrArg State.meters (absorbWindow_frame s b c) :)
@[simp] theorem absorbWindow_windows (s : State) b c : (s.absorbWindow b c).windows = s.windows := (congrArg State.windows (absorbWindow_frame s b c) :)
@[simp] theorem absorbWindow_lines (s : State) b c : (s.absorbWindow b c).lines = s.lines := (congrArg State.lines (absorbWindow_frame s b c) :)
@[simp] theorem absorbWindow_peers (s : State) b c : (s.absorbWindow b c).peers = s.peers := (congrArg State.peers (absorbWindow_frame s b c) :)
@[simp] theorem absorbWindow_conflicts (s : State) b c : (s.absorbWindow b c).conflicts = s.conflicts := (congrArg State.conflicts (absorbWindow_frame s b c) :)
@[simp] theorem absorbWindow_queues (s : State) b c : (s.absorbWindow b c).queues = s.queues := (congrArg State.queues (absorbWindow_frame s b c) :)
@[simp] theorem absorbWindow_overload (s : State) b c : (s.absorbWindow b c).overload = s.overload := (congrArg State.overload (absorbWindow_frame s b c) :)
@[simp] theorem absorbWindow_groups (s : State) b c : (s.absorbWindow b c).groups = s.groups := (congrArg State.groups (absorbWindow_frame s b c) :)
@[simp] theorem absorbWindow_records (s : State) b c : (s.absorbWindow b c).records = s.records := (congrArg State.records (absorbWindow_frame s b c) :)
@[simp] theorem absorbWindow_seq (s : State) b c : (s.absorbWindow b c).seq = s.seq := (congrArg State.seq (absorbWindow_frame s b c) :)
@[simp] theorem absorbWindow_port (s : State) b c : (s.absorbWindow b c).port = s.port := (congrArg State.port (absorbWindow_frame s b c) :)

@[simp] theorem recordClaim_pending (s : State) k p : (s.recordClaim k p).pending = s.pending := (congrArg State.pending (recordClaim_frame s k p) :)
@[simp] theorem recordClaim_inReset (s : State) k p : (s.recordClaim k p).inReset = s.inReset := (congrArg State.inReset (recordClaim_frame s k p) :)
@[simp] theorem recordClaim_jumperPins (s : State) k p : (s.recordClaim k p).jumperPins = s.jumperPins := (congrArg State.jumperPins (recordClaim_frame s k p) :)
@[simp] theorem recordClaim_lockPin (s : State) k p : (s.recordClaim k p).lockPin = s.lockPin := (congrArg State.lockPin (recordClaim_frame s k p) :)
@[simp] theorem recordClaim_serial (s : State) k p : (s.recordClaim k p).serial = s.serial := (congrArg State.serial (recordClaim_frame s k p) :)
@[simp] theorem recordClaim_boardTime (s : State) k p : (s.recordClaim k p).boardTime = s.boardTime := (congrArg State.boardTime (recordClaim_frame s k p) :)
@[simp] theorem recordClaim_phase (s : State) k p : (s.recordClaim k p).phase = s.phase := (congrArg State.phase (recordClaim_frame s k p) :)
@[simp] theorem recordClaim_station (s : State) k p : (s.recordClaim k p).station = s.station := (congrArg State.station (recordClaim_frame s k p) :)
@[simp] theorem recordClaim_lke (s : State) k p : (s.recordClaim k p).lke = s.lke := (congrArg State.lke (recordClaim_frame s k p) :)
@[simp] theorem recordClaim_lockSample (s : State) k p : (s.recordClaim k p).lockSample = s.lockSample := (congrArg State.lockSample (recordClaim_frame s k p) :)
@[simp] theorem recordClaim_cfg (s : State) k p : (s.recordClaim k p).cfg = s.cfg := (congrArg State.cfg (recordClaim_frame s k p) :)
@[simp] theorem recordClaim_banks (s : State) k p : (s.recordClaim k p).banks = s.banks := (congrArg State.banks (recordClaim_frame s k p) :)
@[simp] theorem recordClaim_profiles (s : State) k p : (s.recordClaim k p).profiles = s.profiles := (congrArg State.profiles (recordClaim_frame s k p) :)
@[simp] theorem recordClaim_restoreSet (s : State) k p : (s.recordClaim k p).restoreSet = s.restoreSet := (congrArg State.restoreSet (recordClaim_frame s k p) :)
@[simp] theorem recordClaim_startRestored (s : State) k p : (s.recordClaim k p).startRestored = s.startRestored := (congrArg State.startRestored (recordClaim_frame s k p) :)
@[simp] theorem recordClaim_outlets (s : State) k p : (s.recordClaim k p).outlets = s.outlets := (congrArg State.outlets (recordClaim_frame s k p) :)
@[simp] theorem recordClaim_meters (s : State) k p : (s.recordClaim k p).meters = s.meters := (congrArg State.meters (recordClaim_frame s k p) :)
@[simp] theorem recordClaim_windows (s : State) k p : (s.recordClaim k p).windows = s.windows := (congrArg State.windows (recordClaim_frame s k p) :)
@[simp] theorem recordClaim_lines (s : State) k p : (s.recordClaim k p).lines = s.lines := (congrArg State.lines (recordClaim_frame s k p) :)
@[simp] theorem recordClaim_link (s : State) k p : (s.recordClaim k p).link = s.link := (congrArg State.link (recordClaim_frame s k p) :)
@[simp] theorem recordClaim_conflicts (s : State) k p : (s.recordClaim k p).conflicts = s.conflicts := (congrArg State.conflicts (recordClaim_frame s k p) :)
@[simp] theorem recordClaim_queues (s : State) k p : (s.recordClaim k p).queues = s.queues := (congrArg State.queues (recordClaim_frame s k p) :)
@[simp] theorem recordClaim_claims (s : State) k p : (s.recordClaim k p).claims = s.claims := (congrArg State.claims (recordClaim_frame s k p) :)
@[simp] theorem recordClaim_overload (s : State) k p : (s.recordClaim k p).overload = s.overload := (congrArg State.overload (recordClaim_frame s k p) :)
@[simp] theorem recordClaim_groups (s : State) k p : (s.recordClaim k p).groups = s.groups := (congrArg State.groups (recordClaim_frame s k p) :)
@[simp] theorem recordClaim_records (s : State) k p : (s.recordClaim k p).records = s.records := (congrArg State.records (recordClaim_frame s k p) :)
@[simp] theorem recordClaim_seq (s : State) k p : (s.recordClaim k p).seq = s.seq := (congrArg State.seq (recordClaim_frame s k p) :)
@[simp] theorem recordClaim_port (s : State) k p : (s.recordClaim k p).port = s.port := (congrArg State.port (recordClaim_frame s k p) :)

@[simp] theorem joinQueue_pending (s : State) o : (s.joinQueue o).pending = s.pending := (congrArg State.pending (joinQueue_frame s o) :)
@[simp] theorem joinQueue_inReset (s : State) o : (s.joinQueue o).inReset = s.inReset := (congrArg State.inReset (joinQueue_frame s o) :)
@[simp] theorem joinQueue_jumperPins (s : State) o : (s.joinQueue o).jumperPins = s.jumperPins := (congrArg State.jumperPins (joinQueue_frame s o) :)
@[simp] theorem joinQueue_lockPin (s : State) o : (s.joinQueue o).lockPin = s.lockPin := (congrArg State.lockPin (joinQueue_frame s o) :)
@[simp] theorem joinQueue_serial (s : State) o : (s.joinQueue o).serial = s.serial := (congrArg State.serial (joinQueue_frame s o) :)
@[simp] theorem joinQueue_boardTime (s : State) o : (s.joinQueue o).boardTime = s.boardTime := (congrArg State.boardTime (joinQueue_frame s o) :)
@[simp] theorem joinQueue_phase (s : State) o : (s.joinQueue o).phase = s.phase := (congrArg State.phase (joinQueue_frame s o) :)
@[simp] theorem joinQueue_station (s : State) o : (s.joinQueue o).station = s.station := (congrArg State.station (joinQueue_frame s o) :)
@[simp] theorem joinQueue_lke (s : State) o : (s.joinQueue o).lke = s.lke := (congrArg State.lke (joinQueue_frame s o) :)
@[simp] theorem joinQueue_lockSample (s : State) o : (s.joinQueue o).lockSample = s.lockSample := (congrArg State.lockSample (joinQueue_frame s o) :)
@[simp] theorem joinQueue_cfg (s : State) o : (s.joinQueue o).cfg = s.cfg := (congrArg State.cfg (joinQueue_frame s o) :)
@[simp] theorem joinQueue_banks (s : State) o : (s.joinQueue o).banks = s.banks := (congrArg State.banks (joinQueue_frame s o) :)
@[simp] theorem joinQueue_profiles (s : State) o : (s.joinQueue o).profiles = s.profiles := (congrArg State.profiles (joinQueue_frame s o) :)
@[simp] theorem joinQueue_restoreSet (s : State) o : (s.joinQueue o).restoreSet = s.restoreSet := (congrArg State.restoreSet (joinQueue_frame s o) :)
@[simp] theorem joinQueue_startRestored (s : State) o : (s.joinQueue o).startRestored = s.startRestored := (congrArg State.startRestored (joinQueue_frame s o) :)
@[simp] theorem joinQueue_outlets (s : State) o : (s.joinQueue o).outlets = s.outlets := (congrArg State.outlets (joinQueue_frame s o) :)
@[simp] theorem joinQueue_meters (s : State) o : (s.joinQueue o).meters = s.meters := (congrArg State.meters (joinQueue_frame s o) :)
@[simp] theorem joinQueue_windows (s : State) o : (s.joinQueue o).windows = s.windows := (congrArg State.windows (joinQueue_frame s o) :)
@[simp] theorem joinQueue_lines (s : State) o : (s.joinQueue o).lines = s.lines := (congrArg State.lines (joinQueue_frame s o) :)
@[simp] theorem joinQueue_link (s : State) o : (s.joinQueue o).link = s.link := (congrArg State.link (joinQueue_frame s o) :)
@[simp] theorem joinQueue_peers (s : State) o : (s.joinQueue o).peers = s.peers := (congrArg State.peers (joinQueue_frame s o) :)
@[simp] theorem joinQueue_conflicts (s : State) o : (s.joinQueue o).conflicts = s.conflicts := (congrArg State.conflicts (joinQueue_frame s o) :)
@[simp] theorem joinQueue_claims (s : State) o : (s.joinQueue o).claims = s.claims := (congrArg State.claims (joinQueue_frame s o) :)
@[simp] theorem joinQueue_overload (s : State) o : (s.joinQueue o).overload = s.overload := (congrArg State.overload (joinQueue_frame s o) :)
@[simp] theorem joinQueue_groups (s : State) o : (s.joinQueue o).groups = s.groups := (congrArg State.groups (joinQueue_frame s o) :)
@[simp] theorem joinQueue_records (s : State) o : (s.joinQueue o).records = s.records := (congrArg State.records (joinQueue_frame s o) :)
@[simp] theorem joinQueue_seq (s : State) o : (s.joinQueue o).seq = s.seq := (congrArg State.seq (joinQueue_frame s o) :)
@[simp] theorem joinQueue_port (s : State) o : (s.joinQueue o).port = s.port := (congrArg State.port (joinQueue_frame s o) :)

@[simp] theorem leaveQueue_pending (s : State) o : (s.leaveQueue o).pending = s.pending := (congrArg State.pending (leaveQueue_frame s o) :)
@[simp] theorem leaveQueue_inReset (s : State) o : (s.leaveQueue o).inReset = s.inReset := (congrArg State.inReset (leaveQueue_frame s o) :)
@[simp] theorem leaveQueue_jumperPins (s : State) o : (s.leaveQueue o).jumperPins = s.jumperPins := (congrArg State.jumperPins (leaveQueue_frame s o) :)
@[simp] theorem leaveQueue_lockPin (s : State) o : (s.leaveQueue o).lockPin = s.lockPin := (congrArg State.lockPin (leaveQueue_frame s o) :)
@[simp] theorem leaveQueue_serial (s : State) o : (s.leaveQueue o).serial = s.serial := (congrArg State.serial (leaveQueue_frame s o) :)
@[simp] theorem leaveQueue_boardTime (s : State) o : (s.leaveQueue o).boardTime = s.boardTime := (congrArg State.boardTime (leaveQueue_frame s o) :)
@[simp] theorem leaveQueue_phase (s : State) o : (s.leaveQueue o).phase = s.phase := (congrArg State.phase (leaveQueue_frame s o) :)
@[simp] theorem leaveQueue_station (s : State) o : (s.leaveQueue o).station = s.station := (congrArg State.station (leaveQueue_frame s o) :)
@[simp] theorem leaveQueue_lke (s : State) o : (s.leaveQueue o).lke = s.lke := (congrArg State.lke (leaveQueue_frame s o) :)
@[simp] theorem leaveQueue_lockSample (s : State) o : (s.leaveQueue o).lockSample = s.lockSample := (congrArg State.lockSample (leaveQueue_frame s o) :)
@[simp] theorem leaveQueue_cfg (s : State) o : (s.leaveQueue o).cfg = s.cfg := (congrArg State.cfg (leaveQueue_frame s o) :)
@[simp] theorem leaveQueue_banks (s : State) o : (s.leaveQueue o).banks = s.banks := (congrArg State.banks (leaveQueue_frame s o) :)
@[simp] theorem leaveQueue_profiles (s : State) o : (s.leaveQueue o).profiles = s.profiles := (congrArg State.profiles (leaveQueue_frame s o) :)
@[simp] theorem leaveQueue_restoreSet (s : State) o : (s.leaveQueue o).restoreSet = s.restoreSet := (congrArg State.restoreSet (leaveQueue_frame s o) :)
@[simp] theorem leaveQueue_startRestored (s : State) o : (s.leaveQueue o).startRestored = s.startRestored := (congrArg State.startRestored (leaveQueue_frame s o) :)
@[simp] theorem leaveQueue_outlets (s : State) o : (s.leaveQueue o).outlets = s.outlets := (congrArg State.outlets (leaveQueue_frame s o) :)
@[simp] theorem leaveQueue_meters (s : State) o : (s.leaveQueue o).meters = s.meters := (congrArg State.meters (leaveQueue_frame s o) :)
@[simp] theorem leaveQueue_windows (s : State) o : (s.leaveQueue o).windows = s.windows := (congrArg State.windows (leaveQueue_frame s o) :)
@[simp] theorem leaveQueue_lines (s : State) o : (s.leaveQueue o).lines = s.lines := (congrArg State.lines (leaveQueue_frame s o) :)
@[simp] theorem leaveQueue_link (s : State) o : (s.leaveQueue o).link = s.link := (congrArg State.link (leaveQueue_frame s o) :)
@[simp] theorem leaveQueue_peers (s : State) o : (s.leaveQueue o).peers = s.peers := (congrArg State.peers (leaveQueue_frame s o) :)
@[simp] theorem leaveQueue_conflicts (s : State) o : (s.leaveQueue o).conflicts = s.conflicts := (congrArg State.conflicts (leaveQueue_frame s o) :)
@[simp] theorem leaveQueue_overload (s : State) o : (s.leaveQueue o).overload = s.overload := (congrArg State.overload (leaveQueue_frame s o) :)
@[simp] theorem leaveQueue_groups (s : State) o : (s.leaveQueue o).groups = s.groups := (congrArg State.groups (leaveQueue_frame s o) :)
@[simp] theorem leaveQueue_records (s : State) o : (s.leaveQueue o).records = s.records := (congrArg State.records (leaveQueue_frame s o) :)
@[simp] theorem leaveQueue_seq (s : State) o : (s.leaveQueue o).seq = s.seq := (congrArg State.seq (leaveQueue_frame s o) :)
@[simp] theorem leaveQueue_port (s : State) o : (s.leaveQueue o).port = s.port := (congrArg State.port (leaveQueue_frame s o) :)

@[simp] theorem leaveClaiming_pending (s : State) o : (s.leaveClaiming o).pending = s.pending := (congrArg State.pending (leaveClaiming_frame s o) :)
@[simp] theorem leaveClaiming_inReset (s : State) o : (s.leaveClaiming o).inReset = s.inReset := (congrArg State.inReset (leaveClaiming_frame s o) :)
@[simp] theorem leaveClaiming_jumperPins (s : State) o : (s.leaveClaiming o).jumperPins = s.jumperPins := (congrArg State.jumperPins (leaveClaiming_frame s o) :)
@[simp] theorem leaveClaiming_lockPin (s : State) o : (s.leaveClaiming o).lockPin = s.lockPin := (congrArg State.lockPin (leaveClaiming_frame s o) :)
@[simp] theorem leaveClaiming_serial (s : State) o : (s.leaveClaiming o).serial = s.serial := (congrArg State.serial (leaveClaiming_frame s o) :)
@[simp] theorem leaveClaiming_boardTime (s : State) o : (s.leaveClaiming o).boardTime = s.boardTime := (congrArg State.boardTime (leaveClaiming_frame s o) :)
@[simp] theorem leaveClaiming_phase (s : State) o : (s.leaveClaiming o).phase = s.phase := (congrArg State.phase (leaveClaiming_frame s o) :)
@[simp] theorem leaveClaiming_station (s : State) o : (s.leaveClaiming o).station = s.station := (congrArg State.station (leaveClaiming_frame s o) :)
@[simp] theorem leaveClaiming_lke (s : State) o : (s.leaveClaiming o).lke = s.lke := (congrArg State.lke (leaveClaiming_frame s o) :)
@[simp] theorem leaveClaiming_lockSample (s : State) o : (s.leaveClaiming o).lockSample = s.lockSample := (congrArg State.lockSample (leaveClaiming_frame s o) :)
@[simp] theorem leaveClaiming_cfg (s : State) o : (s.leaveClaiming o).cfg = s.cfg := (congrArg State.cfg (leaveClaiming_frame s o) :)
@[simp] theorem leaveClaiming_banks (s : State) o : (s.leaveClaiming o).banks = s.banks := (congrArg State.banks (leaveClaiming_frame s o) :)
@[simp] theorem leaveClaiming_profiles (s : State) o : (s.leaveClaiming o).profiles = s.profiles := (congrArg State.profiles (leaveClaiming_frame s o) :)
@[simp] theorem leaveClaiming_restoreSet (s : State) o : (s.leaveClaiming o).restoreSet = s.restoreSet := (congrArg State.restoreSet (leaveClaiming_frame s o) :)
@[simp] theorem leaveClaiming_startRestored (s : State) o : (s.leaveClaiming o).startRestored = s.startRestored := (congrArg State.startRestored (leaveClaiming_frame s o) :)
@[simp] theorem leaveClaiming_outlets (s : State) o : (s.leaveClaiming o).outlets = s.outlets := (congrArg State.outlets (leaveClaiming_frame s o) :)
@[simp] theorem leaveClaiming_meters (s : State) o : (s.leaveClaiming o).meters = s.meters := (congrArg State.meters (leaveClaiming_frame s o) :)
@[simp] theorem leaveClaiming_windows (s : State) o : (s.leaveClaiming o).windows = s.windows := (congrArg State.windows (leaveClaiming_frame s o) :)
@[simp] theorem leaveClaiming_lines (s : State) o : (s.leaveClaiming o).lines = s.lines := (congrArg State.lines (leaveClaiming_frame s o) :)
@[simp] theorem leaveClaiming_peers (s : State) o : (s.leaveClaiming o).peers = s.peers := (congrArg State.peers (leaveClaiming_frame s o) :)
@[simp] theorem leaveClaiming_conflicts (s : State) o : (s.leaveClaiming o).conflicts = s.conflicts := (congrArg State.conflicts (leaveClaiming_frame s o) :)
@[simp] theorem leaveClaiming_overload (s : State) o : (s.leaveClaiming o).overload = s.overload := (congrArg State.overload (leaveClaiming_frame s o) :)
@[simp] theorem leaveClaiming_groups (s : State) o : (s.leaveClaiming o).groups = s.groups := (congrArg State.groups (leaveClaiming_frame s o) :)
@[simp] theorem leaveClaiming_records (s : State) o : (s.leaveClaiming o).records = s.records := (congrArg State.records (leaveClaiming_frame s o) :)
@[simp] theorem leaveClaiming_seq (s : State) o : (s.leaveClaiming o).seq = s.seq := (congrArg State.seq (leaveClaiming_frame s o) :)
@[simp] theorem leaveClaiming_port (s : State) o : (s.leaveClaiming o).port = s.port := (congrArg State.port (leaveClaiming_frame s o) :)

@[simp] theorem meetTarget_pending (s : State) o : (s.meetTarget o).pending = s.pending := (congrArg State.pending (meetTarget_frame s o) :)
@[simp] theorem meetTarget_inReset (s : State) o : (s.meetTarget o).inReset = s.inReset := (congrArg State.inReset (meetTarget_frame s o) :)
@[simp] theorem meetTarget_jumperPins (s : State) o : (s.meetTarget o).jumperPins = s.jumperPins := (congrArg State.jumperPins (meetTarget_frame s o) :)
@[simp] theorem meetTarget_lockPin (s : State) o : (s.meetTarget o).lockPin = s.lockPin := (congrArg State.lockPin (meetTarget_frame s o) :)
@[simp] theorem meetTarget_serial (s : State) o : (s.meetTarget o).serial = s.serial := (congrArg State.serial (meetTarget_frame s o) :)
@[simp] theorem meetTarget_boardTime (s : State) o : (s.meetTarget o).boardTime = s.boardTime := (congrArg State.boardTime (meetTarget_frame s o) :)
@[simp] theorem meetTarget_phase (s : State) o : (s.meetTarget o).phase = s.phase := (congrArg State.phase (meetTarget_frame s o) :)
@[simp] theorem meetTarget_station (s : State) o : (s.meetTarget o).station = s.station := (congrArg State.station (meetTarget_frame s o) :)
@[simp] theorem meetTarget_lke (s : State) o : (s.meetTarget o).lke = s.lke := (congrArg State.lke (meetTarget_frame s o) :)
@[simp] theorem meetTarget_lockSample (s : State) o : (s.meetTarget o).lockSample = s.lockSample := (congrArg State.lockSample (meetTarget_frame s o) :)
@[simp] theorem meetTarget_cfg (s : State) o : (s.meetTarget o).cfg = s.cfg := (congrArg State.cfg (meetTarget_frame s o) :)
@[simp] theorem meetTarget_banks (s : State) o : (s.meetTarget o).banks = s.banks := (congrArg State.banks (meetTarget_frame s o) :)
@[simp] theorem meetTarget_profiles (s : State) o : (s.meetTarget o).profiles = s.profiles := (congrArg State.profiles (meetTarget_frame s o) :)
@[simp] theorem meetTarget_restoreSet (s : State) o : (s.meetTarget o).restoreSet = s.restoreSet := (congrArg State.restoreSet (meetTarget_frame s o) :)
@[simp] theorem meetTarget_startRestored (s : State) o : (s.meetTarget o).startRestored = s.startRestored := (congrArg State.startRestored (meetTarget_frame s o) :)
@[simp] theorem meetTarget_meters (s : State) o : (s.meetTarget o).meters = s.meters := (congrArg State.meters (meetTarget_frame s o) :)
@[simp] theorem meetTarget_windows (s : State) o : (s.meetTarget o).windows = s.windows := (congrArg State.windows (meetTarget_frame s o) :)
@[simp] theorem meetTarget_lines (s : State) o : (s.meetTarget o).lines = s.lines := (congrArg State.lines (meetTarget_frame s o) :)
@[simp] theorem meetTarget_link (s : State) o : (s.meetTarget o).link = s.link := (congrArg State.link (meetTarget_frame s o) :)
@[simp] theorem meetTarget_peers (s : State) o : (s.meetTarget o).peers = s.peers := (congrArg State.peers (meetTarget_frame s o) :)
@[simp] theorem meetTarget_conflicts (s : State) o : (s.meetTarget o).conflicts = s.conflicts := (congrArg State.conflicts (meetTarget_frame s o) :)
@[simp] theorem meetTarget_queues (s : State) o : (s.meetTarget o).queues = s.queues := (congrArg State.queues (meetTarget_frame s o) :)
@[simp] theorem meetTarget_claims (s : State) o : (s.meetTarget o).claims = s.claims := (congrArg State.claims (meetTarget_frame s o) :)
@[simp] theorem meetTarget_overload (s : State) o : (s.meetTarget o).overload = s.overload := (congrArg State.overload (meetTarget_frame s o) :)
@[simp] theorem meetTarget_groups (s : State) o : (s.meetTarget o).groups = s.groups := (congrArg State.groups (meetTarget_frame s o) :)
@[simp] theorem meetTarget_records (s : State) o : (s.meetTarget o).records = s.records := (congrArg State.records (meetTarget_frame s o) :)
@[simp] theorem meetTarget_seq (s : State) o : (s.meetTarget o).seq = s.seq := (congrArg State.seq (meetTarget_frame s o) :)

end Sys2Proof.Machine
end

