-- ==== Sys2Proof/Laws/Switches.lean ====
section
/-! SUPPORT. How outlet records and closure queues stay consistent under the three moves everything else is made of: a change of fields the table of R2 does not see, an outlet placed in a state while it stands in no queue, and an entry into CLAIMING. -/

namespace Sys2Proof.Machine

/-- What consistency sees of an outlet record. -/
def Outlet.switchPart (x : Outlet) : OutletState × Option SubPhase × RelayCommand × CoilDrive × Bool × Bool :=
  (x.state, x.sub, x.relay, x.coil, x.pendingOff, x.claimWait.isSome)

theorem Outlet.consistent_of_part {x y : Outlet} (h : x.switchPart = y.switchPart) (hy : y.consistent) : x.consistent := by
  simp only [Outlet.switchPart, Prod.mk.injEq] at h
  obtain ⟨h1, h2, h3, h4, h5, h6⟩ := h
  unfold Outlet.consistent at *
  rw [h1, h2, h3, h4, h5, h6]; exact hy

theorem Outlet.state_of_part {x y : Outlet} (h : x.switchPart = y.switchPart) : x.state = y.state := congrArg Prod.fst h

/-- Consistent, but for outlet `o`, which stands in no queue whatever its state. -/
structure FreeOutlet (o : OutletId) (s : State) : Prop where
  records : s.outletsConsistent
  out : o ∉ s.queue (bankOf o)
  others : ∀ p, p ≠ o → (p ∈ s.queue (bankOf p) ↔ (s.outlet p).state = .claiming)
  nodup : ∀ b, (s.queue b).Nodup
  own : ∀ b, ∀ p ∈ s.queue b, bankOf p = b

/-- Two states that agree on queues and on what consistency sees of the outlets. -/
structure SameSwitches (s t : State) : Prop where
  parts : ∀ o, (t.outlet o).switchPart = (s.outlet o).switchPart
  queues : t.queues = s.queues

theorem SameSwitches.refl (s : State) : SameSwitches s s := ⟨fun _ => rfl, rfl⟩

theorem SameSwitches.trans {s t u : State} (h : SameSwitches s t) (k : SameSwitches t u) : SameSwitches s u :=
  ⟨fun o => (k.parts o).trans (h.parts o), k.queues.trans h.queues⟩

theorem SameSwitches.of_eq {s t : State} (ho : t.outlets = s.outlets) (hq : t.queues = s.queues) : SameSwitches s t :=
  ⟨fun o => by simp only [State.outlet, ho], hq⟩

theorem SameSwitches.state {s t : State} (h : SameSwitches s t) (o : OutletId) : (t.outlet o).state = (s.outlet o).state :=
  Outlet.state_of_part (h.parts o)

theorem SameSwitches.queue {s t : State} (h : SameSwitches s t) (b : Bank) : t.queue b = s.queue b := by
  simp only [State.queue, h.queues]

theorem SameSwitches.consistent {s t : State} (h : SameSwitches s t) (hs : s.switchesConsistent) : t.switchesConsistent := by
  refine ⟨fun o => Outlet.consistent_of_part (h.parts o) (hs.1 o), fun o => ?_, fun b => ?_, fun b o ho => ?_⟩
  · rw [h.queue, h.state]; exact hs.2.1 o
  · rw [h.queue]; exact hs.2.2.1 b
  · rw [h.queue] at ho; exact hs.2.2.2 b o ho

theorem SameSwitches.free {s t : State} (h : SameSwitches s t) {o : OutletId} (hs : FreeOutlet o s) : FreeOutlet o t := by
  refine ⟨fun p => Outlet.consistent_of_part (h.parts p) (hs.records p), ?_, fun p hp => ?_, fun b => ?_, fun b p hp => ?_⟩
  · rw [h.queue]; exact hs.out
  · rw [h.queue, h.state]; exact hs.others p hp
  · rw [h.queue]; exact hs.nodup b
  · rw [h.queue] at hp; exact hs.own b p hp

/-- A fold of steps that keep the switches keeps them. -/
theorem SameSwitches.foldl {α : Type} {f : State → α → State} (h : ∀ t x, SameSwitches t (f t x)) (l : List α) (s : State) :
    SameSwitches s (l.foldl f s) :=
  foldl_keeps (P := SameSwitches s) (fun t x ht => ht.trans (h t x)) l s (SameSwitches.refl s)

/-- A change of one record in fields that consistency does not see. -/
theorem sameSwitches_modOutlet (s : State) (o : OutletId) {f : Outlet → Outlet} (h : (f (s.outlet o)).switchPart = (s.outlet o).switchPart) :
    SameSwitches s (s.modOutlet o f) := by
  refine ⟨fun p => ?_, rfl⟩
  rw [modOutlet_outlet]
  split
  · rename_i hp; rw [h, hp]
  · rfl

/-! The three moves. -/

theorem free_of_not_claiming {s : State} {o : OutletId} (hs : s.switchesConsistent) (h : (s.outlet o).state ≠ .claiming) : FreeOutlet o s :=
  ⟨hs.1, fun hq => h ((hs.2.1 o).1 hq), fun p _ => hs.2.1 p, hs.2.2.1, hs.2.2.2⟩

theorem leaveQueue_queue (s : State) (o : OutletId) (b : Bank) :
    (s.leaveQueue o).queue b = if b = bankOf o then (s.queue (bankOf o)).filter (fun x => decide (x ≠ o)) else s.queue b := by
  show ((s.setQueue _ _).modClaim _ _).queues.get b = _
  rw [modClaim_queues]
  exact Banked.get_set _ _ _ _

theorem free_leaveQueue {s : State} (o : OutletId) (hs : s.switchesConsistent) : FreeOutlet o (s.leaveQueue o) := by
  have hout : ∀ p, (s.leaveQueue o).outlet p = s.outlet p := fun p => by simp only [State.outlet, leaveQueue_outlets]
  refine ⟨fun p => by rw [hout]; exact hs.1 p, ?_, fun p hp => ?_, fun b => ?_, fun b p hp => ?_⟩
  · rw [leaveQueue_queue]; simp
  · rw [leaveQueue_queue, hout]
    split
    · rename_i hb
      rw [← hb]
      simp only [List.mem_filter, decide_eq_true_eq, ne_eq, hp, not_false_eq_true, and_true]
      exact hs.2.1 p
    · exact hs.2.1 p
  · rw [leaveQueue_queue]
    split
    · exact (hs.2.2.1 _).filter _
    · exact hs.2.2.1 b
  · rw [leaveQueue_queue] at hp
    split at hp
    · rename_i hb; rw [hb]; exact hs.2.2.2 _ p ((List.mem_filter.1 hp).1)
    · exact hs.2.2.2 b p hp

/-- The pairs of state and sub-phase in which an outlet may be placed (R2). -/
abbrev placeable (st : OutletState) (sub : Option SubPhase) : Prop :=
  (sub.isSome = true ↔ st = .closing ∨ st = .opening) ∧ (sub = some .coil → st = .closing)

theorem place_consistent (x : Outlet) {st : OutletState} {sub : Option SubPhase} (hx : x.consistent) (h : placeable st sub) :
    (x.place st sub).consistent := by
  refine ⟨rfl, rfl, h.1, h.2, ?_, ?_⟩
  · intro hp
    simp only [Outlet.place, Bool.and_eq_true, decide_eq_true_eq] at hp
    exact hp.2
  · simp only [Outlet.place]
    by_cases hst : st = .claiming
    · by_cases hc : x.state = .claiming
      · simp only [hst, hc, if_true, iff_true]; exact hx.2.2.2.2.2.2 hc
      · simp [hst, hc]
    · simp [hst]

/-- An outlet that stands in no queue is placed in a state other than CLAIMING. -/
theorem FreeOutlet.place {s : State} {o : OutletId} (hs : FreeOutlet o s) {st : OutletState} {sub : Option SubPhase} (hst : st ≠ .claiming)
    (h : placeable st sub) : (s.place o st sub).switchesConsistent := by
  have hq : ∀ b, (s.place o st sub).queue b = s.queue b := fun b => by simp only [State.queue, place_queues]
  refine ⟨fun p => ?_, fun p => ?_, fun b => ?_, fun b p hp => ?_⟩
  · rw [place_outlet]; split
    · exact place_consistent _ (hs.records o) h
    · exact hs.records p
  · rw [hq, place_outlet]; split
    · rename_i hp
      rw [hp]
      exact ⟨fun hm => absurd hm hs.out, fun he => absurd he hst⟩
    · rename_i hp; exact hs.others p hp
  · rw [hq]; exact hs.nodup b
  · rw [hq] at hp; exact hs.own b p hp

theorem insertByOrder_mem (f : OutletId → Nat) (o p : OutletId) (l : List OutletId) : p ∈ insertByOrder f o l ↔ p = o ∨ p ∈ l := by
  induction l with
  | nil => simp [insertByOrder]
  | cons x xs ih =>
    simp only [insertByOrder]
    split
    · simp
    · simp only [List.mem_cons, ih]
      constructor
      · rintro (h | h | h)
        · exact .inr (.inl h)
        · exact .inl h
        · exact .inr (.inr h)
      · rintro (h | h | h)
        · exact .inr (.inl h)
        · exact .inl h
        · exact .inr (.inr h)

theorem insertByOrder_nodup (f : OutletId → Nat) (o : OutletId) {l : List OutletId} (h : l.Nodup) (ho : o ∉ l) : (insertByOrder f o l).Nodup := by
  induction l with
  | nil => simp [insertByOrder]
  | cons x xs ih =>
    simp only [List.nodup_cons, List.mem_cons, not_or] at h ho
    simp only [insertByOrder]
    split
    · simp only [List.nodup_cons, List.mem_cons, not_or]; exact ⟨⟨ho.1, ho.2⟩, h.1, h.2⟩
    · simp only [List.nodup_cons, insertByOrder_mem, not_or]
      exact ⟨⟨fun e => ho.1 e.symm, h.1⟩, ih h.2 ho.2⟩

theorem joinQueue_queue (s : State) (o : OutletId) (b : Bank) :
    (s.joinQueue o).queue b =
      if b = bankOf o ∧ o ∉ s.queue (bankOf o) then insertByOrder s.restoreOrder o (s.queue (bankOf o)) else s.queue b := by
  unfold State.joinQueue
  by_cases h : o ∈ s.queue (bankOf o)
  · simp [h]
  · by_cases hb : b = bankOf o
    · simp [h, hb]
    · simp [h, hb]

/-- An outlet enters CLAIMING and its bank's closure queue, from any state (R6, R104). -/
theorem enterClaiming_consistent {s : State} (o : OutletId) (hs : s.switchesConsistent) : (s.enterClaiming o).switchesConsistent := by
  have hout : ∀ p, (s.enterClaiming o).outlet p = if p = o then (s.outlet o).place .claiming none else s.outlet p := fun p => by
    rw [← place_outlet]; simp only [State.enterClaiming, State.outlet, joinQueue_outlets]
  have hq : ∀ b, (s.place o .claiming none).queue b = s.queue b := fun b => by simp only [State.queue, place_queues]
  refine ⟨fun p => ?_, fun p => ?_, fun b => ?_, fun b p hp => ?_⟩
  · rw [hout]; split
    · exact place_consistent _ (hs.1 o) (by decide)
    · exact hs.1 p
  · rw [hout]
    simp only [State.enterClaiming, joinQueue_queue, hq]
    by_cases hp : p = o
    · subst hp
      simp only [if_true, Outlet.place, iff_true]
      split
      · rw [insertByOrder_mem]; exact .inl rfl
      · rename_i h
        simp only [true_and, Decidable.not_not] at h
        exact h
    · rw [if_neg hp, ← hs.2.1 p]
      split
      · rename_i h
        rw [insertByOrder_mem, ← h.1]
        simp [hp]
      · exact Iff.rfl
  · simp only [State.enterClaiming, joinQueue_queue, hq]
    split
    · rename_i h; exact insertByOrder_nodup _ _ (hs.2.2.1 _) h.2
    · exact hs.2.2.1 b
  · simp only [State.enterClaiming, joinQueue_queue, hq] at hp
    split at hp
    · rename_i h
      rw [insertByOrder_mem] at hp
      rcases hp with rfl | hp
      · exact h.1.symm
      · rw [h.1]; exact hs.2.2.2 _ p hp
    · exact hs.2.2.2 b p hp

end Sys2Proof.Machine
end

