-- ==== Sys2Proof/Laws/Outlets.lean ====
section
/-! SUPPORT. Each operation of the outlet switch unit, the group engine and the line monitor keeps outlet records and closure queues consistent. -/

namespace Sys2Proof.Machine

/-! Operations that consistency does not see. -/

theorem same_post (s : State) (k : EventKind) (a b c : Nat) : SameSwitches s (s.post k a b c) := .of_eq (by simp) (by simp)
theorem same_offerStatus (s : State) : SameSwitches s s.offerStatus := .of_eq (by simp) (by simp)
theorem same_offerJoin (s : State) (r : Bool) : SameSwitches s (s.offerJoin r) := .of_eq (by simp) (by simp)
theorem same_removeFrames (s : State) (p : PeerFrame → Bool) : SameSwitches s (s.removeFrames p) := .of_eq (by simp) (by simp)
theorem same_withdrawClaim (s : State) (b : Bank) : SameSwitches s (s.withdrawClaim b) := .of_eq (by simp) (by simp)
theorem same_markDropped (s : State) (o : OutletId) : SameSwitches s (s.markDropped o) := .of_eq (by simp) (by simp)
theorem same_dropClaim (s : State) (o : OutletId) : SameSwitches s (s.dropClaim o) := .of_eq (by simp) (by simp)
theorem same_issueClaims (s : State) : SameSwitches s s.issueClaims := .of_eq (by simp) (by simp)
theorem same_modMeter (s : State) (o : OutletId) (f : Meter → Meter) : SameSwitches s (s.modMeter o f) := .of_eq rfl rfl
theorem same_modWindow (s : State) (b : Bank) (f : BankWindow → BankWindow) : SameSwitches s (s.modWindow b f) := .of_eq rfl rfl
theorem same_modLine (s : State) (b : Bank) (f : Line → Line) : SameSwitches s (s.modLine b f) := .of_eq rfl rfl
theorem same_modClaim (s : State) (b : Bank) (f : Claim → Claim) : SameSwitches s (s.modClaim b f) := .of_eq rfl rfl
theorem same_modPeer (s : State) (k : StationId) (f : Peer → Peer) : SameSwitches s (s.modPeer k f) := .of_eq rfl rfl
theorem same_modOver (s : State) (n : BranchId) (f : Overload → Overload) : SameSwitches s (s.modOver n f) := .of_eq rfl rfl
theorem same_modLink (s : State) (f : Link → Link) : SameSwitches s (s.modLink f) := .of_eq rfl rfl
theorem same_modPort (s : State) (f : Port → Port) : SameSwitches s (s.modPort f) := .of_eq rfl rfl
theorem same_modGroup (s : State) (g : Nat) (f : GroupEntry → GroupEntry) : SameSwitches s (s.modGroup g f) := .of_eq rfl rfl
theorem same_modRecord (s : State) (g : Nat) (f : CycleRecord → CycleRecord) : SameSwitches s (s.modRecord g f) := .of_eq rfl rfl
theorem same_setStatus (s : State) (g : Nat) (o : OutletId) (st : MemberStatus) : SameSwitches s (s.setStatus g o st) := .of_eq rfl rfl
theorem same_disturb (s : State) (o : OutletId) : SameSwitches s (s.disturb o) := .of_eq rfl rfl

theorem same_setUnaligned (s : State) (o : OutletId) (v : Bool) : SameSwitches s (s.setUnaligned o v) := sameSwitches_modOutlet _ _ rfl
theorem same_setTarget (s : State) (o : OutletId) (t : HostTarget) : SameSwitches s (s.setTarget o t) := sameSwitches_modOutlet _ _ rfl
theorem same_setRestore (s : State) (o : OutletId) (v : Bool) : SameSwitches s (s.setRestore o v) := sameSwitches_modOutlet _ _ rfl
theorem same_setCycle (s : State) (o : OutletId) (c : CycleMember) : SameSwitches s (s.setCycle o c) := sameSwitches_modOutlet _ _ rfl
theorem same_joinCycle (s : State) (o : OutletId) : SameSwitches s (s.joinCycle o) := sameSwitches_modOutlet _ _ rfl
theorem same_loadTimer (s : State) (o : OutletId) (ms : Nat) : SameSwitches s (s.loadTimer o ms) := sameSwitches_modOutlet _ _ rfl
theorem same_endLocal (s : State) (o : OutletId) : SameSwitches s (s.endLocal o) :=
  sameSwitches_modOutlet _ _ (by unfold Outlet.endLocal; split <;> rfl)
theorem same_notePeak (s : State) (o : OutletId) (n : Nat) : SameSwitches s (s.notePeak o n) := by
  unfold State.notePeak; split
  · exact sameSwitches_modOutlet _ _ rfl
  · exact .refl _
theorem same_notePeaks (s : State) (b : Bank) (l : List Nat) : SameSwitches s (s.notePeaks b l) := .foldl (fun _ _ => same_notePeak _ _ _) _ _

theorem same_meetTarget (s : State) (o : OutletId) : SameSwitches s (s.meetTarget o) := by
  unfold State.meetTarget; split
  · exact (same_setTarget _ _ _).trans (same_post _ _ _ _ _)
  · exact (same_setTarget _ _ _).trans (same_post _ _ _ _ _)
  · exact .refl _

theorem same_offer {s t : State} {u : Nat} {f : PeerFrame} (h : s.offer u f = some t) : SameSwitches s t :=
  .of_eq (congrArg State.outlets (offer_frame h) :) (congrArg State.queues (offer_frame h) :)

theorem same_leaveClaimingOutlets (s : State) (o : OutletId) : (s.leaveClaiming o).outlets = s.outlets := by simp

theorem free_leaveClaiming {s : State} (o : OutletId) (hs : s.switchesConsistent) : FreeOutlet o (s.leaveClaiming o) := by
  unfold State.leaveClaiming
  simp only
  split
  · exact free_leaveQueue o ((same_withdrawClaim _ _).consistent hs)
  · exact free_leaveQueue o hs

/-! The outlet switch unit. -/

theorem FreeOutlet.enterOff {s : State} {o : OutletId} (h : FreeOutlet o s) : (s.enterOff o).switchesConsistent :=
  (same_meetTarget _ _).consistent (h.place (by decide) (by decide))

theorem FreeOutlet.startAlign {s : State} {o : OutletId} (h : FreeOutlet o s) {st : OutletState} (hst : st = .closing ∨ st = .opening) :
    (s.startAlign o st).switchesConsistent :=
  (sameSwitches_modOutlet _ _ rfl).consistent (h.place (by rcases hst with rfl | rfl <;> decide) (by rcases hst with rfl | rfl <;> decide))

theorem FreeOutlet.startCoil {s : State} {o : OutletId} (h : FreeOutlet o s) : (s.startCoil o).switchesConsistent :=
  (same_loadTimer _ _ _).consistent (h.place (by decide) (by decide))

theorem FreeOutlet.startClosingSettle {s : State} {o : OutletId} (h : FreeOutlet o s) : (s.startClosingSettle o).switchesConsistent :=
  (same_loadTimer _ _ _).consistent (h.place (by decide) (by decide))

theorem FreeOutlet.startOpeningSettle {s : State} {o : OutletId} (h : FreeOutlet o s) : (s.startOpeningSettle o).switchesConsistent :=
  (same_loadTimer _ _ _).consistent (h.place (by decide) (by decide))

theorem enterClosing_consistent {s : State} (o : OutletId) (hs : s.switchesConsistent) : (s.enterClosing o).switchesConsistent := by
  unfold State.enterClosing
  split
  · exact (free_leaveQueue o hs).startCoil
  · exact (free_leaveQueue o hs).startAlign (.inl rfl)
  · exact (free_leaveQueue o hs).startAlign (.inl rfl)

theorem FreeOutlet.enterOpening {s : State} {o : OutletId} (h : FreeOutlet o s) : (s.enterOpening o).switchesConsistent := by
  unfold State.enterOpening
  split
  · exact (same_dropClaim _ _).consistent h.startOpeningSettle
  · exact (same_dropClaim _ _).consistent (h.startAlign (.inr rfl))
  · exact (same_dropClaim _ _).consistent (h.startAlign (.inr rfl))

theorem FreeOutlet.endPendingOff {s : State} {o : OutletId} (h : FreeOutlet o s) : (s.endPendingOff o).switchesConsistent := by
  unfold State.endPendingOff
  split
  · exact h.place (by decide) (by decide)
  · exact h.enterOff

theorem FreeOutlet.alignClosing {s : State} {o : OutletId} (h : FreeOutlet o s) (v : Bool) : (s.alignClosing o v).switchesConsistent :=
  ((same_setUnaligned _ _ _).free h).startCoil

theorem FreeOutlet.alignOpening {s : State} {o : OutletId} (h : FreeOutlet o s) (v : Bool) : (s.alignOpening o v).switchesConsistent :=
  ((same_setUnaligned _ _ _).free h).startOpeningSettle

/-- Pending-off is set on an outlet in CLOSING. -/
theorem setPendingOff_consistent {s : State} {o : OutletId} (hs : s.switchesConsistent) (h : (s.outlet o).state = .closing) :
    (s.setPendingOff o).switchesConsistent := by
  have hout : ∀ p, (s.setPendingOff o).outlet p = if p = o then { s.outlet o with pendingOff := true } else s.outlet p :=
    fun p => modOutlet_outlet _ _ _ _
  have hq : ∀ b, (s.setPendingOff o).queue b = s.queue b := fun _ => rfl
  refine ⟨fun p => ?_, fun p => ?_, fun b => ?_, fun b p hp => ?_⟩
  · rw [hout]; split
    · exact ⟨(hs.1 o).1, (hs.1 o).2.1, (hs.1 o).2.2.1, (hs.1 o).2.2.2.1, fun _ => h, (hs.1 o).2.2.2.2.2⟩
    · exact hs.1 p
  · rw [hq, hout]; split
    · rename_i hp; subst hp; exact hs.2.1 p
    · exact hs.2.1 p
  · rw [hq]; exact hs.2.2.1 b
  · rw [hq] at hp; exact hs.2.2.2 b p hp

/-! The group engine. -/

theorem same_releaseMembers (s : State) (l : List Member) : SameSwitches s (s.releaseMembers l) :=
  .foldl (fun _ _ => sameSwitches_modOutlet _ _ rfl) _ _

theorem same_finishCycle (s : State) (g : Nat) (out : CycleOutcome) : SameSwitches s (s.finishCycle g out) := by
  unfold State.finishCycle
  split
  · exact .refl _
  · exact ((same_modRecord _ _ _).trans (same_releaseMembers _ _)).trans (same_post _ _ _ _ _)

theorem same_checkAbortDone (s : State) (g : Nat) : SameSwitches s (s.checkAbortDone g) := by
  unfold State.checkAbortDone
  split
  · exact .refl _
  · split
    · split
      · exact same_finishCycle _ _ _
      · exact .refl _
    · exact .refl _

theorem same_startDwell (s : State) (g : Nat) : SameSwitches s (s.startDwell g) := same_modRecord _ _ _

theorem same_removeAwaited (s : State) (g : Nat) (k : StationId) : SameSwitches s (s.removeAwaited g k) := by
  unfold State.removeAwaited
  split
  · exact .refl _
  · split
    · simp only
      split
      · split
        · exact (same_modRecord _ _ _).trans (same_startDwell _ _)
        · exact (same_modRecord _ _ _).trans (same_finishCycle _ _ _)
        · exact same_modRecord _ _ _
        · exact same_modRecord _ _ _
        · exact same_modRecord _ _ _
      · exact same_modRecord _ _ _
    · exact .refl _

theorem restoreByAbort_consistent {s : State} (o : OutletId) (hs : s.switchesConsistent) : (s.restoreByAbort o).switchesConsistent :=
  enterClaiming_consistent o ((sameSwitches_modOutlet _ _ rfl).consistent hs)

theorem abortCycle_consistent {s : State} (g : Nat) (r : EndReason) (hs : s.switchesConsistent) : (s.abortCycle g r).switchesConsistent := by
  unfold State.abortCycle
  split
  · exact hs
  · exact (same_checkAbortDone _ _).consistent
      (foldl_keeps (P := State.switchesConsistent) (fun t o ht => restoreByAbort_consistent o ht) _ _ ((same_modRecord _ _ _).consistent hs))

theorem actAbort_consistent {s : State} (g : Nat) (r : EndReason) (hs : s.switchesConsistent) : (s.actAbort g r).switchesConsistent := by
  unfold State.actAbort
  split
  · exact hs
  · split
    · exact abortCycle_consistent _ _ hs
    · exact abortCycle_consistent _ _ hs
    · exact (same_finishCycle _ _ _).consistent hs
    · exact hs
    · exact hs

theorem same_abortNotQueued (s : State) (r : CycleRecord) : SameSwitches s (s.abortNotQueued r) :=
  (same_removeFrames _ _).trans (same_modRecord _ _ _)

theorem same_queueAbort {s t : State} {r : CycleRecord} {a : AbortReason} (h : s.queueAbort r a = some t) : SameSwitches s t := by
  unfold State.queueAbort at h
  simp only at h
  split at h
  · cases h; exact same_abortNotQueued s r
  · exact (same_abortNotQueued s r).trans (same_offer h)

theorem offerAbort_consistent {s : State} (g : Nat) (r : AbortReason) (hs : s.switchesConsistent) : (s.offerAbort g r).switchesConsistent := by
  unfold State.offerAbort
  split
  · exact hs
  · split
    · exact hs
    · split
      · rename_i h; exact (same_queueAbort h).consistent hs
      · exact actAbort_consistent _ _ ((same_abortNotQueued _ _).consistent hs)

theorem maybeGroupOff_consistent {s : State} (g : Nat) (hs : s.switchesConsistent) : (s.maybeGroupOff g).switchesConsistent := by
  unfold State.maybeGroupOff
  split
  · exact hs
  · split
    · simp only
      split
      · rename_i h; exact ((same_modRecord _ _ _).trans (same_offer h)).consistent hs
      · exact abortCycle_consistent _ _ ((same_modRecord _ _ _).consistent hs)
    · exact hs

theorem same_maybeGroupOn (s : State) (g : Nat) : SameSwitches s (s.maybeGroupOn g) := by
  unfold State.maybeGroupOn
  split
  · exact .refl _
  · split
    · simp only
      split
      · rename_i h; exact (same_modRecord _ _ _).trans (same_offer h)
      · exact (same_modRecord _ _ _).trans (same_finishCycle _ _ _)
    · exact .refl _

theorem noteOpened_consistent {s : State} (o : OutletId) (hs : s.switchesConsistent) : (s.noteOpened o).switchesConsistent := by
  unfold State.noteOpened
  split
  · exact hs
  · split
    · split
      · split
        · exact maybeGroupOff_consistent _ ((same_setStatus _ _ _ _).consistent hs)
        · exact (same_checkAbortDone _ _).consistent (restoreByAbort_consistent _ ((same_setStatus _ _ _ _).consistent hs))
        · exact (same_setStatus _ _ _ _).consistent hs
        · exact (same_setStatus _ _ _ _).consistent hs
        · exact (same_setStatus _ _ _ _).consistent hs
      · exact (same_checkAbortDone _ _).consistent (maybeGroupOff_consistent _ ((same_setStatus _ _ _ _).consistent hs))
    · exact hs

theorem same_noteRestored (s : State) (o : OutletId) : SameSwitches s (s.noteRestored o) := by
  unfold State.noteRestored
  split
  · exact .refl _
  · split
    · exact (same_setStatus _ _ _ _).trans (same_maybeGroupOn _ _)
    · exact .refl _

theorem same_noteFailed (s : State) (o : OutletId) : SameSwitches s (s.noteFailed o) := by
  unfold State.noteFailed
  split
  · exact .refl _
  · split
    · exact (same_setStatus _ _ _ _).trans (same_maybeGroupOn _ _)
    · exact .refl _

theorem noteTripped_consistent {s : State} (o : OutletId) (hs : s.switchesConsistent) : (s.noteTripped o).switchesConsistent :=
  (same_noteFailed _ _).consistent (noteOpened_consistent o hs)

theorem withdrawMember_consistent {s : State} (g : Nat) (o : OutletId) (hs : s.switchesConsistent) :
    (s.withdrawMember g o).switchesConsistent :=
  ((same_setRestore _ _ _).trans (same_setStatus _ _ _ _)).consistent ((free_leaveClaiming o hs).place (by decide) (by decide))

theorem noteClaiming_consistent {s : State} (o : OutletId) (hs : s.switchesConsistent) : (s.noteClaiming o).switchesConsistent := by
  unfold State.noteClaiming
  split
  · exact hs
  · split
    · split
      · exact withdrawMember_consistent _ _ hs
      · exact withdrawMember_consistent _ _ hs
      · exact (same_setStatus _ _ _ _).consistent hs
      · exact (same_setCycle _ _ _).consistent hs
      · exact hs
    · exact hs

theorem restoreByDwell_consistent (g : Nat) {s : State} (o : OutletId) (hs : s.switchesConsistent) :
    (State.restoreByDwell g s o).switchesConsistent :=
  (same_setStatus _ _ _ _).consistent (enterClaiming_consistent o ((same_setRestore _ _ _).consistent hs))

theorem endDwell_consistent {s : State} (g : Nat) (hs : s.switchesConsistent) : (s.endDwell g).switchesConsistent := by
  unfold State.endDwell
  split
  · exact hs
  · exact ((same_modRecord _ _ _).trans (same_maybeGroupOn _ _)).consistent
      (foldl_keeps (P := State.switchesConsistent) (fun t o ht => restoreByDwell_consistent g o ht) _ _ ((same_modRecord _ _ _).consistent hs))

theorem openMember_consistent {s : State} (o : OutletId) (hs : s.switchesConsistent) : (s.openMember o).switchesConsistent := by
  have hj := (same_joinCycle s o).consistent hs
  unfold State.openMember
  split
  · exact hs
  · split
    · rename_i h
      have h' : ((s.joinCycle o).setRestore o true).switchesConsistent := (same_setRestore _ _ _).consistent hj
      refine FreeOutlet.enterOpening (free_of_not_claiming h' ?_)
      rw [((same_joinCycle s o).trans (same_setRestore _ o true)).state, h]; decide
    · exact (same_setRestore _ _ _).consistent ((free_leaveClaiming o hj).place (by decide) (by decide))
    · rename_i h
      split
      · exact hj
      · refine setPendingOff_consistent ((same_setRestore _ _ _).consistent hj) ?_
        rw [((same_joinCycle s o).trans (same_setRestore _ o true)).state, h]
    · exact hj
    · exact (sameSwitches_modOutlet _ _ rfl).consistent hj
    · exact hj
    · exact hj
    · exact hj

theorem endCyclesLocally_consistent {s : State} (hs : s.switchesConsistent) : s.endCyclesLocally.switchesConsistent := by
  unfold State.endCyclesLocally
  exact foldl_keeps (P := State.switchesConsistent) (fun t g ht => actAbort_consistent g _ ht) _ _ ((SameSwitches.of_eq rfl rfl).consistent hs)

/-! Trips and the ends of sequences. -/

theorem live_not_claiming {x : Outlet} (hx : x.consistent) (h : x.live = true) : x.state ≠ .claiming := by
  intro hc
  have : x.coil = .off := by rw [hx.2.1, hc]; rfl
  simp [Outlet.live, this] at h

theorem trip_consistent {s : State} (o : OutletId) (r : TripReason) (v : Nat) (hs : s.switchesConsistent) : (s.trip o r v).switchesConsistent := by
  unfold State.trip
  split
  · rename_i h
    have hf := free_of_not_claiming hs (live_not_claiming (hs.1 o) h)
    have h1 : (s.placeTripped o).switchesConsistent :=
      (((same_setRestore _ _ _).trans (same_endLocal _ _)).trans (same_setTarget _ _ _)).consistent (hf.place (by decide) (by decide))
    exact (same_post _ _ _ _ _).consistent (noteTripped_consistent o (((same_disturb _ _).trans (same_dropClaim _ _)).consistent h1))
  · exact hs

theorem endClosing_consistent {s : State} {o : OutletId} (hs : s.switchesConsistent) (h : (s.outlet o).state = .closing) :
    (s.endClosing o).switchesConsistent := by
  have hf := free_of_not_claiming hs (o := o) (by rw [h]; decide)
  unfold State.endClosing
  split
  · exact hf.enterOpening
  · exact ((same_meetTarget _ _).trans (same_noteRestored _ _)).consistent (hf.place (by decide) (by decide))

theorem failClosing_consistent {s : State} {o : OutletId} (hs : s.switchesConsistent) (h : (s.outlet o).state = .closing) :
    (s.failClosing o).switchesConsistent := by
  have hf := (same_setUnaligned s o true).free (free_of_not_claiming hs (o := o) (by rw [h]; decide))
  unfold State.failClosing
  split
  · exact noteOpened_consistent o ((same_dropClaim _ _).consistent hf.endPendingOff)
  · exact (((((((same_setTarget _ _ _).trans (same_setRestore _ _ _)).trans (same_endLocal _ _)).trans (same_dropClaim _ _)).trans
      (same_post _ _ _ _ _)).trans (same_noteFailed _ _))).consistent (hf.place (by decide) (by decide))

theorem closingAlignEnds_consistent {s : State} {o : OutletId} (hs : s.switchesConsistent) (h : (s.outlet o).state = .closing) :
    (s.closingAlignEnds o).switchesConsistent := by
  unfold State.closingAlignEnds
  split
  · exact failClosing_consistent hs h
  · exact (free_of_not_claiming hs (o := o) (by rw [h]; decide)).alignClosing _
  · exact (free_of_not_claiming hs (o := o) (by rw [h]; decide)).alignClosing _

theorem same_loadDwell (s : State) (o : OutletId) : SameSwitches s (s.loadDwell o) := by
  unfold State.loadDwell
  split
  · exact same_loadTimer _ _ _
  · exact .refl _
  · exact .refl _

theorem endOpening_consistent {s : State} {o : OutletId} (hs : s.switchesConsistent) (h : (s.outlet o).state = .opening) :
    (s.endOpening o).switchesConsistent := by
  have hf := free_of_not_claiming hs (o := o) (by rw [h]; decide)
  unfold State.endOpening
  split
  · exact noteOpened_consistent o ((same_loadDwell _ _).consistent (hf.place (by decide) (by decide)))
  · exact noteOpened_consistent o hf.enterOff

theorem leaveDwell_consistent {s : State} (o : OutletId) (hs : s.switchesConsistent) : (s.leaveDwell o).switchesConsistent :=
  enterClaiming_consistent o (((same_setRestore _ _ _).trans (same_setCycle _ _ _)).consistent hs)

/-! The line monitor. -/

theorem sagOutlet_consistent (b : Bank) {s : State} (o : OutletId) (hs : s.switchesConsistent) : (State.sagOutlet b s o).switchesConsistent := by
  unfold State.sagOutlet
  split
  · rename_i h
    split
    · exact (same_markDropped _ _).consistent ((free_of_not_claiming hs (o := o) (by rw [h]; decide)).place (by decide) (by decide))
    · exact hs
  · rename_i h
    have hf := free_of_not_claiming hs (o := o) (by rw [h]; decide)
    split
    · exact noteOpened_consistent o ((same_markDropped _ _).consistent hf.endPendingOff)
    · exact (same_markDropped _ _).consistent (hf.place (by decide) (by decide))
  all_goals exact hs

theorem sagOutlets_consistent {s : State} (b : Bank) (hs : s.switchesConsistent) : (s.sagOutlets b).switchesConsistent :=
  foldl_keeps (P := State.switchesConsistent) (fun _ o ht => sagOutlet_consistent b o ht) _ _ hs

theorem same_disturbBank (s : State) (b : Bank) : SameSwitches s (s.disturbBank b) := .foldl (fun _ _ => same_disturb _ _) _ _

theorem sagCondition_consistent {s : State} (b : Bank) (c : SagCause) (hs : s.switchesConsistent) : (s.sagCondition b c).switchesConsistent := by
  unfold State.sagCondition
  split
  · exact ((((same_withdrawClaim _ _).trans (same_disturbBank _ _)).trans (same_offerStatus _)).trans (same_post _ _ _ _ _)).consistent
      (sagOutlets_consistent b ((same_modLine _ _ _).consistent hs))
  · exact ((same_disturbBank _ _).trans (same_offerStatus _)).consistent (sagOutlets_consistent b ((same_modLine _ _ _).consistent hs))
  · exact hs

theorem restoreShed_consistent {s : State} (o : OutletId) (hs : s.switchesConsistent) : (s.restoreShed o).switchesConsistent :=
  noteClaiming_consistent o (enterClaiming_consistent o hs)

theorem enterNormal_consistent {s : State} (b : Bank) (hs : s.switchesConsistent) : (s.enterNormal b).switchesConsistent := by
  unfold State.enterNormal
  simp only
  refine ((((same_modClaim _ _ _).trans (same_offerStatus _)).trans (same_post _ _ _ _ _)).trans (same_modLine _ _ _)).consistent ?_
  split
  · exact foldl_keeps (P := State.switchesConsistent) (fun t o ht => restoreShed_consistent o ht) _ _ ((same_modLine _ _ _).consistent hs)
  · exact (same_modLine _ _ _).consistent hs

theorem judgeHalf_consistent {s : State} (b : Bank) (v : Nat) (c : Bool) (hs : s.switchesConsistent) : (s.judgeHalf b v c).switchesConsistent := by
  unfold State.judgeHalf
  split
  · exact ite_keeps (sagCondition_consistent _ _ ((same_modLine _ _ _).consistent hs)) ((same_modLine _ _ _).consistent hs)
  · exact ite_keeps (sagCondition_consistent _ _ ((same_modLine _ _ _).consistent hs)) ((same_modLine _ _ _).consistent hs)
  · exact ite_keeps (((same_modLine _ _ _).trans ((same_modLine _ _ _).trans (same_offerStatus _))).consistent hs)
      ((same_modLine _ _ _).consistent hs)

/-! The metering engine. -/

theorem watchOutlet_consistent (l : List Nat) {s : State} (o : OutletId) (hs : s.switchesConsistent) :
    (State.watchOutlet l s o).switchesConsistent := by
  unfold State.watchOutlet
  split
  · simp only
    split
    · exact trip_consistent _ _ _ ((same_modMeter _ _ _).consistent hs)
    · exact (same_modMeter _ _ _).consistent hs
  · exact hs

theorem closeHalf_consistent {s : State} (b : Bank) (h : HalfMeasure) (c : Bool) (t : Stamp) (hs : s.switchesConsistent) :
    (s.closeHalf b h c t).switchesConsistent :=
  foldl_keeps (P := State.switchesConsistent) (fun _ o ht => watchOutlet_consistent _ o ht) _ _
    (judgeHalf_consistent _ _ _ ((same_modWindow _ _ _).consistent hs))

theorem State.isIn_state {s : State} {o : OutletId} {st : OutletState} {sub : SubPhase} (h : s.isIn o st sub = true) : (s.outlet o).state = st := by
  simp only [State.isIn, Bool.and_eq_true, decide_eq_true_eq] at h; exact h.1

theorem crossOutlet_consistent {s : State} (o : OutletId) (hs : s.switchesConsistent) : (s.crossOutlet o).switchesConsistent := by
  unfold State.crossOutlet
  split
  · rename_i h
    exact (free_of_not_claiming hs (o := o) (by rw [State.isIn_state h]; decide)).alignClosing _
  · split
    · rename_i h
      simp only [Bool.and_eq_true] at h
      exact (free_of_not_claiming hs (o := o) (by rw [State.isIn_state h.1]; decide)).alignOpening _
    · exact hs

theorem same_endOutletWindow (n : Bool) (v ms : Nat) (w : WindowMeasure) (s : State) (o : OutletId) :
    SameSwitches s (State.endOutletWindow n v ms w s o) := by
  unfold State.endOutletWindow
  simp only
  split
  · exact ((same_modMeter _ _ _).trans (same_modPort _ _)).trans (same_post _ _ _ _ _)
  · exact (same_modMeter _ _ _).trans (same_modPort _ _)

theorem same_absorbWindow (s : State) (b : Bank) (c : OutletId → Bool) : SameSwitches s (s.absorbWindow b c) := .of_eq (by simp) (by simp)

theorem same_endWindow (s : State) (b : Bank) (m : WindowMeasure) (c : Option Stamp) : SameSwitches s (s.endWindow b m c) := by
  unfold State.endWindow
  simp only
  refine SameSwitches.trans ?_ (same_absorbWindow _ _ _)
  refine SameSwitches.trans ?_ (.foldl (fun _ _ => same_modMeter _ _ _) _ _)
  exact (SameSwitches.foldl (fun _ _ => same_endOutletWindow _ _ _ _ _ _) _ _).trans (same_modWindow _ _ _)

theorem same_countRise (s : State) (b : Bank) (m : WindowMeasure) (t : Stamp) : SameSwitches s (s.countRise b m t) := by
  unfold State.countRise
  split
  · exact same_endWindow _ _ _ _
  · exact same_modWindow _ _ _

theorem takeVoltageCrossing_consistent {s : State} (b : Bank) (e : Edge) (t : Stamp) (h : HalfMeasure) (m : WindowMeasure)
    (hs : s.switchesConsistent) : (s.takeVoltageCrossing b e t h m).switchesConsistent := by
  unfold State.takeVoltageCrossing
  simp only
  have h1 := closeHalf_consistent b h true t ((same_modLine (s.crossOutlets b) b (fun l => { l with lastCross := some t })).consistent
    (foldl_keeps (P := State.switchesConsistent) (fun _ o ht => crossOutlet_consistent o ht) _ _ hs))
  split
  · exact (same_countRise _ _ _ _).consistent h1
  · exact h1

theorem takeCurrentCrossing_consistent {s : State} (o : OutletId) (t : Stamp) (hs : s.switchesConsistent) :
    (s.takeCurrentCrossing o t).switchesConsistent := by
  have h1 := (same_modMeter s o (fun m => { m with lastCross := some t })).consistent hs
  unfold State.takeCurrentCrossing
  simp only
  split
  · rename_i h
    simp only [Bool.and_eq_true] at h
    exact (free_of_not_claiming h1 (o := o) (by rw [State.isIn_state h.1]; decide)).alignOpening _
  · exact h1

end Sys2Proof.Machine
end

