-- ==== Sys2Proof/Laws/Blocks.lean ====
section
/-! SUPPORT. Each operation of the link controller, the budget unit, the peer table and the host port keeps outlet records and closure queues consistent. -/

namespace Sys2Proof.Machine

/-! The link controller. -/

theorem linkGoesDown_consistent {s : State} (hs : s.switchesConsistent) : s.linkGoesDown.switchesConsistent :=
  endCyclesLocally_consistent ((SameSwitches.of_eq rfl rfl).consistent hs)

theorem enterLinkDown_consistent {s : State} (k : FrameKind) (hs : s.switchesConsistent) : (s.enterLinkDown k).switchesConsistent :=
  (same_post _ _ _ _ _).consistent (linkGoesDown_consistent ((same_modLink _ _).consistent hs))

theorem enterIsolated_consistent {s : State} (k : FrameKind) (n : Nat) (hs : s.switchesConsistent) : (s.enterIsolated k n).switchesConsistent :=
  (same_post _ _ _ _ _).consistent (linkGoesDown_consistent ((same_modLink _ _).consistent hs))

theorem same_offerOnBus (s : State) (l : List Nat) : SameSwitches s (s.offerOnBus l) := by
  unfold State.offerOnBus
  split
  · split
    · exact same_modLink _ _
    · exact .refl _
  · exact .refl _

theorem same_attemptCarried (s : State) : SameSwitches s s.attemptCarried := by
  unfold State.attemptCarried
  split
  · exact .refl _
  · simp only
    split
    · exact .of_eq (by simp) (by simp)
    · exact same_modLink _ _

theorem same_claimRemoved (s : State) (f : PeerFrame) : SameSwitches s (s.claimRemoved f) := by
  unfold State.claimRemoved
  split
  · exact same_modClaim _ _ _
  · exact .refl _

theorem same_settleAttempt (s : State) (a : Sending) : SameSwitches s (s.settleAttempt a) := by
  unfold State.settleAttempt
  split
  · exact (same_modLink _ _).trans (same_claimRemoved _ _)
  · split
    · exact .of_eq (by simp) (by simp)
    · exact .refl _

theorem attemptFails_consistent {s : State} (m : Bool) (hs : s.switchesConsistent) : (s.attemptFails m).switchesConsistent := by
  unfold State.attemptFails
  split
  · exact hs
  · rename_i a _
    have h1 := ((same_modLink s (fun l => { l with sending := none, failures := l.failures + 1, rejectDriven := m })).trans
      (same_settleAttempt _ a)).consistent hs
    exact ite_keeps (enterLinkDown_consistent _ h1) h1

theorem same_frameInError (s : State) : SameSwitches s s.frameInError := by
  unfold State.frameInError
  split
  · exact same_modLink _ _
  · exact same_modLink _ _
  · exact same_modLink _ _
  · exact .refl _
  · exact .refl _

theorem same_frameFails (s : State) (r : Reception) : SameSwitches s (s.frameFails r) := by
  unfold State.frameFails
  split
  · split
    · exact (same_modLink _ _).trans (same_offerJoin _ _)
    · exact same_modLink _ _
  · split
    · exact (same_modLink _ _).trans (same_offerJoin _ _)
    · exact same_modLink _ _
  · split
    · exact same_modLink _ _
    · exact .refl _
  · exact .refl _
  · exact .refl _

theorem same_enterJoining (s : State) : SameSwitches s s.enterJoining := (same_modLink _ _).trans (same_offerJoin _ _)

theorem startRestore_consistent {s : State} (hs : s.switchesConsistent) : s.startRestore.switchesConsistent := by
  unfold State.startRestore
  split
  · exact hs
  · exact (SameSwitches.of_eq rfl rfl).consistent
      (foldl_keeps (P := State.switchesConsistent) (fun t o ht => restoreShed_consistent o ht) _ _ hs)

theorem enterActive_consistent {s : State} (hs : s.switchesConsistent) : s.enterActive.switchesConsistent :=
  startRestore_consistent (((same_modLink _ _).trans (same_post _ _ _ _ _)).consistent hs)

/-! Overload shedding. -/

theorem same_reportOverload (s : State) (n : BranchId) (d : Nat) : SameSwitches s (s.reportOverload n d) := by
  unfold State.reportOverload
  split
  · exact .refl _
  · exact (same_modOver _ _ _).trans (same_post _ _ _ _ _)

/-- The outlet chosen for a shed is ON (R127, R130). -/
theorem shedChoice_isOn {s : State} {n : BranchId} {o : OutletId} (h : s.shedChoice n = some o) : (s.outlet o).state = .on := by
  have key : ∀ (l : List OutletId) (best : Option OutletId), (∀ x, best = some x → (s.outlet x).state = .on) →
      (∀ x ∈ l, (s.outlet x).state = .on) → ∀ x, l.foldl s.shedBefore best = some x → (s.outlet x).state = .on := by
    intro l
    induction l with
    | nil => intro best hb _ x hx; exact hb x hx
    | cons y ys ih =>
      intro best hb hl x hx
      refine ih (s.shedBefore best y) ?_ (fun z hz => hl z (List.mem_cons_of_mem _ hz)) x hx
      intro z hz
      unfold State.shedBefore at hz
      split at hz
      · cases hz; exact hl _ List.mem_cons_self
      · split at hz
        · cases hz; exact hl _ List.mem_cons_self
        · cases hz; exact hb _ rfl
  refine key _ none (fun x hx => by cases hx) (fun x hx => ?_) o h
  have := (List.mem_filter.1 hx).2
  simp only [Bool.and_eq_true, Outlet.isCandidate, decide_eq_true_eq] at this
  exact this.2.1.1.1

theorem shedOn_consistent {s : State} (n : BranchId) (hs : s.switchesConsistent) : (s.shedOn n).switchesConsistent := by
  unfold State.shedOn
  split
  · rename_i o h
    have ho := shedChoice_isOn h
    exact ((same_post _ _ _ _ _).trans (same_offerStatus _)).consistent (free_of_not_claiming hs (by rw [ho]; decide)).enterOpening
  · exact ((same_offerStatus _).trans (same_reportOverload _ _ _)).consistent hs

theorem designate_consistent {s : State} (n : BranchId) (hs : s.switchesConsistent) : (s.designate n).switchesConsistent := by
  unfold State.designate
  split
  · exact ((same_modOver _ _ _).trans (same_reportOverload _ _ _)).consistent hs
  · exact ite_keeps (shedOn_consistent _ ((same_modOver _ _ _).consistent hs)) ((same_modOver _ _ _).consistent hs)

theorem evaluate_consistent {s : State} (n : BranchId) (hs : s.switchesConsistent) : (s.evaluate n).switchesConsistent := by
  unfold State.evaluate
  simp only
  split
  · split
    · exact ((same_modOver _ _ _).trans (same_modOver _ _ _)).consistent hs
    · exact designate_consistent _ ((same_modOver _ _ _).consistent hs)
    · exact hs
  · exact ((same_modOver _ _ _).trans (same_modOver _ _ _)).consistent hs

theorem overloadAfter_consistent {s : State} (k : StationId) (hs : s.switchesConsistent) : (s.overloadAfter k).switchesConsistent :=
  foldl_keeps (P := State.switchesConsistent) (fun t n ht => by
    show (State.overloadStep k t n).switchesConsistent
    unfold State.overloadStep
    split
    · exact ite_keeps ((same_modOver _ _ _).consistent ht) ht
    · exact ite_keeps (evaluate_consistent _ ht) ht) _ _ hs

/-! The peer table. -/

theorem same_heard (s : State) (k : StationId) : SameSwitches s (s.heard k) := by
  unfold State.heard
  split
  · exact .refl _
  · exact same_modPeer _ _ _
  · exact (same_modPeer _ _ _).trans (same_post _ _ _ _ _)

theorem same_heardFrom (s : State) (k : StationId) : SameSwitches s (s.heardFrom k) := by
  unfold State.heardFrom
  split
  · split
    · exact same_offerJoin _ _
    · exact .refl _
  · exact same_heard _ _

theorem same_setConflict (k : StationId) (s : State) (n : BranchId) : SameSwitches s (State.setConflict k s n) := by
  unfold State.setConflict
  split
  · exact .refl _
  · exact .of_eq (by simp) (by simp)

theorem same_checkConflicts (s : State) (k : StationId) (p : JoinPayload) : SameSwitches s (s.checkConflicts k p) :=
  (same_modPeer _ _ _).trans (.foldl (fun _ _ => same_setConflict _ _ _) _ _)

theorem same_recheckConflicts (s : State) (k : StationId) : SameSwitches s (s.recheckConflicts k) :=
  .foldl (fun t n => by
    show SameSwitches t (State.clearConflict k t n)
    unfold State.clearConflict
    split
    · exact .of_eq (by simp) (by simp)
    · exact .refl _) _ _

theorem same_reportDuplicate (s : State) (k : StationId) (p : JoinPayload) : SameSwitches s (s.reportDuplicate k p) := by
  unfold State.reportDuplicate
  split
  · exact same_post _ _ _ _ _
  · exact .refl _

theorem same_reportJoined (s : State) (e : Peer) (k : StationId) (p : JoinPayload) : SameSwitches s (s.reportJoined e k p) := by
  unfold State.reportJoined
  split
  · exact same_post _ _ _ _ _
  · exact .refl _

theorem same_replyJoin (s : State) (k : StationId) (p : JoinPayload) : SameSwitches s (s.replyJoin k p) := by
  unfold State.replyJoin
  split
  · exact same_offerJoin _ _
  · exact .refl _

theorem same_rebuildRosters (s : State) : SameSwitches s s.rebuildRosters := .of_eq rfl rfl

theorem same_tableJoin (s : State) (k : StationId) (p : JoinPayload) : SameSwitches s (s.tableJoin k p) := by
  unfold State.tableJoin
  simp only
  refine (SameSwitches.trans ?_ (same_recheckConflicts _ _)).trans ((same_reportJoined _ _ _ _).trans (same_replyJoin _ _ _))
  have h1 : SameSwitches s (((s.reportDuplicate k p).modPeer k (Peer.joined s.boardTime p)).rebuildRosters) :=
    ((same_reportDuplicate _ _ _).trans (same_modPeer _ _ _)).trans (same_rebuildRosters _)
  split
  · exact h1
  · exact h1.trans (same_checkConflicts _ _ _)

theorem same_triggerRetries (s : State) (p : BranchId → Bool) : SameSwitches s (s.triggerRetries p) := .of_eq (by simp) (by simp)

theorem groupJoin_consistent (before : State) (k : StationId) (p : JoinPayload) {s : State} (g : Nat) (hs : s.switchesConsistent) :
    (State.groupJoin before k p s g).switchesConsistent := by
  unfold State.groupJoin
  split
  · exact hs
  · rename_i r _
    have h1 : (if r.beforeRestore && s.joinAborts before k p g then s.offerAbort g .rejoined else s).switchesConsistent :=
      ite_keeps (offerAbort_consistent _ _ hs) hs
    exact ite_keeps ((same_removeAwaited _ _ _).consistent h1) h1

theorem applyJoin_consistent {s : State} (k : StationId) (p : JoinPayload) (hs : s.switchesConsistent) : (s.applyJoin k p).switchesConsistent :=
  foldl_keeps (P := State.switchesConsistent) (fun _ g ht => groupJoin_consistent _ _ _ g ht) _ _
    (((same_tableJoin _ _ _).trans (same_triggerRetries _ _)).consistent hs)

theorem same_reportForgotten (s : State) (k : StationId) (e : EntryState) : SameSwitches s (s.reportForgotten k e) := by
  unfold State.reportForgotten
  split
  · split
    · exact same_offerJoin _ _
    · exact .refl _
  · exact same_post _ _ _ _ _

theorem same_tableForget (s : State) (k : StationId) : SameSwitches s (s.tableForget k) := by
  unfold State.tableForget
  exact (((same_modPeer _ _ _).trans (same_rebuildRosters _)).trans (same_recheckConflicts _ _)).trans (same_reportForgotten _ _ _)

theorem same_endHolds (s : State) (k : StationId) : SameSwitches s (s.endHolds k) := .of_eq rfl rfl

theorem applyForget_consistent {s : State} (k n : StationId) (hs : s.switchesConsistent) : (s.applyForget k n).switchesConsistent := by
  have h1 := ((((same_heard s k).trans (same_tableForget _ n)).trans
    (same_triggerRetries _ (loweredOrCleared s ((s.heard k).tableForget n)))).trans (same_endHolds _ n)).consistent hs
  exact ite_keeps h1 (foldl_keeps (P := State.switchesConsistent) (fun _ g ht => (same_removeAwaited _ g _).consistent ht) _ _ h1)

theorem same_endClaims (s : State) (p : Banked StatusBank) : SameSwitches s (s.endClaims p) := .of_eq rfl rfl

theorem applyStatus_consistent {s : State} (k : StationId) (p : Banked StatusBank) (hs : s.switchesConsistent) :
    (s.applyStatus k p).switchesConsistent := by
  have h1 := ((same_heardFrom s k).trans (same_modPeer _ k (Peer.reported p))).consistent hs
  exact overloadAfter_consistent k ((same_triggerRetries _ _).consistent (ite_keeps ((same_endClaims _ _).consistent h1) h1))

theorem losePeer_consistent (k : StationId) {s : State} (hs : s.switchesConsistent) : (State.losePeer k s).switchesConsistent :=
  foldl_keeps (P := State.switchesConsistent) (fun t g ht => by
    show (State.groupLost k t g).switchesConsistent
    unfold State.groupLost
    split
    · exact ht
    · split
      · split
        · exact offerAbort_consistent _ _ ht
        · exact offerAbort_consistent _ _ ht
        · exact (same_removeAwaited _ _ _).consistent ht
        · exact ht
        · exact ht
      · exact ht) _ _ (((same_modPeer _ _ _).trans ((same_post _ _ _ _ _).trans (same_endHolds _ _))).consistent hs)

/-! Carried frames. -/

theorem same_takeOwn (s : State) (k : StationId) (f : PeerFrame) : SameSwitches s (s.takeOwn k f) := by
  unfold State.takeOwn
  split
  · exact same_attemptCarried _
  · exact .refl _

theorem receive_consistent {s : State} (k : StationId) (f : PeerFrame) {act : State → State}
    (h : ∀ t : State, t.switchesConsistent → (act t).switchesConsistent) (hs : s.switchesConsistent) :
    (s.receive k f act).switchesConsistent := by
  unfold State.receive
  split
  · exact hs
  · exact hs
  · exact ite_keeps ((same_frameInError _).consistent hs) (ite_keeps (enterIsolated_consistent _ _ hs) (h _ hs))
  · exact ite_keeps ((same_frameInError _).consistent hs)
      (ite_keeps (enterIsolated_consistent _ _ hs) (h _ (((same_takeOwn _ _ _).trans (same_modLink _ _)).consistent hs)))
  · exact ite_keeps ((same_frameInError _).consistent hs)
      (ite_keeps (enterIsolated_consistent _ _ hs) (h _ (((same_takeOwn _ _ _).trans (same_modLink _ _)).consistent hs)))

theorem same_dropGrant (s : State) (b : Bank) : SameSwitches s (s.dropGrant b) := (same_modClaim _ _ _).trans (same_offerStatus _)

theorem actOnVerdict_consistent {s : State} (p : ClaimPayload) (v : Bool) (hs : s.switchesConsistent) : (s.actOnVerdict p v).switchesConsistent :=
  ite_keeps
    (ite_keeps (ite_keeps (enterClosing_consistent _ ((same_modClaim _ _ _).consistent hs)) ((same_dropGrant _ _).consistent hs))
      ((same_modClaim _ _ _).consistent hs)) hs

theorem same_recompose (s : State) : SameSwitches s s.recompose := .of_eq (by simp) (by simp)

theorem applyClaim_consistent {s : State} (k : StationId) (p : ClaimPayload) (hs : s.switchesConsistent) : (s.applyClaim k p).switchesConsistent := by
  have h1 : ((s.heardFrom k).recordClaim k p).switchesConsistent := ((same_heardFrom s k).trans (.of_eq (by simp) (by simp))).consistent hs
  exact ite_keeps ((same_recompose _).consistent (actOnVerdict_consistent _ _ h1)) h1

theorem same_clearPending (s : State) (k : StationId) (p : OpenGroupPayload) : SameSwitches s (s.clearPending k p) := by
  unfold State.clearPending
  split
  · exact same_modGroup _ _ _
  · exact .refl _

theorem same_reportMerged (s : State) (k : StationId) (g : Nat) (r : CycleRecord) : SameSwitches s (s.reportMerged k g r) := by
  unfold State.reportMerged
  split
  · exact same_post _ _ _ _ _
  · exact .refl _

theorem same_reportRequested (s : State) (k : StationId) (p : OpenGroupPayload) : SameSwitches s (s.reportRequested k p) := by
  unfold State.reportRequested
  split
  · exact .refl _
  · exact same_post _ _ _ _ _

theorem same_abortAtOpen (s : State) (r : CycleRecord) : SameSwitches s (s.abortAtOpen r).1 := by
  unfold State.abortAtOpen
  split
  · split
    · rename_i h; exact same_queueAbort h
    · exact same_abortNotQueued _ _
  · exact .refl _

theorem openCycle_consistent {s : State} (k : StationId) (p : OpenGroupPayload) (hs : s.switchesConsistent) : (s.openCycle k p).switchesConsistent := by
  unfold State.openCycle
  simp only
  have h1 := (same_reportRequested _ k p).consistent (maybeGroupOff_consistent p.group
    (foldl_keeps (P := State.switchesConsistent) (fun t o ht => openMember_consistent o ht) (s.members p.group) _
      ((same_abortAtOpen { s with records := insertRecord (s.newRecord p) s.records } (s.newRecord p)).consistent
        ((SameSwitches.of_eq rfl rfl).consistent hs))))
  exact ite_keeps (actAbort_consistent _ _ h1) h1

theorem applyOpenGroup_consistent {s : State} (k : StationId) (p : OpenGroupPayload) (hs : s.switchesConsistent) :
    (s.applyOpenGroup k p).switchesConsistent := by
  have h1 := ((same_heardFrom s k).trans (same_clearPending _ k p)).consistent hs
  unfold State.applyOpenGroup
  simp only
  split
  · exact h1
  · split
    · exact h1
    · split
      · exact (same_reportMerged _ _ _ _).consistent h1
      · exact openCycle_consistent _ _ h1

theorem applyGroupOff_consistent {s : State} (k : StationId) (p : GroupOffPayload) (hs : s.switchesConsistent) :
    (s.applyGroupOff k p).switchesConsistent := by
  have h1 := (same_heardFrom s k).consistent hs
  unfold State.applyGroupOff
  simp only
  split
  · exact h1
  · exact ite_keeps (ite_keeps (abortCycle_consistent _ _ (((same_modRecord _ _ _).trans (same_modRecord _ _ _)).consistent h1))
      (((same_modRecord _ _ _).trans (same_removeAwaited _ _ _)).consistent h1)) h1

theorem same_applyGroupOn (s : State) (k : StationId) (p : GroupOnPayload) : SameSwitches s (s.applyGroupOn k p) := by
  have h1 := same_heardFrom s k
  unfold State.applyGroupOn
  simp only
  split
  · exact h1
  · split
    · split
      · exact h1.trans (same_modRecord _ _ _)
      · exact h1
    · split
      · exact h1.trans ((same_modRecord _ _ _).trans (same_removeAwaited _ _ _))
      · exact h1
    · exact h1
    · exact h1
    · exact h1

theorem applyGroupAbort_consistent {s : State} (k : StationId) (p : GroupAbortPayload) (hs : s.switchesConsistent) :
    (s.applyGroupAbort k p).switchesConsistent := by
  have h1 := (same_heardFrom s k).consistent hs
  unfold State.applyGroupAbort
  simp only
  split
  · exact h1
  · exact actAbort_consistent _ _ h1

/-! Time. -/

theorem age_switchPart (dt limit : Nat) (held : Bool) (x : Outlet) : (x.age dt limit held).switchPart = x.switchPart := by
  cases held <;> simp [Outlet.age, Outlet.switchPart]

theorem same_passTime (s : State) (dt : Nat) : SameSwitches s (s.passTime dt) := by
  unfold State.passTime
  split
  · exact .refl _
  · refine ⟨fun o => ?_, rfl⟩
    simp only [State.outlet, Tab.get_mapIdx]
    exact age_switchPart _ _ _ _

theorem passTime_state (s : State) (dt : Nat) (o : OutletId) : ((s.passTime dt).outlet o).state = (s.outlet o).state :=
  (same_passTime s dt).state o

theorem passTime_inReset (s : State) (dt : Nat) : (s.passTime dt).inReset = s.inReset := by
  unfold State.passTime; split
  · rfl
  · rfl

theorem expire_consistent {s : State} (due : Option Nat) {fire : State → State}
    (h : ∀ d, due = some d → (s.passTime d).switchesConsistent → (fire (s.passTime d)).switchesConsistent) (hs : s.switchesConsistent) :
    (s.expire due fire).switchesConsistent := by
  unfold State.expire
  split
  · exact hs
  · exact h _ rfl ((same_passTime _ _).consistent hs)

/-! The host port. -/

theorem PortOnly.same {s t : State} (h : PortOnly s t) : SameSwitches s t := by
  rw [show t = { s with port := t.port } from h]; exact .of_eq rfl rfl

theorem same_readEffect (s : State) (c : Capture) : SameSwitches s (s.readEffect c) := by
  unfold State.readEffect
  split
  · exact same_modPort _ _
  · split
    · exact same_modPort _ _
    · exact .refl _
  · split
    · split
      · exact same_modMeter _ _ _
      · exact .refl _
    · exact .refl _
  all_goals exact .refl _

theorem same_endRead (s : State) (n : Nat) (r : ReadRequest) : SameSwitches s (s.endRead n r) := by
  unfold State.endRead
  split
  · exact (portOnly_rejectFrame s).same
  · split
    · exact (same_readEffect _ _).trans (portOnly_finishRead _ _).same
    · exact (portOnly_rejectFrame s).same

theorem same_runRead (s : State) (n : Nat) (r : ReadRequest) : SameSwitches s (s.runRead n r) := by
  unfold State.runRead State.onFrame
  split
  · exact (portOnly_closeFrame s).same
  · split
    · exact (portOnly_withCapture s r).same.trans (same_endRead _ _ _)
    · exact ((portOnly_openFrame s).trans (portOnly_rejectFrame _)).same

theorem runFrame_consistent {s : State} (n a : Nat) {run : State → Answer} (h : ∀ t, t.switchesConsistent → (run t).1.switchesConsistent)
    (hs : s.switchesConsistent) : (s.runFrame n a run).switchesConsistent := by
  unfold State.runFrame State.onFrame
  exact ite_keeps ((portOnly_closeFrame s).same.consistent hs)
    (ite_keeps ((portOnly_writeResult _ _).same.consistent (h _ ((portOnly_openFrame s).same.consistent hs)))
      (((portOnly_openFrame s).trans (portOnly_rejectFrame _)).same.consistent hs))

end Sys2Proof.Machine
end

