-- ==== Sys2Proof/Laws/Board.lean ====
section
/-! SUPPORT. The inputs, the samples, the phase and the configuration, which only a reset, LOCK, START or a configuration command changes, and the queue of commands, which none does. -/

namespace Sys2Proof.Machine

/-- What every operation of the running board leaves as it was. -/
structure Board where
  pending : List Instr
  inReset : Bool
  jumperPins : Jumpers
  lockPin : Bool
  serial : Serial
  phase : Phase
  station : StationId
  lke : Bool
  lockSample : Bool
  cfg : BoardConfig
  banks : Banked BankConfig
  profiles : Tab 4 Profile
  outlets : OutletId → OutletConfig
  groups : List (Nat × Nat × Policy)

def State.board (s : State) : Board :=
  ⟨s.pending, s.inReset, s.jumperPins, s.lockPin, s.serial, s.phase, s.station, s.lke, s.lockSample, s.cfg, s.banks, s.profiles,
    fun o => (s.outlet o).cfg, s.groups.map (fun e => (e.group, e.dwell, e.policy))⟩

/-! The updates of one record. -/

theorem board_modOutlet (s : State) (o : OutletId) (f : Outlet → Outlet) (h : (f (s.outlet o)).cfg = (s.outlet o).cfg) :
    (s.modOutlet o f).board = s.board := by
  have : (fun p => ((s.modOutlet o f).outlet p).cfg) = fun p => (s.outlet p).cfg := by
    funext p
    rw [modOutlet_outlet]
    split
    · rename_i hp; rw [h, hp]
    · rfl
  unfold State.board
  rw [this]; rfl

@[simp] theorem board_modMeter (s : State) o f : (s.modMeter o f).board = s.board := rfl
@[simp] theorem board_modLine (s : State) b f : (s.modLine b f).board = s.board := rfl
@[simp] theorem board_modWindow (s : State) b f : (s.modWindow b f).board = s.board := rfl
@[simp] theorem board_setQueue (s : State) b q : (s.setQueue b q).board = s.board := rfl
@[simp] theorem board_modClaim (s : State) b f : (s.modClaim b f).board = s.board := rfl
@[simp] theorem board_modPeer (s : State) k f : (s.modPeer k f).board = s.board := rfl
@[simp] theorem board_modOver (s : State) n f : (s.modOver n f).board = s.board := rfl
@[simp] theorem board_modLink (s : State) f : (s.modLink f).board = s.board := rfl
@[simp] theorem board_modPort (s : State) f : (s.modPort f).board = s.board := rfl
theorem board_mapGroups (s : State) (f : GroupEntry → GroupEntry) (h : ∀ e, ((f e).group, (f e).dwell, (f e).policy) = (e.group, e.dwell, e.policy)) :
    State.board { s with groups := s.groups.map f } = s.board := by
  have : (s.groups.map f).map (fun e => (e.group, e.dwell, e.policy)) = s.groups.map (fun e => (e.group, e.dwell, e.policy)) := by
    rw [List.map_map]; exact List.map_congr_left (fun e _ => h e)
  unfold State.board
  rw [this]; rfl

theorem board_modGroup (s : State) (g : Nat) (f : GroupEntry → GroupEntry)
    (h : ∀ e, ((f e).group, (f e).dwell, (f e).policy) = (e.group, e.dwell, e.policy)) : (s.modGroup g f).board = s.board :=
  board_mapGroups s _ (fun e => by
    split
    · exact h e
    · rfl)

@[simp] theorem board_modRecord (s : State) g f : (s.modRecord g f).board = s.board := rfl
@[simp] theorem board_loadTimer (s : State) o ms : (s.loadTimer o ms).board = s.board := board_modOutlet _ _ _ rfl
@[simp] theorem board_setUnaligned (s : State) o v : (s.setUnaligned o v).board = s.board := board_modOutlet _ _ _ rfl
@[simp] theorem board_setTarget (s : State) o t : (s.setTarget o t).board = s.board := board_modOutlet _ _ _ rfl
@[simp] theorem board_setRestore (s : State) o v : (s.setRestore o v).board = s.board := board_modOutlet _ _ _ rfl
@[simp] theorem board_setCycle (s : State) o c : (s.setCycle o c).board = s.board := board_modOutlet _ _ _ rfl
@[simp] theorem board_setPendingOff (s : State) o : (s.setPendingOff o).board = s.board := board_modOutlet _ _ _ rfl
@[simp] theorem board_joinCycle (s : State) o : (s.joinCycle o).board = s.board := board_modOutlet _ _ _ rfl
@[simp] theorem board_endLocal (s : State) o : (s.endLocal o).board = s.board :=
  board_modOutlet _ _ _ (by unfold Outlet.endLocal; split <;> rfl)
@[simp] theorem board_place (s : State) o st sub : (s.place o st sub).board = s.board :=
  (board_modMeter _ _ _).trans (board_modOutlet _ _ _ rfl)
@[simp] theorem board_startAlign (s : State) o st : (s.startAlign o st).board = s.board :=
  (board_modOutlet _ _ _ rfl).trans (board_place _ _ _ _)

@[simp] theorem board_foldl {α : Type} {f : State → α → State} (h : ∀ t x, (f t x).board = t.board) (l : List α) (s : State) :
    (l.foldl f s).board = s.board :=
  foldl_keeps (P := fun t => t.board = s.board) (fun t x ht => (h t x).trans ht) l s rfl

theorem board_offer {s t : State} {u : Nat} {f : PeerFrame} (h : s.offer u f = some t) : t.board = s.board := by
  rw [offer_frame h]; rfl

@[simp] theorem board_protect (s : State) set : (s.protect set).board = s.board := by
  have : (fun p => ((s.protect set).outlet p).cfg) = fun p => (s.outlet p).cfg := by
    funext p; simp only [State.outlet, State.protect, Tab.get_mapIdx]
  unfold State.board
  rw [this]; rfl

@[simp] theorem board_passTime (s : State) dt : (s.passTime dt).board = s.board := by
  unfold State.passTime
  split
  · rfl
  · unfold State.board State.outlet
    simp only [Tab.get_mapIdx]
    rfl

@[simp] theorem board_ite {c : Prop} [Decidable c] (s t : State) : (if c then s else t).board = if c then s.board else t.board := apply_ite _ _ _ _
@[simp] theorem board_records (s : State) l : State.board { s with records := l } = s.board := rfl
@[simp] theorem board_conflicts (s : State) l : State.board { s with conflicts := l } = s.board := rfl
@[simp] theorem board_overload (s : State) l : State.board { s with overload := l } = s.board := rfl
@[simp] theorem board_restored (s : State) r v : State.board { s with restoreSet := r, startRestored := v } = s.board := rfl
@[simp] theorem board_seq (s : State) n : State.board { s with seq := n } = s.board := rfl
@[simp] theorem board_releaseMember (s : State) (o : OutletId) : (s.modOutlet o Outlet.releaseMember).board = s.board := board_modOutlet _ _ _ rfl
@[simp] theorem board_leaveCycle (s : State) (o : OutletId) (v : Bool) (c : CycleMember) :
    (s.modOutlet o (fun x => { x with restoreIntent := v, cycle := c })).board = s.board := board_modOutlet _ _ _ rfl
@[simp] theorem board_stopTimer (s : State) (o : OutletId) (v : Option Nat) :
    (s.modOutlet o (fun x => { x with stateTimer := v })).board = s.board := board_modOutlet _ _ _ rfl
@[simp] theorem board_alignPeak (s : State) (o : OutletId) (f : Outlet → Nat) :
    (s.modOutlet o (fun x => { x with alignPeak := f x })).board = s.board := board_modOutlet _ _ _ rfl

/-! Every other operation. -/

@[simp] theorem board_post (s : State) (k : EventKind) (subject detail value : Nat) : (State.post s k subject detail value).board = s.board := by
  unfold State.post
  (repeat' split) <;> simp
@[simp] theorem board_insertFrame (s : State) (urgency : Nat) (f : PeerFrame) : (State.insertFrame s urgency f).board = s.board := rfl
@[simp] theorem board_replaceReserved (s : State) (f : PeerFrame) : (State.replaceReserved s f).board = s.board := rfl
@[simp] theorem board_offerReserved (s : State) (f : PeerFrame) : (State.offerReserved s f).board = s.board := by
  unfold State.offerReserved
  (repeat' split) <;> simp
@[simp] theorem board_offerStatus (s : State) : (State.offerStatus s).board = s.board := by
  unfold State.offerStatus
  (repeat' split) <;> simp
@[simp] theorem board_offerJoin (s : State) (replyRequested : Bool) : (State.offerJoin s replyRequested).board = s.board := by
  unfold State.offerJoin
  (repeat' split) <;> simp
@[simp] theorem board_recompose (s : State) : (State.recompose s).board = s.board := by
  unfold State.recompose
  (repeat' split) <;> simp
@[simp] theorem board_removeFrames (s : State) (p : PeerFrame → Bool) : (State.removeFrames s p).board = s.board := rfl
@[simp] theorem board_joinQueue (s : State) (o : OutletId) : (State.joinQueue s o).board = s.board := by
  unfold State.joinQueue
  (repeat' split) <;> simp
@[simp] theorem board_leaveQueue (s : State) (o : OutletId) : (State.leaveQueue s o).board = s.board := by
  unfold State.leaveQueue
  (repeat' split) <;> simp
@[simp] theorem board_withdrawClaim (s : State) (b : Bank) : (State.withdrawClaim s b).board = s.board := by
  unfold State.withdrawClaim
  (repeat' split) <;> simp
@[simp] theorem board_leaveClaiming (s : State) (o : OutletId) : (State.leaveClaiming s o).board = s.board := by
  unfold State.leaveClaiming
  (repeat' split) <;> simp
@[simp] theorem board_markDropped (s : State) (o : OutletId) : (State.markDropped s o).board = s.board := by
  unfold State.markDropped
  (repeat' split) <;> simp
@[simp] theorem board_dropClaim (s : State) (o : OutletId) : (State.dropClaim s o).board = s.board := by
  unfold State.dropClaim
  (repeat' split) <;> simp
@[simp] theorem board_issueClaim (s : State) (b : Bank) : (State.issueClaim s b).board = s.board := by
  unfold State.issueClaim
  try dsimp only
  (repeat' split) <;> first | (simp; done) | (rename_i h; simp [board_offer h]; done) | rfl
@[simp] theorem board_issueClaims (s : State) : (State.issueClaims s).board = s.board := by
  unfold State.issueClaims
  (repeat' split) <;> simp
@[simp] theorem board_clearRetry (s : State) (n : BranchId) : (State.clearRetry s n).board = s.board := rfl
@[simp] theorem board_triggerRetries (s : State) (p : BranchId → Bool) : (State.triggerRetries s p).board = s.board := by
  unfold State.triggerRetries
  try dsimp only
  (repeat' split) <;> first | (simp; done) | (rename_i h; simp [board_offer h]; done) | rfl
@[simp] theorem board_setHeld (s : State) (k : StationId) (b : Bank) (amount : Nat) : (State.setHeld s k b amount).board = s.board := by
  unfold State.setHeld
  (repeat' split) <;> simp
@[simp] theorem board_recordClaim (s : State) (source : StationId) (p : ClaimPayload) : (State.recordClaim s source p).board = s.board := by
  unfold State.recordClaim
  (repeat' split) <;> simp
@[simp] theorem board_absorbWindow (s : State) (b : Bank) (clean : OutletId → Bool) : (State.absorbWindow s b clean).board = s.board := by
  unfold State.absorbWindow
  (repeat' split) <;> simp
@[simp] theorem board_endClaims (s : State) (p : Banked StatusBank) : (State.endClaims s p).board = s.board := rfl
@[simp] theorem board_withdrawAllSent (s : State) : (State.withdrawAllSent s).board = s.board := rfl
@[simp] theorem board_meetTarget (s : State) (o : OutletId) : (State.meetTarget s o).board = s.board := by
  unfold State.meetTarget
  (repeat' split) <;> simp
@[simp] theorem board_enterOff (s : State) (o : OutletId) : (State.enterOff s o).board = s.board := by
  unfold State.enterOff
  (repeat' split) <;> simp
@[simp] theorem board_enterClaiming (s : State) (o : OutletId) : (State.enterClaiming s o).board = s.board := by
  unfold State.enterClaiming
  (repeat' split) <;> simp
@[simp] theorem board_startCoil (s : State) (o : OutletId) : (State.startCoil s o).board = s.board := by
  unfold State.startCoil
  (repeat' split) <;> simp
@[simp] theorem board_startClosingSettle (s : State) (o : OutletId) : (State.startClosingSettle s o).board = s.board := by
  unfold State.startClosingSettle
  (repeat' split) <;> simp
@[simp] theorem board_startOpeningSettle (s : State) (o : OutletId) : (State.startOpeningSettle s o).board = s.board := by
  unfold State.startOpeningSettle
  (repeat' split) <;> simp
@[simp] theorem board_enterClosing (s : State) (o : OutletId) : (State.enterClosing s o).board = s.board := by
  unfold State.enterClosing
  (repeat' split) <;> simp
@[simp] theorem board_enterOpening (s : State) (o : OutletId) : (State.enterOpening s o).board = s.board := by
  unfold State.enterOpening
  (repeat' split) <;> simp
@[simp] theorem board_endPendingOff (s : State) (o : OutletId) : (State.endPendingOff s o).board = s.board := by
  unfold State.endPendingOff
  (repeat' split) <;> simp
@[simp] theorem board_alignClosing (s : State) (o : OutletId) (unaligned : Bool) : (State.alignClosing s o unaligned).board = s.board := by
  unfold State.alignClosing
  (repeat' split) <;> simp
@[simp] theorem board_alignOpening (s : State) (o : OutletId) (unaligned : Bool) : (State.alignOpening s o unaligned).board = s.board := by
  unfold State.alignOpening
  (repeat' split) <;> simp
@[simp] theorem board_setStatus (s : State) (g : Nat) (o : OutletId) (st : MemberStatus) : (State.setStatus s g o st).board = s.board := by
  unfold State.setStatus
  (repeat' split) <;> simp
@[simp] theorem board_releaseMembers (s : State) (ms : List Member) : (State.releaseMembers s ms).board = s.board := by
  unfold State.releaseMembers
  try dsimp only
  (repeat' split) <;> first | (simp; done) | (rename_i h; simp [board_offer h]; done) | rfl
@[simp] theorem board_finishCycle (s : State) (g : Nat) (out : CycleOutcome) : (State.finishCycle s g out).board = s.board := by
  unfold State.finishCycle
  (repeat' split) <;> simp
@[simp] theorem board_restoreByAbort (s : State) (o : OutletId) : (State.restoreByAbort s o).board = s.board := by
  unfold State.restoreByAbort
  try dsimp only
  (repeat' split) <;> first | (simp; done) | (rename_i h; simp [board_offer h]; done) | rfl
@[simp] theorem board_checkAbortDone (s : State) (g : Nat) : (State.checkAbortDone s g).board = s.board := by
  unfold State.checkAbortDone
  (repeat' split) <;> simp
@[simp] theorem board_abortCycle (s : State) (g : Nat) (reason : EndReason) : (State.abortCycle s g reason).board = s.board := by
  unfold State.abortCycle
  (repeat' split) <;> simp
@[simp] theorem board_actAbort (s : State) (g : Nat) (reason : EndReason) : (State.actAbort s g reason).board = s.board := by
  unfold State.actAbort
  (repeat' split) <;> simp
@[simp] theorem board_abortNotQueued (s : State) (r : CycleRecord) : (State.abortNotQueued s r).board = s.board := by
  unfold State.abortNotQueued
  (repeat' split) <;> simp

theorem board_queueAbort {s t : State} {r : CycleRecord} {a : AbortReason} (h : s.queueAbort r a = some t) : t.board = s.board := by
  unfold State.queueAbort at h
  dsimp only at h
  split at h
  · cases h; simp
  · rw [board_offer h]; simp

@[simp] theorem board_offerAbort (s : State) (g : Nat) (reason : AbortReason) : (State.offerAbort s g reason).board = s.board := by
  unfold State.offerAbort
  try dsimp only
  (repeat' split) <;> first | (simp; done) | (rename_i h; simp [board_queueAbort h]; done) | rfl
@[simp] theorem board_maybeGroupOff (s : State) (g : Nat) : (State.maybeGroupOff s g).board = s.board := by
  unfold State.maybeGroupOff
  try dsimp only
  (repeat' split) <;> first | (simp; done) | (rename_i h; simp [board_offer h]; done) | rfl
@[simp] theorem board_maybeGroupOn (s : State) (g : Nat) : (State.maybeGroupOn s g).board = s.board := by
  unfold State.maybeGroupOn
  try dsimp only
  (repeat' split) <;> first | (simp; done) | (rename_i h; simp [board_offer h]; done) | rfl
@[simp] theorem board_noteOpened (s : State) (o : OutletId) : (State.noteOpened s o).board = s.board := by
  unfold State.noteOpened
  (repeat' split) <;> simp
@[simp] theorem board_noteRestored (s : State) (o : OutletId) : (State.noteRestored s o).board = s.board := by
  unfold State.noteRestored
  (repeat' split) <;> simp
@[simp] theorem board_noteFailed (s : State) (o : OutletId) : (State.noteFailed s o).board = s.board := by
  unfold State.noteFailed
  (repeat' split) <;> simp
@[simp] theorem board_noteTripped (s : State) (o : OutletId) : (State.noteTripped s o).board = s.board := by
  unfold State.noteTripped
  (repeat' split) <;> simp
@[simp] theorem board_withdrawMember (s : State) (g : Nat) (o : OutletId) : (State.withdrawMember s g o).board = s.board := by
  unfold State.withdrawMember
  (repeat' split) <;> simp
@[simp] theorem board_noteClaiming (s : State) (o : OutletId) : (State.noteClaiming s o).board = s.board := by
  unfold State.noteClaiming
  (repeat' split) <;> simp
@[simp] theorem board_startDwell (s : State) (g : Nat) : (State.startDwell s g).board = s.board := by
  unfold State.startDwell
  (repeat' split) <;> simp
@[simp] theorem board_removeAwaited (s : State) (g : Nat) (k : StationId) : (State.removeAwaited s g k).board = s.board := by
  unfold State.removeAwaited
  (repeat' split) <;> simp
@[simp] theorem board_restoreByDwell (g : Nat) (s : State) (o : OutletId) : (State.restoreByDwell g s o).board = s.board := by
  unfold State.restoreByDwell
  (repeat' split) <;> simp
@[simp] theorem board_endDwell (s : State) (g : Nat) : (State.endDwell s g).board = s.board := by
  unfold State.endDwell
  (repeat' split) <;> simp
@[simp] theorem board_openMember (s : State) (o : OutletId) : (State.openMember s o).board = s.board := by
  unfold State.openMember
  try dsimp only
  (repeat' split) <;> first | (simp; done) | (rename_i h; simp [board_offer h]; done) | rfl
@[simp] theorem board_endCyclesLocally (s : State) : (State.endCyclesLocally s).board = s.board := by
  unfold State.endCyclesLocally
  rw [board_foldl (fun t x => by simp)]
  exact board_mapGroups _ _ (fun _ => rfl)
@[simp] theorem board_placeTripped (s : State) (o : OutletId) : (State.placeTripped s o).board = s.board := by
  unfold State.placeTripped
  (repeat' split) <;> simp
@[simp] theorem board_disturb (s : State) (o : OutletId) : (State.disturb s o).board = s.board := by
  unfold State.disturb
  (repeat' split) <;> simp
@[simp] theorem board_trip (s : State) (o : OutletId) (reason : TripReason) (value : Nat) : (State.trip s o reason value).board = s.board := by
  unfold State.trip
  (repeat' split) <;> simp
@[simp] theorem board_endClosing (s : State) (o : OutletId) : (State.endClosing s o).board = s.board := by
  unfold State.endClosing
  (repeat' split) <;> simp
@[simp] theorem board_failClosing (s : State) (o : OutletId) : (State.failClosing s o).board = s.board := by
  unfold State.failClosing
  (repeat' split) <;> simp
@[simp] theorem board_closingAlignEnds (s : State) (o : OutletId) : (State.closingAlignEnds s o).board = s.board := by
  unfold State.closingAlignEnds
  (repeat' split) <;> simp
@[simp] theorem board_loadDwell (s : State) (o : OutletId) : (State.loadDwell s o).board = s.board := by
  unfold State.loadDwell
  (repeat' split) <;> simp
@[simp] theorem board_endOpening (s : State) (o : OutletId) : (State.endOpening s o).board = s.board := by
  unfold State.endOpening
  (repeat' split) <;> simp
@[simp] theorem board_leaveDwell (s : State) (o : OutletId) : (State.leaveDwell s o).board = s.board := by
  unfold State.leaveDwell
  (repeat' split) <;> simp
@[simp] theorem board_sagOutlet (b : Bank) (s : State) (o : OutletId) : (State.sagOutlet b s o).board = s.board := by
  unfold State.sagOutlet
  (repeat' split) <;> simp
@[simp] theorem board_sagOutlets (s : State) (b : Bank) : (State.sagOutlets s b).board = s.board := by
  unfold State.sagOutlets
  (repeat' split) <;> simp
@[simp] theorem board_disturbBank (s : State) (b : Bank) : (State.disturbBank s b).board = s.board := by
  unfold State.disturbBank
  (repeat' split) <;> simp
@[simp] theorem board_enterSag (s : State) (b : Bank) (cause : SagCause) : (State.enterSag s b cause).board = s.board := by
  unfold State.enterSag
  (repeat' split) <;> simp
@[simp] theorem board_reenterSag (s : State) (b : Bank) : (State.reenterSag s b).board = s.board := by
  unfold State.reenterSag
  (repeat' split) <;> simp
@[simp] theorem board_sagCondition (s : State) (b : Bank) (cause : SagCause) : (State.sagCondition s b cause).board = s.board := by
  unfold State.sagCondition
  (repeat' split) <;> simp
@[simp] theorem board_enterRecovering (s : State) (b : Bank) : (State.enterRecovering s b).board = s.board := by
  unfold State.enterRecovering
  (repeat' split) <;> simp
@[simp] theorem board_restoreShed (s : State) (o : OutletId) : (State.restoreShed s o).board = s.board := by
  unfold State.restoreShed
  (repeat' split) <;> simp
@[simp] theorem board_enterNormal (s : State) (b : Bank) : (State.enterNormal s b).board = s.board := by
  unfold State.enterNormal
  (repeat' split) <;> simp
@[simp] theorem board_judgeHalf (s : State) (b : Bank) (volts : Nat) (onCrossings : Bool) : (State.judgeHalf s b volts onCrossings).board = s.board := by
  unfold State.judgeHalf
  try dsimp only
  (repeat' split) <;> first | (simp; done) | (rename_i h; simp [board_offer h]; done) | rfl
@[simp] theorem board_watchOutlet (amps : List Nat) (s : State) (o : OutletId) : (State.watchOutlet amps s o).board = s.board := by
  unfold State.watchOutlet
  try dsimp only
  (repeat' split) <;> first | (simp; done) | (rename_i h; simp [board_offer h]; done) | rfl
@[simp] theorem board_watchBank (s : State) (b : Bank) (amps : List Nat) : (State.watchBank s b amps).board = s.board := by
  unfold State.watchBank
  (repeat' split) <;> simp
@[simp] theorem board_closeHalf (s : State) (b : Bank) (h : HalfMeasure) (onCrossing : Bool) (start : Stamp) : (State.closeHalf s b h onCrossing start).board = s.board := by
  unfold State.closeHalf
  (repeat' split) <;> simp
@[simp] theorem board_notePeak (s : State) (o : OutletId) (peak : Nat) : (State.notePeak s o peak).board = s.board := by
  unfold State.notePeak
  try dsimp only
  (repeat' split) <;> first | (simp; done) | (rename_i h; simp [board_offer h]; done) | rfl
@[simp] theorem board_notePeaks (s : State) (b : Bank) (peaks : List Nat) : (State.notePeaks s b peaks).board = s.board := by
  unfold State.notePeaks
  (repeat' split) <;> simp
@[simp] theorem board_crossOutlet (s : State) (o : OutletId) : (State.crossOutlet s o).board = s.board := by
  unfold State.crossOutlet
  (repeat' split) <;> simp
@[simp] theorem board_crossOutlets (s : State) (b : Bank) : (State.crossOutlets s b).board = s.board := by
  unfold State.crossOutlets
  (repeat' split) <;> simp
@[simp] theorem board_endOutletWindow (noLine : Bool) (volts ms : Nat) (w : WindowMeasure) (s : State) (o : OutletId) : (State.endOutletWindow noLine volts ms w s o).board = s.board := by
  unfold State.endOutletWindow
  try dsimp only
  (repeat' split) <;> first | (simp; done) | (rename_i h; simp [board_offer h]; done) | rfl
@[simp] theorem board_openOutletWindow (b : Bank) (s : State) (o : OutletId) : (State.openOutletWindow b s o).board = s.board := by
  unfold State.openOutletWindow
  (repeat' split) <;> simp
@[simp] theorem board_endWindow (s : State) (b : Bank) (m : WindowMeasure) (closing : Option Stamp) : (State.endWindow s b m closing).board = s.board := by
  unfold State.endWindow
  (repeat' split) <;> simp
@[simp] theorem board_countRise (s : State) (b : Bank) (m : WindowMeasure) (now : Stamp) : (State.countRise s b m now).board = s.board := by
  unfold State.countRise
  (repeat' split) <;> simp
@[simp] theorem board_takeVoltageCrossing (s : State) (b : Bank) (edge : Edge) (now : Stamp) (h : HalfMeasure) (m : WindowMeasure) : (State.takeVoltageCrossing s b edge now h m).board = s.board := by
  unfold State.takeVoltageCrossing
  (repeat' split) <;> simp
@[simp] theorem board_takeCurrentCrossing (s : State) (o : OutletId) (now : Stamp) : (State.takeCurrentCrossing s o now).board = s.board := by
  unfold State.takeCurrentCrossing
  try dsimp only
  (repeat' split) <;> first | (simp; done) | (rename_i h; simp [board_offer h]; done) | rfl
@[simp] theorem board_linkGoesDown (s : State) : (State.linkGoesDown s).board = s.board := by
  unfold State.linkGoesDown
  (repeat' split) <;> simp
@[simp] theorem board_enterLinkDown (s : State) (k : FrameKind) : (State.enterLinkDown s k).board = s.board := by
  unfold State.enterLinkDown
  (repeat' split) <;> simp
@[simp] theorem board_enterIsolated (s : State) (k : FrameKind) (serial : Nat) : (State.enterIsolated s k serial).board = s.board := by
  unfold State.enterIsolated
  (repeat' split) <;> simp
@[simp] theorem board_offerOnBus (s : State) (rivals : List Nat) : (State.offerOnBus s rivals).board = s.board := by
  unfold State.offerOnBus
  (repeat' split) <;> simp
@[simp] theorem board_attemptCarried (s : State) : (State.attemptCarried s).board = s.board := by
  unfold State.attemptCarried
  (repeat' split) <;> simp
@[simp] theorem board_claimRemoved (s : State) (f : PeerFrame) : (State.claimRemoved s f).board = s.board := by
  unfold State.claimRemoved
  (repeat' split) <;> simp
@[simp] theorem board_settleAttempt (s : State) (a : Sending) : (State.settleAttempt s a).board = s.board := by
  unfold State.settleAttempt
  (repeat' split) <;> simp
@[simp] theorem board_attemptFails (s : State) (mismatch : Bool) : (State.attemptFails s mismatch).board = s.board := by
  unfold State.attemptFails
  try dsimp only
  (repeat' split) <;> first | (simp; done) | (rename_i h; simp [board_offer h]; done) | rfl
@[simp] theorem board_frameInError (s : State) : (State.frameInError s).board = s.board := by
  unfold State.frameInError
  (repeat' split) <;> simp
@[simp] theorem board_frameFails (s : State) (r : Reception) : (State.frameFails s r).board = s.board := by
  unfold State.frameFails
  (repeat' split) <;> simp
@[simp] theorem board_enterJoining (s : State) : (State.enterJoining s).board = s.board := by
  unfold State.enterJoining
  (repeat' split) <;> simp
@[simp] theorem board_startRestore (s : State) : (State.startRestore s).board = s.board := by
  unfold State.startRestore
  try dsimp only
  (repeat' split) <;> first | (simp; done) | (rename_i h; simp [board_offer h]; done) | rfl
@[simp] theorem board_enterActive (s : State) : (State.enterActive s).board = s.board := by
  unfold State.enterActive
  (repeat' split) <;> simp
@[simp] theorem board_reportOverload (s : State) (n : BranchId) (detail : Nat) : (State.reportOverload s n detail).board = s.board := by
  unfold State.reportOverload
  (repeat' split) <;> simp
@[simp] theorem board_shedOn (s : State) (n : BranchId) : (State.shedOn s n).board = s.board := by
  unfold State.shedOn
  (repeat' split) <;> simp
@[simp] theorem board_designate (s : State) (n : BranchId) : (State.designate s n).board = s.board := by
  unfold State.designate
  (repeat' split) <;> simp
@[simp] theorem board_evaluate (s : State) (n : BranchId) : (State.evaluate s n).board = s.board := by
  unfold State.evaluate
  (repeat' split) <;> simp
@[simp] theorem board_overloadStep (source : StationId) (s : State) (n : BranchId) : (State.overloadStep source s n).board = s.board := by
  unfold State.overloadStep
  (repeat' split) <;> simp
@[simp] theorem board_overloadAfter (s : State) (source : StationId) : (State.overloadAfter s source).board = s.board := by
  unfold State.overloadAfter
  (repeat' split) <;> simp
@[simp] theorem board_endHolds (s : State) (k : StationId) : (State.endHolds s k).board = s.board := rfl
@[simp] theorem board_heard (s : State) (k : StationId) : (State.heard s k).board = s.board := by
  unfold State.heard
  (repeat' split) <;> simp
@[simp] theorem board_heardFrom (s : State) (k : StationId) : (State.heardFrom s k).board = s.board := by
  unfold State.heardFrom
  (repeat' split) <;> simp
@[simp] theorem board_rebuildRosters (s : State) : (State.rebuildRosters s).board = s.board := board_mapGroups _ _ (fun _ => rfl)
@[simp] theorem board_setConflict (source : StationId) (s : State) (n : BranchId) : (State.setConflict source s n).board = s.board := by
  unfold State.setConflict
  try dsimp only
  (repeat' split) <;> first | (simp; done) | (rename_i h; simp [board_offer h]; done) | rfl
@[simp] theorem board_checkConflicts (s : State) (source : StationId) (p : JoinPayload) : (State.checkConflicts s source p).board = s.board := by
  unfold State.checkConflicts
  (repeat' split) <;> simp
@[simp] theorem board_clearConflict (named : StationId) (s : State) (n : BranchId) : (State.clearConflict named s n).board = s.board := by
  unfold State.clearConflict
  try dsimp only
  (repeat' split) <;> first | (simp; done) | (rename_i h; simp [board_offer h]; done) | rfl
@[simp] theorem board_recheckConflicts (s : State) (named : StationId) : (State.recheckConflicts s named).board = s.board := by
  unfold State.recheckConflicts
  (repeat' split) <;> simp
@[simp] theorem board_reportDuplicate (s : State) (source : StationId) (p : JoinPayload) : (State.reportDuplicate s source p).board = s.board := by
  unfold State.reportDuplicate
  (repeat' split) <;> simp
@[simp] theorem board_reportJoined (s : State) (before : Peer) (source : StationId) (p : JoinPayload) : (State.reportJoined s before source p).board = s.board := by
  unfold State.reportJoined
  (repeat' split) <;> simp
@[simp] theorem board_replyJoin (s : State) (source : StationId) (p : JoinPayload) : (State.replyJoin s source p).board = s.board := by
  unfold State.replyJoin
  (repeat' split) <;> simp
@[simp] theorem board_tableJoin (s : State) (source : StationId) (p : JoinPayload) : (State.tableJoin s source p).board = s.board := by
  unfold State.tableJoin
  (repeat' split) <;> simp
@[simp] theorem board_budgetJoin (before : State) (source : StationId) (s : State) : (State.budgetJoin before source s).board = s.board := by
  unfold State.budgetJoin
  (repeat' split) <;> simp
@[simp] theorem board_groupJoin (before : State) (source : StationId) (p : JoinPayload) (s : State) (g : Nat) : (State.groupJoin before source p s g).board = s.board := by
  unfold State.groupJoin
  (repeat' split) <;> simp
@[simp] theorem board_applyJoin (s : State) (source : StationId) (p : JoinPayload) : (State.applyJoin s source p).board = s.board := by
  unfold State.applyJoin
  (repeat' split) <;> simp
@[simp] theorem board_reportForgotten (s : State) (k : StationId) (former : EntryState) : (State.reportForgotten s k former).board = s.board := by
  unfold State.reportForgotten
  (repeat' split) <;> simp
@[simp] theorem board_tableForget (s : State) (k : StationId) : (State.tableForget s k).board = s.board := by
  unfold State.tableForget
  (repeat' split) <;> simp
@[simp] theorem board_applyForget (s : State) (source k : StationId) : (State.applyForget s source k).board = s.board := by
  unfold State.applyForget
  (repeat' split) <;> simp
@[simp] theorem board_applyStatus (s : State) (source : StationId) (p : Banked StatusBank) : (State.applyStatus s source p).board = s.board := by
  unfold State.applyStatus
  (repeat' split) <;> simp
@[simp] theorem board_groupLost (k : StationId) (s : State) (g : Nat) : (State.groupLost k s g).board = s.board := by
  unfold State.groupLost
  (repeat' split) <;> simp
@[simp] theorem board_losePeer (k : StationId) (s : State) : (State.losePeer k s).board = s.board := by
  unfold State.losePeer
  (repeat' split) <;> simp
@[simp] theorem board_takeOwn (s : State) (source : StationId) (f : PeerFrame) : (State.takeOwn s source f).board = s.board := by
  unfold State.takeOwn
  (repeat' split) <;> simp
@[simp] theorem board_takeGrant (s : State) (b : Bank) (o : OutletId) : (State.takeGrant s b o).board = s.board := by
  unfold State.takeGrant
  (repeat' split) <;> simp
@[simp] theorem board_dropGrant (s : State) (b : Bank) : (State.dropGrant s b).board = s.board := by
  unfold State.dropGrant
  (repeat' split) <;> simp
@[simp] theorem board_actOnVerdict (s : State) (p : ClaimPayload) (granted : Bool) : (State.actOnVerdict s p granted).board = s.board := by
  unfold State.actOnVerdict
  (repeat' split) <;> simp
@[simp] theorem board_applyClaim (s : State) (source : StationId) (p : ClaimPayload) : (State.applyClaim s source p).board = s.board := by
  unfold State.applyClaim
  (repeat' split) <;> simp
@[simp] theorem board_clearPending (s : State) (source : StationId) (p : OpenGroupPayload) : (State.clearPending s source p).board = s.board := by
  unfold State.clearPending
  split
  · exact board_modGroup _ _ _ (fun e => by split <;> rfl)
  · rfl
@[simp] theorem board_reportMerged (s : State) (source : StationId) (g : Nat) (r : CycleRecord) : (State.reportMerged s source g r).board = s.board := by
  unfold State.reportMerged
  (repeat' split) <;> simp
@[simp] theorem board_reportRequested (s : State) (source : StationId) (p : OpenGroupPayload) : (State.reportRequested s source p).board = s.board := by
  unfold State.reportRequested
  (repeat' split) <;> simp

theorem board_abortAtOpen (s : State) (r : CycleRecord) : (s.abortAtOpen r).1.board = s.board := by
  unfold State.abortAtOpen
  split
  · split
    · rename_i h; exact board_queueAbort h
    · simp
  · rfl

@[simp] theorem board_openCycle (s : State) (source : StationId) (p : OpenGroupPayload) : (State.openCycle s source p).board = s.board := by
  unfold State.openCycle
  simp [board_abortAtOpen]
@[simp] theorem board_applyOpenGroup (s : State) (source : StationId) (p : OpenGroupPayload) : (State.applyOpenGroup s source p).board = s.board := by
  unfold State.applyOpenGroup
  try dsimp only
  (repeat' split) <;> first | (simp; done) | (rename_i h; simp [board_offer h]; done) | rfl
@[simp] theorem board_applyGroupOff (s : State) (source : StationId) (p : GroupOffPayload) : (State.applyGroupOff s source p).board = s.board := by
  unfold State.applyGroupOff
  try dsimp only
  (repeat' split) <;> first | (simp; done) | (rename_i h; simp [board_offer h]; done) | rfl
@[simp] theorem board_applyGroupOn (s : State) (source : StationId) (p : GroupOnPayload) : (State.applyGroupOn s source p).board = s.board := by
  unfold State.applyGroupOn
  try dsimp only
  (repeat' split) <;> first | (simp; done) | (rename_i h; simp [board_offer h]; done) | rfl
@[simp] theorem board_applyGroupAbort (s : State) (source : StationId) (p : GroupAbortPayload) : (State.applyGroupAbort s source p).board = s.board := by
  unfold State.applyGroupAbort
  try dsimp only
  (repeat' split) <;> first | (simp; done) | (rename_i h; simp [board_offer h]; done) | rfl
theorem PortOnly.board {s t : State} (h : PortOnly s t) : t.board = s.board := by rw [show t = { s with port := t.port } from h]; rfl
@[simp] theorem board_openFrame (s : State) : (State.openFrame s).board = s.board := rfl
@[simp] theorem board_closeFrame (s : State) : (State.closeFrame s).board = s.board := rfl
@[simp] theorem board_rejectFrame (s : State) : (State.rejectFrame s).board = s.board := rfl
@[simp] theorem board_writeResult (s : State) (r : ResultSlot) : (State.writeResult s r).board = s.board := rfl
@[simp] theorem board_withCapture (s : State) (r : ReadRequest) : (State.withCapture s r).board = s.board := (portOnly_withCapture s r).board
@[simp] theorem board_finishRead (s : State) (c : Capture) : (State.finishRead s c).board = s.board := (portOnly_finishRead s c).board
@[simp] theorem board_readEffect (s : State) (c : Capture) : (State.readEffect s c).board = s.board := by
  unfold State.readEffect
  (repeat' split) <;> simp
@[simp] theorem board_endRead (s : State) (bits : Nat) (r : ReadRequest) : (State.endRead s bits r).board = s.board := by
  unfold State.endRead
  (repeat' split) <;> simp
@[simp] theorem board_runRead (s : State) (bits : Nat) (r : ReadRequest) : (State.runRead s bits r).board = s.board := by
  unfold State.runRead State.onFrame
  (repeat' split) <;> simp
@[simp] theorem board_takeInHand (s : State) (o : OutletId) : (State.takeInHand s o).board = s.board := rfl
@[simp] theorem board_originated (s : State) (e : GroupEntry) (tag : Tag) : (State.originated s e tag).board = s.board := (board_seq _ _).trans (board_modGroup _ _ _ (fun _ => rfl))
@[simp] theorem board_clearTripped (s : State) (o : OutletId) : (State.clearTripped s o).board = s.board := by
  unfold State.clearTripped
  (repeat' split) <;> simp
@[simp] theorem board_expireClaim (s : State) (o : OutletId) : (State.expireClaim s o).board = s.board := by
  unfold State.expireClaim
  (repeat' split) <;> simp
@[simp] theorem board_scheduleStatus (s : State) : (State.scheduleStatus s).board = s.board := by
  unfold State.scheduleStatus
  (repeat' split) <;> simp
@[simp] theorem board_endOffGather (s : State) (g : Nat) : (State.endOffGather s g).board = s.board := by
  unfold State.endOffGather
  (repeat' split) <;> simp

/-! Frames, timers and host commands as their rows run them. -/

@[simp] theorem board_leaveSlot (s : State) : s.leaveSlot.board = s.board := rfl

theorem board_receive (s : State) (k : StationId) (f : PeerFrame) (act : State → State) (h : ∀ t, (act t).board = t.board) :
    (s.receive k f act).board = s.board := by
  unfold State.receive
  (repeat' split) <;> simp [h]

theorem board_expire (s : State) (due : Option Nat) (fire : State → State) (h : ∀ t, (fire t).board = t.board) :
    (s.expire due fire).board = s.board := by
  unfold State.expire
  split <;> simp [h]

theorem board_unlessReset (s : State) (f : State → State) (h : (f s).board = s.board) : (s.unlessReset f).board = s.board := by
  unfold State.unlessReset
  split
  · rfl
  · exact h

theorem board_atRising (s : State) (f : State → State) (h : (f s).board = s.board) : (s.atRising f).board = s.board := by
  unfold State.atRising
  split
  · exact h
  · rfl

theorem board_runFrame (s : State) (bits args : Nat) (run : State → Answer) (h : ∀ t, (run t).1.board = t.board) :
    (s.runFrame bits args run).board = s.board := by
  unfold State.runFrame State.onFrame
  (repeat' split) <;> simp [h]

theorem board_issuing (a : Answer) : a.issuing.1.board = a.1.board := by
  unfold Answer.issuing
  split <;> simp

theorem board_switchOn (o : OutletId) (s : State) : (State.switchOn o s).1.board = s.board := by
  unfold State.switchOn accept refuse
  (repeat' split) <;> simp

theorem board_switchOff (o : OutletId) (s : State) : (State.switchOff o s).1.board = s.board := by
  unfold State.switchOff accept
  split <;> simp

theorem board_checkOutlet (s : State) (o : OutletId) (run : State → Answer) (h : (run s).1.board = s.board) :
    (s.checkOutlet o run).1.board = s.board := by
  unfold State.checkOutlet refuse
  (repeat' split) <;> simp [h]

theorem board_runSwitch (x d : Byte) (s : State) : (runSwitch x d s).1.board = s.board := by
  unfold runSwitch whenRunning refuse
  split
  · dsimp only
    split
    · rfl
    · (repeat' split) <;> first | rfl | (rw [board_issuing]; first | exact board_checkOutlet _ _ _ (board_switchOn _ _) | exact board_checkOutlet _ _ _ (board_switchOff _ _))
  · rfl

theorem board_runCycleOutlet (x : Byte) (d : BitVec 16) (s : State) : (runCycleOutlet x d s).1.board = s.board := by
  unfold runCycleOutlet whenRunning refuse
  split
  · dsimp only
    split
    · rfl
    · split
      · refine board_checkOutlet _ _ _ ?_
        unfold State.cycleOutlet accept refuse
        split <;> simp
      · rfl
  · rfl

theorem board_originate (s : State) (e : GroupEntry) (d : Nat) : (s.originate e d).1.board = s.board := by
  unfold State.originate accept refuse
  (repeat' split) <;> first | rfl | (rename_i h; simp [board_offer h])

theorem board_runCycleGroup (g : Byte) (d : BitVec 16) (s : State) : (runCycleGroup g d s).1.board = s.board := by
  unfold runCycleGroup whenRunning refuse
  split
  · dsimp only
    (repeat' split) <;> first | rfl | exact board_originate _ _ _
  · rfl

theorem board_runAbortGroup (g : Byte) (s : State) : (runAbortGroup g s).1.board = s.board := by
  unfold runAbortGroup whenRunning refuse
  split
  · dsimp only
    (repeat' split) <;> first | rfl | skip
    rw [board_issuing]
    unfold State.hostAbort accept refuse
    (repeat' split) <;> simp
  · rfl

theorem board_runClearTrip (x : Byte) (s : State) : (runClearTrip x s).1.board = s.board := by
  unfold runClearTrip accept refuse
  (repeat' split) <;> simp

theorem board_runResetEnergy (x : Byte) (s : State) : (runResetEnergy x s).1.board = s.board := by
  unfold runResetEnergy accept refuse
  (repeat' split) <;> rfl

theorem board_runSetProtect (x : OutletSet) (s : State) : (runSetProtect x s).1.board = s.board := by
  unfold runSetProtect accept refuse
  (repeat' split) <;> simp

theorem board_runForgetPeer (x : Byte) (s : State) : (runForgetPeer x s).1.board = s.board := by
  unfold runForgetPeer whenRunning accept refuse
  split
  · dsimp only
    (repeat' split) <;> first | rfl | (rename_i h; exact board_offer h)
  · rfl

end Sys2Proof.Machine
end

