-- ==== Sys2Proof/Laws/Ports.lean ====
section
/-! SUPPORT. What every operation keeps of the host port: the flags, the slot and the bytes sent out change in a host frame only, and the event queue never outgrows its room. -/

namespace Sys2Proof.Machine

/-- What the port changes in a host frame only (R174, R176, R177). -/
structure Front where
  res : Bool
  rej : Bool
  slot : ResultSlot
  select : SelectLine
  statusOut : Byte
  dataOut : List Byte

def State.front (s : State) : Front := ⟨s.port.res, s.port.rej, s.port.slot, s.port.select, s.port.statusOut, s.port.dataOut⟩

/-! What an operation that leaves the port alone keeps, and what one posting keeps. -/

theorem front_of_port {s t : State} (h : t.port = s.port) : t.front = s.front := by unfold State.front; rw [h]

@[simp] theorem front_post (s : State) k a b c : (s.post k a b c).front = s.front := by
  unfold State.post; (repeat' split) <;> rfl

@[simp] theorem front_foldl {α : Type} {f : State → α → State} (h : ∀ t x, (f t x).front = t.front) (l : List α) (s : State) :
    (l.foldl f s).front = s.front :=
  foldl_keeps (P := fun t => t.front = s.front) (fun t x ht => (h t x).trans ht) l s rfl

theorem front_offer {s t : State} {u : Nat} {f : PeerFrame} (h : s.offer u f = some t) : t.front = s.front := by
  rw [offer_frame h]; rfl

@[simp] theorem front_ite {c : Prop} [Decidable c] (s t : State) : (if c then s else t).front = if c then s.front else t.front := apply_ite _ _ _ _

@[simp] theorem front_seeWindow (s : State) o n : (s.modPort (Port.seeWindow o n)).front = s.front := rfl

@[simp] theorem front_modMeter (s : State) o f : (s.modMeter o f).front = s.front := rfl
@[simp] theorem front_modLine (s : State) b f : (s.modLine b f).front = s.front := rfl
@[simp] theorem front_modWindow (s : State) b f : (s.modWindow b f).front = s.front := rfl
@[simp] theorem front_setQueue (s : State) b q : (s.setQueue b q).front = s.front := rfl
@[simp] theorem front_modClaim (s : State) b f : (s.modClaim b f).front = s.front := rfl
@[simp] theorem front_modPeer (s : State) k f : (s.modPeer k f).front = s.front := rfl
@[simp] theorem front_modOver (s : State) n f : (s.modOver n f).front = s.front := rfl
@[simp] theorem front_modLink (s : State) f : (s.modLink f).front = s.front := rfl
@[simp] theorem front_modGroup (s : State) g f : (s.modGroup g f).front = s.front := rfl
@[simp] theorem front_modRecord (s : State) g f : (s.modRecord g f).front = s.front := rfl
@[simp] theorem front_loadTimer (s : State) o ms : (s.loadTimer o ms).front = s.front := rfl
@[simp] theorem front_setUnaligned (s : State) o v : (s.setUnaligned o v).front = s.front := rfl
@[simp] theorem front_setTarget (s : State) o t : (s.setTarget o t).front = s.front := rfl
@[simp] theorem front_setRestore (s : State) o v : (s.setRestore o v).front = s.front := rfl
@[simp] theorem front_setCycle (s : State) o c : (s.setCycle o c).front = s.front := rfl
@[simp] theorem front_setPendingOff (s : State) o : (s.setPendingOff o).front = s.front := rfl
@[simp] theorem front_joinCycle (s : State) o : (s.joinCycle o).front = s.front := rfl
@[simp] theorem front_records (s : State) l : State.front { s with records := l } = s.front := rfl
@[simp] theorem front_groups (s : State) l : State.front { s with groups := l } = s.front := rfl
@[simp] theorem front_conflicts (s : State) l : State.front { s with conflicts := l } = s.front := rfl
@[simp] theorem front_overload (s : State) l : State.front { s with overload := l } = s.front := rfl
@[simp] theorem front_restored (s : State) r v : State.front { s with restoreSet := r, startRestored := v } = s.front := rfl
@[simp] theorem front_seq (s : State) n : State.front { s with seq := n } = s.front := rfl
@[simp] theorem front_modOutlet (s : State) o f : (s.modOutlet o f).front = s.front := rfl
@[simp] theorem front_place (s : State) o st sub : (s.place o st sub).front = s.front := rfl
@[simp] theorem front_startAlign (s : State) o st : (s.startAlign o st).front = s.front := rfl
@[simp] theorem front_endLocal (s : State) o : (s.endLocal o).front = s.front := rfl
@[simp] theorem front_protect (s : State) set : (s.protect set).front = s.front := rfl
@[simp] theorem front_passTime (s : State) dt : (s.passTime dt).front = s.front := by
  unfold State.passTime; split <;> rfl

@[simp] theorem front_insertFrame (s : State) (urgency : Nat) (f : PeerFrame) : (State.insertFrame s urgency f).front = s.front := rfl
@[simp] theorem front_replaceReserved (s : State) (f : PeerFrame) : (State.replaceReserved s f).front = s.front := rfl
@[simp] theorem front_offerReserved (s : State) (f : PeerFrame) : (State.offerReserved s f).front = s.front := by
  unfold State.offerReserved
  (repeat' split) <;> simp
@[simp] theorem front_offerStatus (s : State) : (State.offerStatus s).front = s.front := by
  unfold State.offerStatus
  (repeat' split) <;> simp
@[simp] theorem front_offerJoin (s : State) (replyRequested : Bool) : (State.offerJoin s replyRequested).front = s.front := by
  unfold State.offerJoin
  (repeat' split) <;> simp
@[simp] theorem front_recompose (s : State) : (State.recompose s).front = s.front := by
  unfold State.recompose
  (repeat' split) <;> simp
@[simp] theorem front_removeFrames (s : State) (p : PeerFrame → Bool) : (State.removeFrames s p).front = s.front := rfl
@[simp] theorem front_joinQueue (s : State) (o : OutletId) : (State.joinQueue s o).front = s.front := by
  unfold State.joinQueue
  (repeat' split) <;> simp
@[simp] theorem front_leaveQueue (s : State) (o : OutletId) : (State.leaveQueue s o).front = s.front := by
  unfold State.leaveQueue
  (repeat' split) <;> simp
@[simp] theorem front_withdrawClaim (s : State) (b : Bank) : (State.withdrawClaim s b).front = s.front := by
  unfold State.withdrawClaim
  (repeat' split) <;> simp
@[simp] theorem front_leaveClaiming (s : State) (o : OutletId) : (State.leaveClaiming s o).front = s.front := by
  unfold State.leaveClaiming
  (repeat' split) <;> simp
@[simp] theorem front_markDropped (s : State) (o : OutletId) : (State.markDropped s o).front = s.front := by
  unfold State.markDropped
  (repeat' split) <;> simp
@[simp] theorem front_dropClaim (s : State) (o : OutletId) : (State.dropClaim s o).front = s.front := by
  unfold State.dropClaim
  (repeat' split) <;> simp
@[simp] theorem front_issueClaim (s : State) (b : Bank) : (State.issueClaim s b).front = s.front := by
  unfold State.issueClaim
  try dsimp only
  (repeat' split) <;> first | (simp; done) | (rename_i h; simp [front_offer h]; done) | rfl
@[simp] theorem front_issueClaims (s : State) : (State.issueClaims s).front = s.front := by
  unfold State.issueClaims
  (repeat' split) <;> simp
@[simp] theorem front_clearRetry (s : State) (n : BranchId) : (State.clearRetry s n).front = s.front := rfl
@[simp] theorem front_triggerRetries (s : State) (p : BranchId → Bool) : (State.triggerRetries s p).front = s.front := by
  unfold State.triggerRetries
  try dsimp only
  (repeat' split) <;> first | (simp; done) | (rename_i h; simp [front_offer h]; done) | rfl
@[simp] theorem front_setHeld (s : State) (k : StationId) (b : Bank) (amount : Nat) : (State.setHeld s k b amount).front = s.front := by
  unfold State.setHeld
  (repeat' split) <;> simp
@[simp] theorem front_recordClaim (s : State) (source : StationId) (p : ClaimPayload) : (State.recordClaim s source p).front = s.front := by
  unfold State.recordClaim
  (repeat' split) <;> simp
@[simp] theorem front_absorbWindow (s : State) (b : Bank) (clean : OutletId → Bool) : (State.absorbWindow s b clean).front = s.front := by
  unfold State.absorbWindow
  (repeat' split) <;> simp
@[simp] theorem front_endClaims (s : State) (p : Banked StatusBank) : (State.endClaims s p).front = s.front := rfl
@[simp] theorem front_withdrawAllSent (s : State) : (State.withdrawAllSent s).front = s.front := rfl
@[simp] theorem front_meetTarget (s : State) (o : OutletId) : (State.meetTarget s o).front = s.front := by
  unfold State.meetTarget
  (repeat' split) <;> simp
@[simp] theorem front_enterOff (s : State) (o : OutletId) : (State.enterOff s o).front = s.front := by
  unfold State.enterOff
  (repeat' split) <;> simp
@[simp] theorem front_enterClaiming (s : State) (o : OutletId) : (State.enterClaiming s o).front = s.front := by
  unfold State.enterClaiming
  (repeat' split) <;> simp
@[simp] theorem front_startCoil (s : State) (o : OutletId) : (State.startCoil s o).front = s.front := by
  unfold State.startCoil
  (repeat' split) <;> simp
@[simp] theorem front_startClosingSettle (s : State) (o : OutletId) : (State.startClosingSettle s o).front = s.front := by
  unfold State.startClosingSettle
  (repeat' split) <;> simp
@[simp] theorem front_startOpeningSettle (s : State) (o : OutletId) : (State.startOpeningSettle s o).front = s.front := by
  unfold State.startOpeningSettle
  (repeat' split) <;> simp
@[simp] theorem front_enterClosing (s : State) (o : OutletId) : (State.enterClosing s o).front = s.front := by
  unfold State.enterClosing
  (repeat' split) <;> simp
@[simp] theorem front_enterOpening (s : State) (o : OutletId) : (State.enterOpening s o).front = s.front := by
  unfold State.enterOpening
  (repeat' split) <;> simp
@[simp] theorem front_endPendingOff (s : State) (o : OutletId) : (State.endPendingOff s o).front = s.front := by
  unfold State.endPendingOff
  (repeat' split) <;> simp
@[simp] theorem front_alignClosing (s : State) (o : OutletId) (unaligned : Bool) : (State.alignClosing s o unaligned).front = s.front := by
  unfold State.alignClosing
  (repeat' split) <;> simp
@[simp] theorem front_alignOpening (s : State) (o : OutletId) (unaligned : Bool) : (State.alignOpening s o unaligned).front = s.front := by
  unfold State.alignOpening
  (repeat' split) <;> simp
@[simp] theorem front_setStatus (s : State) (g : Nat) (o : OutletId) (st : MemberStatus) : (State.setStatus s g o st).front = s.front := by
  unfold State.setStatus
  (repeat' split) <;> simp
@[simp] theorem front_releaseMembers (s : State) (ms : List Member) : (State.releaseMembers s ms).front = s.front := by
  unfold State.releaseMembers
  exact front_foldl (fun t _ => front_modOutlet t _ _) _ _
@[simp] theorem front_finishCycle (s : State) (g : Nat) (out : CycleOutcome) : (State.finishCycle s g out).front = s.front := by
  unfold State.finishCycle
  (repeat' split) <;> simp
@[simp] theorem front_restoreByAbort (s : State) (o : OutletId) : (State.restoreByAbort s o).front = s.front := by
  unfold State.restoreByAbort
  try dsimp only
  (repeat' split) <;> first | (simp; done) | (rename_i h; simp [front_offer h]; done) | rfl
@[simp] theorem front_checkAbortDone (s : State) (g : Nat) : (State.checkAbortDone s g).front = s.front := by
  unfold State.checkAbortDone
  (repeat' split) <;> simp
@[simp] theorem front_abortCycle (s : State) (g : Nat) (reason : EndReason) : (State.abortCycle s g reason).front = s.front := by
  unfold State.abortCycle
  (repeat' split) <;> simp
@[simp] theorem front_actAbort (s : State) (g : Nat) (reason : EndReason) : (State.actAbort s g reason).front = s.front := by
  unfold State.actAbort
  (repeat' split) <;> simp
@[simp] theorem front_abortNotQueued (s : State) (r : CycleRecord) : (State.abortNotQueued s r).front = s.front := by
  unfold State.abortNotQueued
  (repeat' split) <;> simp

theorem front_queueAbort {s t : State} {r : CycleRecord} {a : AbortReason} (h : s.queueAbort r a = some t) : t.front = s.front := by
  unfold State.queueAbort at h
  dsimp only at h
  split at h
  · cases h; simp
  · rw [front_offer h]; simp

@[simp] theorem front_offerAbort (s : State) (g : Nat) (reason : AbortReason) : (State.offerAbort s g reason).front = s.front := by
  unfold State.offerAbort
  try dsimp only
  (repeat' split) <;> first | (simp; done) | (rename_i h; simp [front_queueAbort h]; done) | rfl
@[simp] theorem front_maybeGroupOff (s : State) (g : Nat) : (State.maybeGroupOff s g).front = s.front := by
  unfold State.maybeGroupOff
  try dsimp only
  (repeat' split) <;> first | (simp; done) | (rename_i h; simp [front_offer h]; done) | rfl
@[simp] theorem front_maybeGroupOn (s : State) (g : Nat) : (State.maybeGroupOn s g).front = s.front := by
  unfold State.maybeGroupOn
  try dsimp only
  (repeat' split) <;> first | (simp; done) | (rename_i h; simp [front_offer h]; done) | rfl
@[simp] theorem front_noteOpened (s : State) (o : OutletId) : (State.noteOpened s o).front = s.front := by
  unfold State.noteOpened
  (repeat' split) <;> simp
@[simp] theorem front_noteRestored (s : State) (o : OutletId) : (State.noteRestored s o).front = s.front := by
  unfold State.noteRestored
  (repeat' split) <;> simp
@[simp] theorem front_noteFailed (s : State) (o : OutletId) : (State.noteFailed s o).front = s.front := by
  unfold State.noteFailed
  (repeat' split) <;> simp
@[simp] theorem front_noteTripped (s : State) (o : OutletId) : (State.noteTripped s o).front = s.front := by
  unfold State.noteTripped
  (repeat' split) <;> simp
@[simp] theorem front_withdrawMember (s : State) (g : Nat) (o : OutletId) : (State.withdrawMember s g o).front = s.front := by
  unfold State.withdrawMember
  (repeat' split) <;> simp
@[simp] theorem front_noteClaiming (s : State) (o : OutletId) : (State.noteClaiming s o).front = s.front := by
  unfold State.noteClaiming
  (repeat' split) <;> simp
@[simp] theorem front_startDwell (s : State) (g : Nat) : (State.startDwell s g).front = s.front := by
  unfold State.startDwell
  (repeat' split) <;> simp
@[simp] theorem front_removeAwaited (s : State) (g : Nat) (k : StationId) : (State.removeAwaited s g k).front = s.front := by
  unfold State.removeAwaited
  (repeat' split) <;> simp
@[simp] theorem front_restoreByDwell (g : Nat) (s : State) (o : OutletId) : (State.restoreByDwell g s o).front = s.front := by
  unfold State.restoreByDwell
  (repeat' split) <;> simp
@[simp] theorem front_endDwell (s : State) (g : Nat) : (State.endDwell s g).front = s.front := by
  unfold State.endDwell
  (repeat' split) <;> simp
@[simp] theorem front_openMember (s : State) (o : OutletId) : (State.openMember s o).front = s.front := by
  unfold State.openMember
  try dsimp only
  (repeat' split) <;> first | (simp; done) | (rename_i h; simp [front_offer h]; done) | rfl
@[simp] theorem front_endCyclesLocally (s : State) : (State.endCyclesLocally s).front = s.front := by
  unfold State.endCyclesLocally
  try dsimp only
  (repeat' split) <;> first | (simp; done) | (rename_i h; simp [front_offer h]; done) | rfl
@[simp] theorem front_placeTripped (s : State) (o : OutletId) : (State.placeTripped s o).front = s.front := by
  unfold State.placeTripped
  (repeat' split) <;> simp
@[simp] theorem front_disturb (s : State) (o : OutletId) : (State.disturb s o).front = s.front := by
  unfold State.disturb
  (repeat' split) <;> simp
@[simp] theorem front_trip (s : State) (o : OutletId) (reason : TripReason) (value : Nat) : (State.trip s o reason value).front = s.front := by
  unfold State.trip
  (repeat' split) <;> simp
@[simp] theorem front_endClosing (s : State) (o : OutletId) : (State.endClosing s o).front = s.front := by
  unfold State.endClosing
  (repeat' split) <;> simp
@[simp] theorem front_failClosing (s : State) (o : OutletId) : (State.failClosing s o).front = s.front := by
  unfold State.failClosing
  (repeat' split) <;> simp
@[simp] theorem front_closingAlignEnds (s : State) (o : OutletId) : (State.closingAlignEnds s o).front = s.front := by
  unfold State.closingAlignEnds
  (repeat' split) <;> simp
@[simp] theorem front_loadDwell (s : State) (o : OutletId) : (State.loadDwell s o).front = s.front := by
  unfold State.loadDwell
  (repeat' split) <;> simp
@[simp] theorem front_endOpening (s : State) (o : OutletId) : (State.endOpening s o).front = s.front := by
  unfold State.endOpening
  (repeat' split) <;> simp
@[simp] theorem front_leaveDwell (s : State) (o : OutletId) : (State.leaveDwell s o).front = s.front := by
  unfold State.leaveDwell
  (repeat' split) <;> simp
@[simp] theorem front_sagOutlet (b : Bank) (s : State) (o : OutletId) : (State.sagOutlet b s o).front = s.front := by
  unfold State.sagOutlet
  (repeat' split) <;> simp
@[simp] theorem front_sagOutlets (s : State) (b : Bank) : (State.sagOutlets s b).front = s.front := by
  unfold State.sagOutlets
  (repeat' split) <;> simp
@[simp] theorem front_disturbBank (s : State) (b : Bank) : (State.disturbBank s b).front = s.front := by
  unfold State.disturbBank
  (repeat' split) <;> simp
@[simp] theorem front_enterSag (s : State) (b : Bank) (cause : SagCause) : (State.enterSag s b cause).front = s.front := by
  unfold State.enterSag
  (repeat' split) <;> simp
@[simp] theorem front_reenterSag (s : State) (b : Bank) : (State.reenterSag s b).front = s.front := by
  unfold State.reenterSag
  (repeat' split) <;> simp
@[simp] theorem front_sagCondition (s : State) (b : Bank) (cause : SagCause) : (State.sagCondition s b cause).front = s.front := by
  unfold State.sagCondition
  (repeat' split) <;> simp
@[simp] theorem front_enterRecovering (s : State) (b : Bank) : (State.enterRecovering s b).front = s.front := by
  unfold State.enterRecovering
  (repeat' split) <;> simp
@[simp] theorem front_restoreShed (s : State) (o : OutletId) : (State.restoreShed s o).front = s.front := by
  unfold State.restoreShed
  (repeat' split) <;> simp
@[simp] theorem front_enterNormal (s : State) (b : Bank) : (State.enterNormal s b).front = s.front := by
  unfold State.enterNormal
  (repeat' split) <;> simp
@[simp] theorem front_judgeHalf (s : State) (b : Bank) (volts : Nat) (onCrossings : Bool) : (State.judgeHalf s b volts onCrossings).front = s.front := by
  unfold State.judgeHalf
  try dsimp only
  (repeat' split) <;> first | (simp; done) | (rename_i h; simp [front_offer h]; done) | rfl
@[simp] theorem front_watchOutlet (amps : List Nat) (s : State) (o : OutletId) : (State.watchOutlet amps s o).front = s.front := by
  unfold State.watchOutlet
  try dsimp only
  (repeat' split) <;> first | (simp; done) | (rename_i h; simp [front_offer h]; done) | rfl
@[simp] theorem front_watchBank (s : State) (b : Bank) (amps : List Nat) : (State.watchBank s b amps).front = s.front := by
  unfold State.watchBank
  (repeat' split) <;> simp
@[simp] theorem front_closeHalf (s : State) (b : Bank) (h : HalfMeasure) (onCrossing : Bool) (start : Stamp) : (State.closeHalf s b h onCrossing start).front = s.front := by
  unfold State.closeHalf
  (repeat' split) <;> simp
@[simp] theorem front_notePeak (s : State) (o : OutletId) (peak : Nat) : (State.notePeak s o peak).front = s.front := by
  unfold State.notePeak
  try dsimp only
  (repeat' split) <;> first | (simp; done) | (rename_i h; simp [front_offer h]; done) | rfl
@[simp] theorem front_notePeaks (s : State) (b : Bank) (peaks : List Nat) : (State.notePeaks s b peaks).front = s.front := by
  unfold State.notePeaks
  (repeat' split) <;> simp
@[simp] theorem front_crossOutlet (s : State) (o : OutletId) : (State.crossOutlet s o).front = s.front := by
  unfold State.crossOutlet
  (repeat' split) <;> simp
@[simp] theorem front_crossOutlets (s : State) (b : Bank) : (State.crossOutlets s b).front = s.front := by
  unfold State.crossOutlets
  (repeat' split) <;> simp
@[simp] theorem front_endOutletWindow (noLine : Bool) (volts ms : Nat) (w : WindowMeasure) (s : State) (o : OutletId) : (State.endOutletWindow noLine volts ms w s o).front = s.front := by
  unfold State.endOutletWindow
  try dsimp only
  (repeat' split) <;> first | (simp; done) | (rename_i h; simp [front_offer h]; done) | rfl
@[simp] theorem front_openOutletWindow (b : Bank) (s : State) (o : OutletId) : (State.openOutletWindow b s o).front = s.front := by
  unfold State.openOutletWindow
  (repeat' split) <;> simp
@[simp] theorem front_endWindow (s : State) (b : Bank) (m : WindowMeasure) (closing : Option Stamp) : (State.endWindow s b m closing).front = s.front := by
  unfold State.endWindow
  (repeat' split) <;> simp
@[simp] theorem front_countRise (s : State) (b : Bank) (m : WindowMeasure) (now : Stamp) : (State.countRise s b m now).front = s.front := by
  unfold State.countRise
  (repeat' split) <;> simp
@[simp] theorem front_takeVoltageCrossing (s : State) (b : Bank) (edge : Edge) (now : Stamp) (h : HalfMeasure) (m : WindowMeasure) : (State.takeVoltageCrossing s b edge now h m).front = s.front := by
  unfold State.takeVoltageCrossing
  (repeat' split) <;> simp
@[simp] theorem front_takeCurrentCrossing (s : State) (o : OutletId) (now : Stamp) : (State.takeCurrentCrossing s o now).front = s.front := by
  unfold State.takeCurrentCrossing
  try dsimp only
  (repeat' split) <;> first | (simp; done) | (rename_i h; simp [front_offer h]; done) | rfl
@[simp] theorem front_linkGoesDown (s : State) : (State.linkGoesDown s).front = s.front := by
  unfold State.linkGoesDown
  (repeat' split) <;> simp
@[simp] theorem front_enterLinkDown (s : State) (k : FrameKind) : (State.enterLinkDown s k).front = s.front := by
  unfold State.enterLinkDown
  (repeat' split) <;> simp
@[simp] theorem front_enterIsolated (s : State) (k : FrameKind) (serial : Nat) : (State.enterIsolated s k serial).front = s.front := by
  unfold State.enterIsolated
  (repeat' split) <;> simp
@[simp] theorem front_offerOnBus (s : State) (rivals : List Nat) : (State.offerOnBus s rivals).front = s.front := by
  unfold State.offerOnBus
  (repeat' split) <;> simp
@[simp] theorem front_attemptCarried (s : State) : (State.attemptCarried s).front = s.front := by
  unfold State.attemptCarried
  (repeat' split) <;> simp
@[simp] theorem front_claimRemoved (s : State) (f : PeerFrame) : (State.claimRemoved s f).front = s.front := by
  unfold State.claimRemoved
  (repeat' split) <;> simp
@[simp] theorem front_settleAttempt (s : State) (a : Sending) : (State.settleAttempt s a).front = s.front := by
  unfold State.settleAttempt
  (repeat' split) <;> simp
@[simp] theorem front_attemptFails (s : State) (mismatch : Bool) : (State.attemptFails s mismatch).front = s.front := by
  unfold State.attemptFails
  try dsimp only
  (repeat' split) <;> first | (simp; done) | (rename_i h; simp [front_offer h]; done) | rfl
@[simp] theorem front_frameInError (s : State) : (State.frameInError s).front = s.front := by
  unfold State.frameInError
  (repeat' split) <;> simp
@[simp] theorem front_frameFails (s : State) (r : Reception) : (State.frameFails s r).front = s.front := by
  unfold State.frameFails
  (repeat' split) <;> simp
@[simp] theorem front_enterJoining (s : State) : (State.enterJoining s).front = s.front := by
  unfold State.enterJoining
  (repeat' split) <;> simp
@[simp] theorem front_startRestore (s : State) : (State.startRestore s).front = s.front := by
  unfold State.startRestore
  try dsimp only
  (repeat' split) <;> first | (simp; done) | (rename_i h; simp [front_offer h]; done) | rfl
@[simp] theorem front_enterActive (s : State) : (State.enterActive s).front = s.front := by
  unfold State.enterActive
  (repeat' split) <;> simp
@[simp] theorem front_reportOverload (s : State) (n : BranchId) (detail : Nat) : (State.reportOverload s n detail).front = s.front := by
  unfold State.reportOverload
  (repeat' split) <;> simp
@[simp] theorem front_shedOn (s : State) (n : BranchId) : (State.shedOn s n).front = s.front := by
  unfold State.shedOn
  (repeat' split) <;> simp
@[simp] theorem front_designate (s : State) (n : BranchId) : (State.designate s n).front = s.front := by
  unfold State.designate
  (repeat' split) <;> simp
@[simp] theorem front_evaluate (s : State) (n : BranchId) : (State.evaluate s n).front = s.front := by
  unfold State.evaluate
  (repeat' split) <;> simp
@[simp] theorem front_overloadStep (source : StationId) (s : State) (n : BranchId) : (State.overloadStep source s n).front = s.front := by
  unfold State.overloadStep
  (repeat' split) <;> simp
@[simp] theorem front_overloadAfter (s : State) (source : StationId) : (State.overloadAfter s source).front = s.front := by
  unfold State.overloadAfter
  (repeat' split) <;> simp
@[simp] theorem front_endHolds (s : State) (k : StationId) : (State.endHolds s k).front = s.front := rfl
@[simp] theorem front_heard (s : State) (k : StationId) : (State.heard s k).front = s.front := by
  unfold State.heard
  (repeat' split) <;> simp
@[simp] theorem front_heardFrom (s : State) (k : StationId) : (State.heardFrom s k).front = s.front := by
  unfold State.heardFrom
  (repeat' split) <;> simp
@[simp] theorem front_rebuildRosters (s : State) : (State.rebuildRosters s).front = s.front := rfl
@[simp] theorem front_setConflict (source : StationId) (s : State) (n : BranchId) : (State.setConflict source s n).front = s.front := by
  unfold State.setConflict
  try dsimp only
  (repeat' split) <;> first | (simp; done) | (rename_i h; simp [front_offer h]; done) | rfl
@[simp] theorem front_checkConflicts (s : State) (source : StationId) (p : JoinPayload) : (State.checkConflicts s source p).front = s.front := by
  unfold State.checkConflicts
  (repeat' split) <;> simp
@[simp] theorem front_clearConflict (named : StationId) (s : State) (n : BranchId) : (State.clearConflict named s n).front = s.front := by
  unfold State.clearConflict
  try dsimp only
  (repeat' split) <;> first | (simp; done) | (rename_i h; simp [front_offer h]; done) | rfl
@[simp] theorem front_recheckConflicts (s : State) (named : StationId) : (State.recheckConflicts s named).front = s.front := by
  unfold State.recheckConflicts
  (repeat' split) <;> simp
@[simp] theorem front_reportDuplicate (s : State) (source : StationId) (p : JoinPayload) : (State.reportDuplicate s source p).front = s.front := by
  unfold State.reportDuplicate
  (repeat' split) <;> simp
@[simp] theorem front_reportJoined (s : State) (before : Peer) (source : StationId) (p : JoinPayload) : (State.reportJoined s before source p).front = s.front := by
  unfold State.reportJoined
  (repeat' split) <;> simp
@[simp] theorem front_replyJoin (s : State) (source : StationId) (p : JoinPayload) : (State.replyJoin s source p).front = s.front := by
  unfold State.replyJoin
  (repeat' split) <;> simp
@[simp] theorem front_tableJoin (s : State) (source : StationId) (p : JoinPayload) : (State.tableJoin s source p).front = s.front := by
  unfold State.tableJoin
  (repeat' split) <;> simp
@[simp] theorem front_budgetJoin (before : State) (source : StationId) (s : State) : (State.budgetJoin before source s).front = s.front := by
  unfold State.budgetJoin
  (repeat' split) <;> simp
@[simp] theorem front_groupJoin (before : State) (source : StationId) (p : JoinPayload) (s : State) (g : Nat) : (State.groupJoin before source p s g).front = s.front := by
  unfold State.groupJoin
  (repeat' split) <;> simp
@[simp] theorem front_applyJoin (s : State) (source : StationId) (p : JoinPayload) : (State.applyJoin s source p).front = s.front := by
  unfold State.applyJoin
  (repeat' split) <;> simp
@[simp] theorem front_reportForgotten (s : State) (k : StationId) (former : EntryState) : (State.reportForgotten s k former).front = s.front := by
  unfold State.reportForgotten
  (repeat' split) <;> simp
@[simp] theorem front_tableForget (s : State) (k : StationId) : (State.tableForget s k).front = s.front := by
  unfold State.tableForget
  (repeat' split) <;> simp
@[simp] theorem front_applyForget (s : State) (source k : StationId) : (State.applyForget s source k).front = s.front := by
  unfold State.applyForget
  (repeat' split) <;> simp
@[simp] theorem front_applyStatus (s : State) (source : StationId) (p : Banked StatusBank) : (State.applyStatus s source p).front = s.front := by
  unfold State.applyStatus
  (repeat' split) <;> simp
@[simp] theorem front_groupLost (k : StationId) (s : State) (g : Nat) : (State.groupLost k s g).front = s.front := by
  unfold State.groupLost
  (repeat' split) <;> simp
@[simp] theorem front_losePeer (k : StationId) (s : State) : (State.losePeer k s).front = s.front := by
  unfold State.losePeer
  (repeat' split) <;> simp
@[simp] theorem front_takeOwn (s : State) (source : StationId) (f : PeerFrame) : (State.takeOwn s source f).front = s.front := by
  unfold State.takeOwn
  (repeat' split) <;> simp
@[simp] theorem front_takeGrant (s : State) (b : Bank) (o : OutletId) : (State.takeGrant s b o).front = s.front := by
  unfold State.takeGrant
  (repeat' split) <;> simp
@[simp] theorem front_dropGrant (s : State) (b : Bank) : (State.dropGrant s b).front = s.front := by
  unfold State.dropGrant
  (repeat' split) <;> simp
@[simp] theorem front_actOnVerdict (s : State) (p : ClaimPayload) (granted : Bool) : (State.actOnVerdict s p granted).front = s.front := by
  unfold State.actOnVerdict
  (repeat' split) <;> simp
@[simp] theorem front_applyClaim (s : State) (source : StationId) (p : ClaimPayload) : (State.applyClaim s source p).front = s.front := by
  unfold State.applyClaim
  (repeat' split) <;> simp
@[simp] theorem front_clearPending (s : State) (source : StationId) (p : OpenGroupPayload) : (State.clearPending s source p).front = s.front := by
  unfold State.clearPending
  (repeat' split) <;> simp
@[simp] theorem front_reportMerged (s : State) (source : StationId) (g : Nat) (r : CycleRecord) : (State.reportMerged s source g r).front = s.front := by
  unfold State.reportMerged
  (repeat' split) <;> simp
@[simp] theorem front_reportRequested (s : State) (source : StationId) (p : OpenGroupPayload) : (State.reportRequested s source p).front = s.front := by
  unfold State.reportRequested
  (repeat' split) <;> simp

theorem front_abortAtOpen (s : State) (r : CycleRecord) : (s.abortAtOpen r).1.front = s.front := by
  unfold State.abortAtOpen
  split
  · split
    · rename_i h; exact front_queueAbort h
    · simp
  · rfl

@[simp] theorem front_openCycle (s : State) (source : StationId) (p : OpenGroupPayload) : (State.openCycle s source p).front = s.front := by
  unfold State.openCycle
  simp [front_abortAtOpen]
@[simp] theorem front_applyOpenGroup (s : State) (source : StationId) (p : OpenGroupPayload) : (State.applyOpenGroup s source p).front = s.front := by
  unfold State.applyOpenGroup
  try dsimp only
  (repeat' split) <;> first | (simp; done) | (rename_i h; simp [front_offer h]; done) | rfl
@[simp] theorem front_applyGroupOff (s : State) (source : StationId) (p : GroupOffPayload) : (State.applyGroupOff s source p).front = s.front := by
  unfold State.applyGroupOff
  try dsimp only
  (repeat' split) <;> first | (simp; done) | (rename_i h; simp [front_offer h]; done) | rfl
@[simp] theorem front_applyGroupOn (s : State) (source : StationId) (p : GroupOnPayload) : (State.applyGroupOn s source p).front = s.front := by
  unfold State.applyGroupOn
  try dsimp only
  (repeat' split) <;> first | (simp; done) | (rename_i h; simp [front_offer h]; done) | rfl
@[simp] theorem front_applyGroupAbort (s : State) (source : StationId) (p : GroupAbortPayload) : (State.applyGroupAbort s source p).front = s.front := by
  unfold State.applyGroupAbort
  try dsimp only
  (repeat' split) <;> first | (simp; done) | (rename_i h; simp [front_offer h]; done) | rfl
@[simp] theorem front_takeInHand (s : State) (o : OutletId) : (State.takeInHand s o).front = s.front := rfl
@[simp] theorem front_originated (s : State) (e : GroupEntry) (tag : Tag) : (State.originated s e tag).front = s.front := by
  unfold State.originated
  try dsimp only
  (repeat' split) <;> first | (simp; done) | (rename_i h; simp [front_offer h]; done) | rfl
@[simp] theorem front_clearTripped (s : State) (o : OutletId) : (State.clearTripped s o).front = s.front := by
  unfold State.clearTripped
  (repeat' split) <;> simp
@[simp] theorem front_expireClaim (s : State) (o : OutletId) : (State.expireClaim s o).front = s.front := by
  unfold State.expireClaim
  (repeat' split) <;> simp
@[simp] theorem front_scheduleStatus (s : State) : (State.scheduleStatus s).front = s.front := by
  unfold State.scheduleStatus
  (repeat' split) <;> simp
@[simp] theorem front_endOffGather (s : State) (g : Nat) : (State.endOffGather s g).front = s.front := by
  unfold State.endOffGather
  (repeat' split) <;> simp

/-! The event queue. -/

/-- The event queue holds more than it has room for (R184): never so. -/
def State.overfull (s : State) : Bool := decide (eventCapacity < s.port.events.length)

theorem eventsBounded_iff (s : State) : s.eventsBounded ↔ s.overfull = false := by
  unfold State.eventsBounded State.overfull
  simp only [decide_eq_false_iff_not]
  omega

@[simp] theorem overfull_post (s : State) k a b c : (s.post k a b c).overfull = s.overfull := by
  unfold State.overfull State.post
  split
  · split
    · rename_i hl
      simp only [modPort_port, List.length_append, List.length_singleton, decide_eq_decide]
      omega
    · rfl
  · rfl

@[simp] theorem overfull_foldl {α : Type} {f : State → α → State} (h : ∀ t x, (f t x).overfull = t.overfull) (l : List α) (s : State) :
    (l.foldl f s).overfull = s.overfull :=
  foldl_keeps (P := fun t => t.overfull = s.overfull) (fun t x ht => (h t x).trans ht) l s rfl

theorem overfull_offer {s t : State} {u : Nat} {f : PeerFrame} (h : s.offer u f = some t) : t.overfull = s.overfull := by
  rw [offer_frame h]; rfl

@[simp] theorem overfull_ite {c : Prop} [Decidable c] (s t : State) : (if c then s else t).overfull = if c then s.overfull else t.overfull :=
  apply_ite _ _ _ _

@[simp] theorem overfull_seeWindow (s : State) o n : (s.modPort (Port.seeWindow o n)).overfull = s.overfull := rfl

@[simp] theorem overfull_modMeter (s : State) o f : (s.modMeter o f).overfull = s.overfull := rfl
@[simp] theorem overfull_modLine (s : State) b f : (s.modLine b f).overfull = s.overfull := rfl
@[simp] theorem overfull_modWindow (s : State) b f : (s.modWindow b f).overfull = s.overfull := rfl
@[simp] theorem overfull_setQueue (s : State) b q : (s.setQueue b q).overfull = s.overfull := rfl
@[simp] theorem overfull_modClaim (s : State) b f : (s.modClaim b f).overfull = s.overfull := rfl
@[simp] theorem overfull_modPeer (s : State) k f : (s.modPeer k f).overfull = s.overfull := rfl
@[simp] theorem overfull_modOver (s : State) n f : (s.modOver n f).overfull = s.overfull := rfl
@[simp] theorem overfull_modLink (s : State) f : (s.modLink f).overfull = s.overfull := rfl
@[simp] theorem overfull_modGroup (s : State) g f : (s.modGroup g f).overfull = s.overfull := rfl
@[simp] theorem overfull_modRecord (s : State) g f : (s.modRecord g f).overfull = s.overfull := rfl
@[simp] theorem overfull_loadTimer (s : State) o ms : (s.loadTimer o ms).overfull = s.overfull := rfl
@[simp] theorem overfull_setUnaligned (s : State) o v : (s.setUnaligned o v).overfull = s.overfull := rfl
@[simp] theorem overfull_setTarget (s : State) o t : (s.setTarget o t).overfull = s.overfull := rfl
@[simp] theorem overfull_setRestore (s : State) o v : (s.setRestore o v).overfull = s.overfull := rfl
@[simp] theorem overfull_setCycle (s : State) o c : (s.setCycle o c).overfull = s.overfull := rfl
@[simp] theorem overfull_setPendingOff (s : State) o : (s.setPendingOff o).overfull = s.overfull := rfl
@[simp] theorem overfull_joinCycle (s : State) o : (s.joinCycle o).overfull = s.overfull := rfl
@[simp] theorem overfull_records (s : State) l : State.overfull { s with records := l } = s.overfull := rfl
@[simp] theorem overfull_groups (s : State) l : State.overfull { s with groups := l } = s.overfull := rfl
@[simp] theorem overfull_conflicts (s : State) l : State.overfull { s with conflicts := l } = s.overfull := rfl
@[simp] theorem overfull_overload (s : State) l : State.overfull { s with overload := l } = s.overfull := rfl
@[simp] theorem overfull_restored (s : State) r v : State.overfull { s with restoreSet := r, startRestored := v } = s.overfull := rfl
@[simp] theorem overfull_seq (s : State) n : State.overfull { s with seq := n } = s.overfull := rfl
@[simp] theorem overfull_modOutlet (s : State) o f : (s.modOutlet o f).overfull = s.overfull := rfl
@[simp] theorem overfull_place (s : State) o st sub : (s.place o st sub).overfull = s.overfull := rfl
@[simp] theorem overfull_startAlign (s : State) o st : (s.startAlign o st).overfull = s.overfull := rfl
@[simp] theorem overfull_endLocal (s : State) o : (s.endLocal o).overfull = s.overfull := rfl
@[simp] theorem overfull_protect (s : State) set : (s.protect set).overfull = s.overfull := rfl
@[simp] theorem overfull_passTime (s : State) dt : (s.passTime dt).overfull = s.overfull := by
  unfold State.passTime; split <;> rfl

@[simp] theorem overfull_insertFrame (s : State) (urgency : Nat) (f : PeerFrame) : (State.insertFrame s urgency f).overfull = s.overfull := rfl
@[simp] theorem overfull_replaceReserved (s : State) (f : PeerFrame) : (State.replaceReserved s f).overfull = s.overfull := rfl
@[simp] theorem overfull_offerReserved (s : State) (f : PeerFrame) : (State.offerReserved s f).overfull = s.overfull := by
  unfold State.offerReserved
  (repeat' split) <;> simp
@[simp] theorem overfull_offerStatus (s : State) : (State.offerStatus s).overfull = s.overfull := by
  unfold State.offerStatus
  (repeat' split) <;> simp
@[simp] theorem overfull_offerJoin (s : State) (replyRequested : Bool) : (State.offerJoin s replyRequested).overfull = s.overfull := by
  unfold State.offerJoin
  (repeat' split) <;> simp
@[simp] theorem overfull_recompose (s : State) : (State.recompose s).overfull = s.overfull := by
  unfold State.recompose
  (repeat' split) <;> simp
@[simp] theorem overfull_removeFrames (s : State) (p : PeerFrame → Bool) : (State.removeFrames s p).overfull = s.overfull := rfl
@[simp] theorem overfull_joinQueue (s : State) (o : OutletId) : (State.joinQueue s o).overfull = s.overfull := by
  unfold State.joinQueue
  (repeat' split) <;> simp
@[simp] theorem overfull_leaveQueue (s : State) (o : OutletId) : (State.leaveQueue s o).overfull = s.overfull := by
  unfold State.leaveQueue
  (repeat' split) <;> simp
@[simp] theorem overfull_withdrawClaim (s : State) (b : Bank) : (State.withdrawClaim s b).overfull = s.overfull := by
  unfold State.withdrawClaim
  (repeat' split) <;> simp
@[simp] theorem overfull_leaveClaiming (s : State) (o : OutletId) : (State.leaveClaiming s o).overfull = s.overfull := by
  unfold State.leaveClaiming
  (repeat' split) <;> simp
@[simp] theorem overfull_markDropped (s : State) (o : OutletId) : (State.markDropped s o).overfull = s.overfull := by
  unfold State.markDropped
  (repeat' split) <;> simp
@[simp] theorem overfull_dropClaim (s : State) (o : OutletId) : (State.dropClaim s o).overfull = s.overfull := by
  unfold State.dropClaim
  (repeat' split) <;> simp
@[simp] theorem overfull_issueClaim (s : State) (b : Bank) : (State.issueClaim s b).overfull = s.overfull := by
  unfold State.issueClaim
  try dsimp only
  (repeat' split) <;> first | (simp; done) | (rename_i h; simp [overfull_offer h]; done) | rfl
@[simp] theorem overfull_issueClaims (s : State) : (State.issueClaims s).overfull = s.overfull := by
  unfold State.issueClaims
  (repeat' split) <;> simp
@[simp] theorem overfull_clearRetry (s : State) (n : BranchId) : (State.clearRetry s n).overfull = s.overfull := rfl
@[simp] theorem overfull_triggerRetries (s : State) (p : BranchId → Bool) : (State.triggerRetries s p).overfull = s.overfull := by
  unfold State.triggerRetries
  try dsimp only
  (repeat' split) <;> first | (simp; done) | (rename_i h; simp [overfull_offer h]; done) | rfl
@[simp] theorem overfull_setHeld (s : State) (k : StationId) (b : Bank) (amount : Nat) : (State.setHeld s k b amount).overfull = s.overfull := by
  unfold State.setHeld
  (repeat' split) <;> simp
@[simp] theorem overfull_recordClaim (s : State) (source : StationId) (p : ClaimPayload) : (State.recordClaim s source p).overfull = s.overfull := by
  unfold State.recordClaim
  (repeat' split) <;> simp
@[simp] theorem overfull_absorbWindow (s : State) (b : Bank) (clean : OutletId → Bool) : (State.absorbWindow s b clean).overfull = s.overfull := by
  unfold State.absorbWindow
  (repeat' split) <;> simp
@[simp] theorem overfull_endClaims (s : State) (p : Banked StatusBank) : (State.endClaims s p).overfull = s.overfull := rfl
@[simp] theorem overfull_withdrawAllSent (s : State) : (State.withdrawAllSent s).overfull = s.overfull := rfl
@[simp] theorem overfull_meetTarget (s : State) (o : OutletId) : (State.meetTarget s o).overfull = s.overfull := by
  unfold State.meetTarget
  (repeat' split) <;> simp
@[simp] theorem overfull_enterOff (s : State) (o : OutletId) : (State.enterOff s o).overfull = s.overfull := by
  unfold State.enterOff
  (repeat' split) <;> simp
@[simp] theorem overfull_enterClaiming (s : State) (o : OutletId) : (State.enterClaiming s o).overfull = s.overfull := by
  unfold State.enterClaiming
  (repeat' split) <;> simp
@[simp] theorem overfull_startCoil (s : State) (o : OutletId) : (State.startCoil s o).overfull = s.overfull := by
  unfold State.startCoil
  (repeat' split) <;> simp
@[simp] theorem overfull_startClosingSettle (s : State) (o : OutletId) : (State.startClosingSettle s o).overfull = s.overfull := by
  unfold State.startClosingSettle
  (repeat' split) <;> simp
@[simp] theorem overfull_startOpeningSettle (s : State) (o : OutletId) : (State.startOpeningSettle s o).overfull = s.overfull := by
  unfold State.startOpeningSettle
  (repeat' split) <;> simp
@[simp] theorem overfull_enterClosing (s : State) (o : OutletId) : (State.enterClosing s o).overfull = s.overfull := by
  unfold State.enterClosing
  (repeat' split) <;> simp
@[simp] theorem overfull_enterOpening (s : State) (o : OutletId) : (State.enterOpening s o).overfull = s.overfull := by
  unfold State.enterOpening
  (repeat' split) <;> simp
@[simp] theorem overfull_endPendingOff (s : State) (o : OutletId) : (State.endPendingOff s o).overfull = s.overfull := by
  unfold State.endPendingOff
  (repeat' split) <;> simp
@[simp] theorem overfull_alignClosing (s : State) (o : OutletId) (unaligned : Bool) : (State.alignClosing s o unaligned).overfull = s.overfull := by
  unfold State.alignClosing
  (repeat' split) <;> simp
@[simp] theorem overfull_alignOpening (s : State) (o : OutletId) (unaligned : Bool) : (State.alignOpening s o unaligned).overfull = s.overfull := by
  unfold State.alignOpening
  (repeat' split) <;> simp
@[simp] theorem overfull_setStatus (s : State) (g : Nat) (o : OutletId) (st : MemberStatus) : (State.setStatus s g o st).overfull = s.overfull := by
  unfold State.setStatus
  (repeat' split) <;> simp
@[simp] theorem overfull_releaseMembers (s : State) (ms : List Member) : (State.releaseMembers s ms).overfull = s.overfull := by
  unfold State.releaseMembers
  exact overfull_foldl (fun t _ => overfull_modOutlet t _ _) _ _
@[simp] theorem overfull_finishCycle (s : State) (g : Nat) (out : CycleOutcome) : (State.finishCycle s g out).overfull = s.overfull := by
  unfold State.finishCycle
  (repeat' split) <;> simp
@[simp] theorem overfull_restoreByAbort (s : State) (o : OutletId) : (State.restoreByAbort s o).overfull = s.overfull := by
  unfold State.restoreByAbort
  try dsimp only
  (repeat' split) <;> first | (simp; done) | (rename_i h; simp [overfull_offer h]; done) | rfl
@[simp] theorem overfull_checkAbortDone (s : State) (g : Nat) : (State.checkAbortDone s g).overfull = s.overfull := by
  unfold State.checkAbortDone
  (repeat' split) <;> simp
@[simp] theorem overfull_abortCycle (s : State) (g : Nat) (reason : EndReason) : (State.abortCycle s g reason).overfull = s.overfull := by
  unfold State.abortCycle
  (repeat' split) <;> simp
@[simp] theorem overfull_actAbort (s : State) (g : Nat) (reason : EndReason) : (State.actAbort s g reason).overfull = s.overfull := by
  unfold State.actAbort
  (repeat' split) <;> simp
@[simp] theorem overfull_abortNotQueued (s : State) (r : CycleRecord) : (State.abortNotQueued s r).overfull = s.overfull := by
  unfold State.abortNotQueued
  (repeat' split) <;> simp

theorem overfull_queueAbort {s t : State} {r : CycleRecord} {a : AbortReason} (h : s.queueAbort r a = some t) : t.overfull = s.overfull := by
  unfold State.queueAbort at h
  dsimp only at h
  split at h
  · cases h; simp
  · rw [overfull_offer h]; simp

@[simp] theorem overfull_offerAbort (s : State) (g : Nat) (reason : AbortReason) : (State.offerAbort s g reason).overfull = s.overfull := by
  unfold State.offerAbort
  try dsimp only
  (repeat' split) <;> first | (simp; done) | (rename_i h; simp [overfull_queueAbort h]; done) | rfl
@[simp] theorem overfull_maybeGroupOff (s : State) (g : Nat) : (State.maybeGroupOff s g).overfull = s.overfull := by
  unfold State.maybeGroupOff
  try dsimp only
  (repeat' split) <;> first | (simp; done) | (rename_i h; simp [overfull_offer h]; done) | rfl
@[simp] theorem overfull_maybeGroupOn (s : State) (g : Nat) : (State.maybeGroupOn s g).overfull = s.overfull := by
  unfold State.maybeGroupOn
  try dsimp only
  (repeat' split) <;> first | (simp; done) | (rename_i h; simp [overfull_offer h]; done) | rfl
@[simp] theorem overfull_noteOpened (s : State) (o : OutletId) : (State.noteOpened s o).overfull = s.overfull := by
  unfold State.noteOpened
  (repeat' split) <;> simp
@[simp] theorem overfull_noteRestored (s : State) (o : OutletId) : (State.noteRestored s o).overfull = s.overfull := by
  unfold State.noteRestored
  (repeat' split) <;> simp
@[simp] theorem overfull_noteFailed (s : State) (o : OutletId) : (State.noteFailed s o).overfull = s.overfull := by
  unfold State.noteFailed
  (repeat' split) <;> simp
@[simp] theorem overfull_noteTripped (s : State) (o : OutletId) : (State.noteTripped s o).overfull = s.overfull := by
  unfold State.noteTripped
  (repeat' split) <;> simp
@[simp] theorem overfull_withdrawMember (s : State) (g : Nat) (o : OutletId) : (State.withdrawMember s g o).overfull = s.overfull := by
  unfold State.withdrawMember
  (repeat' split) <;> simp
@[simp] theorem overfull_noteClaiming (s : State) (o : OutletId) : (State.noteClaiming s o).overfull = s.overfull := by
  unfold State.noteClaiming
  (repeat' split) <;> simp
@[simp] theorem overfull_startDwell (s : State) (g : Nat) : (State.startDwell s g).overfull = s.overfull := by
  unfold State.startDwell
  (repeat' split) <;> simp
@[simp] theorem overfull_removeAwaited (s : State) (g : Nat) (k : StationId) : (State.removeAwaited s g k).overfull = s.overfull := by
  unfold State.removeAwaited
  (repeat' split) <;> simp
@[simp] theorem overfull_restoreByDwell (g : Nat) (s : State) (o : OutletId) : (State.restoreByDwell g s o).overfull = s.overfull := by
  unfold State.restoreByDwell
  (repeat' split) <;> simp
@[simp] theorem overfull_endDwell (s : State) (g : Nat) : (State.endDwell s g).overfull = s.overfull := by
  unfold State.endDwell
  (repeat' split) <;> simp
@[simp] theorem overfull_openMember (s : State) (o : OutletId) : (State.openMember s o).overfull = s.overfull := by
  unfold State.openMember
  try dsimp only
  (repeat' split) <;> first | (simp; done) | (rename_i h; simp [overfull_offer h]; done) | rfl
@[simp] theorem overfull_endCyclesLocally (s : State) : (State.endCyclesLocally s).overfull = s.overfull := by
  unfold State.endCyclesLocally
  try dsimp only
  (repeat' split) <;> first | (simp; done) | (rename_i h; simp [overfull_offer h]; done) | rfl
@[simp] theorem overfull_placeTripped (s : State) (o : OutletId) : (State.placeTripped s o).overfull = s.overfull := by
  unfold State.placeTripped
  (repeat' split) <;> simp
@[simp] theorem overfull_disturb (s : State) (o : OutletId) : (State.disturb s o).overfull = s.overfull := by
  unfold State.disturb
  (repeat' split) <;> simp
@[simp] theorem overfull_trip (s : State) (o : OutletId) (reason : TripReason) (value : Nat) : (State.trip s o reason value).overfull = s.overfull := by
  unfold State.trip
  (repeat' split) <;> simp
@[simp] theorem overfull_endClosing (s : State) (o : OutletId) : (State.endClosing s o).overfull = s.overfull := by
  unfold State.endClosing
  (repeat' split) <;> simp
@[simp] theorem overfull_failClosing (s : State) (o : OutletId) : (State.failClosing s o).overfull = s.overfull := by
  unfold State.failClosing
  (repeat' split) <;> simp
@[simp] theorem overfull_closingAlignEnds (s : State) (o : OutletId) : (State.closingAlignEnds s o).overfull = s.overfull := by
  unfold State.closingAlignEnds
  (repeat' split) <;> simp
@[simp] theorem overfull_loadDwell (s : State) (o : OutletId) : (State.loadDwell s o).overfull = s.overfull := by
  unfold State.loadDwell
  (repeat' split) <;> simp
@[simp] theorem overfull_endOpening (s : State) (o : OutletId) : (State.endOpening s o).overfull = s.overfull := by
  unfold State.endOpening
  (repeat' split) <;> simp
@[simp] theorem overfull_leaveDwell (s : State) (o : OutletId) : (State.leaveDwell s o).overfull = s.overfull := by
  unfold State.leaveDwell
  (repeat' split) <;> simp
@[simp] theorem overfull_sagOutlet (b : Bank) (s : State) (o : OutletId) : (State.sagOutlet b s o).overfull = s.overfull := by
  unfold State.sagOutlet
  (repeat' split) <;> simp
@[simp] theorem overfull_sagOutlets (s : State) (b : Bank) : (State.sagOutlets s b).overfull = s.overfull := by
  unfold State.sagOutlets
  (repeat' split) <;> simp
@[simp] theorem overfull_disturbBank (s : State) (b : Bank) : (State.disturbBank s b).overfull = s.overfull := by
  unfold State.disturbBank
  (repeat' split) <;> simp
@[simp] theorem overfull_enterSag (s : State) (b : Bank) (cause : SagCause) : (State.enterSag s b cause).overfull = s.overfull := by
  unfold State.enterSag
  (repeat' split) <;> simp
@[simp] theorem overfull_reenterSag (s : State) (b : Bank) : (State.reenterSag s b).overfull = s.overfull := by
  unfold State.reenterSag
  (repeat' split) <;> simp
@[simp] theorem overfull_sagCondition (s : State) (b : Bank) (cause : SagCause) : (State.sagCondition s b cause).overfull = s.overfull := by
  unfold State.sagCondition
  (repeat' split) <;> simp
@[simp] theorem overfull_enterRecovering (s : State) (b : Bank) : (State.enterRecovering s b).overfull = s.overfull := by
  unfold State.enterRecovering
  (repeat' split) <;> simp
@[simp] theorem overfull_restoreShed (s : State) (o : OutletId) : (State.restoreShed s o).overfull = s.overfull := by
  unfold State.restoreShed
  (repeat' split) <;> simp
@[simp] theorem overfull_enterNormal (s : State) (b : Bank) : (State.enterNormal s b).overfull = s.overfull := by
  unfold State.enterNormal
  (repeat' split) <;> simp
@[simp] theorem overfull_judgeHalf (s : State) (b : Bank) (volts : Nat) (onCrossings : Bool) : (State.judgeHalf s b volts onCrossings).overfull = s.overfull := by
  unfold State.judgeHalf
  try dsimp only
  (repeat' split) <;> first | (simp; done) | (rename_i h; simp [overfull_offer h]; done) | rfl
@[simp] theorem overfull_watchOutlet (amps : List Nat) (s : State) (o : OutletId) : (State.watchOutlet amps s o).overfull = s.overfull := by
  unfold State.watchOutlet
  try dsimp only
  (repeat' split) <;> first | (simp; done) | (rename_i h; simp [overfull_offer h]; done) | rfl
@[simp] theorem overfull_watchBank (s : State) (b : Bank) (amps : List Nat) : (State.watchBank s b amps).overfull = s.overfull := by
  unfold State.watchBank
  (repeat' split) <;> simp
@[simp] theorem overfull_closeHalf (s : State) (b : Bank) (h : HalfMeasure) (onCrossing : Bool) (start : Stamp) : (State.closeHalf s b h onCrossing start).overfull = s.overfull := by
  unfold State.closeHalf
  (repeat' split) <;> simp
@[simp] theorem overfull_notePeak (s : State) (o : OutletId) (peak : Nat) : (State.notePeak s o peak).overfull = s.overfull := by
  unfold State.notePeak
  try dsimp only
  (repeat' split) <;> first | (simp; done) | (rename_i h; simp [overfull_offer h]; done) | rfl
@[simp] theorem overfull_notePeaks (s : State) (b : Bank) (peaks : List Nat) : (State.notePeaks s b peaks).overfull = s.overfull := by
  unfold State.notePeaks
  (repeat' split) <;> simp
@[simp] theorem overfull_crossOutlet (s : State) (o : OutletId) : (State.crossOutlet s o).overfull = s.overfull := by
  unfold State.crossOutlet
  (repeat' split) <;> simp
@[simp] theorem overfull_crossOutlets (s : State) (b : Bank) : (State.crossOutlets s b).overfull = s.overfull := by
  unfold State.crossOutlets
  (repeat' split) <;> simp
@[simp] theorem overfull_endOutletWindow (noLine : Bool) (volts ms : Nat) (w : WindowMeasure) (s : State) (o : OutletId) : (State.endOutletWindow noLine volts ms w s o).overfull = s.overfull := by
  unfold State.endOutletWindow
  try dsimp only
  (repeat' split) <;> first | (simp; done) | (rename_i h; simp [overfull_offer h]; done) | rfl
@[simp] theorem overfull_openOutletWindow (b : Bank) (s : State) (o : OutletId) : (State.openOutletWindow b s o).overfull = s.overfull := by
  unfold State.openOutletWindow
  (repeat' split) <;> simp
@[simp] theorem overfull_endWindow (s : State) (b : Bank) (m : WindowMeasure) (closing : Option Stamp) : (State.endWindow s b m closing).overfull = s.overfull := by
  unfold State.endWindow
  (repeat' split) <;> simp
@[simp] theorem overfull_countRise (s : State) (b : Bank) (m : WindowMeasure) (now : Stamp) : (State.countRise s b m now).overfull = s.overfull := by
  unfold State.countRise
  (repeat' split) <;> simp
@[simp] theorem overfull_takeVoltageCrossing (s : State) (b : Bank) (edge : Edge) (now : Stamp) (h : HalfMeasure) (m : WindowMeasure) : (State.takeVoltageCrossing s b edge now h m).overfull = s.overfull := by
  unfold State.takeVoltageCrossing
  (repeat' split) <;> simp
@[simp] theorem overfull_takeCurrentCrossing (s : State) (o : OutletId) (now : Stamp) : (State.takeCurrentCrossing s o now).overfull = s.overfull := by
  unfold State.takeCurrentCrossing
  try dsimp only
  (repeat' split) <;> first | (simp; done) | (rename_i h; simp [overfull_offer h]; done) | rfl
@[simp] theorem overfull_linkGoesDown (s : State) : (State.linkGoesDown s).overfull = s.overfull := by
  unfold State.linkGoesDown
  (repeat' split) <;> simp
@[simp] theorem overfull_enterLinkDown (s : State) (k : FrameKind) : (State.enterLinkDown s k).overfull = s.overfull := by
  unfold State.enterLinkDown
  (repeat' split) <;> simp
@[simp] theorem overfull_enterIsolated (s : State) (k : FrameKind) (serial : Nat) : (State.enterIsolated s k serial).overfull = s.overfull := by
  unfold State.enterIsolated
  (repeat' split) <;> simp
@[simp] theorem overfull_offerOnBus (s : State) (rivals : List Nat) : (State.offerOnBus s rivals).overfull = s.overfull := by
  unfold State.offerOnBus
  (repeat' split) <;> simp
@[simp] theorem overfull_attemptCarried (s : State) : (State.attemptCarried s).overfull = s.overfull := by
  unfold State.attemptCarried
  (repeat' split) <;> simp
@[simp] theorem overfull_claimRemoved (s : State) (f : PeerFrame) : (State.claimRemoved s f).overfull = s.overfull := by
  unfold State.claimRemoved
  (repeat' split) <;> simp
@[simp] theorem overfull_settleAttempt (s : State) (a : Sending) : (State.settleAttempt s a).overfull = s.overfull := by
  unfold State.settleAttempt
  (repeat' split) <;> simp
@[simp] theorem overfull_attemptFails (s : State) (mismatch : Bool) : (State.attemptFails s mismatch).overfull = s.overfull := by
  unfold State.attemptFails
  try dsimp only
  (repeat' split) <;> first | (simp; done) | (rename_i h; simp [overfull_offer h]; done) | rfl
@[simp] theorem overfull_frameInError (s : State) : (State.frameInError s).overfull = s.overfull := by
  unfold State.frameInError
  (repeat' split) <;> simp
@[simp] theorem overfull_frameFails (s : State) (r : Reception) : (State.frameFails s r).overfull = s.overfull := by
  unfold State.frameFails
  (repeat' split) <;> simp
@[simp] theorem overfull_enterJoining (s : State) : (State.enterJoining s).overfull = s.overfull := by
  unfold State.enterJoining
  (repeat' split) <;> simp
@[simp] theorem overfull_startRestore (s : State) : (State.startRestore s).overfull = s.overfull := by
  unfold State.startRestore
  try dsimp only
  (repeat' split) <;> first | (simp; done) | (rename_i h; simp [overfull_offer h]; done) | rfl
@[simp] theorem overfull_enterActive (s : State) : (State.enterActive s).overfull = s.overfull := by
  unfold State.enterActive
  (repeat' split) <;> simp
@[simp] theorem overfull_reportOverload (s : State) (n : BranchId) (detail : Nat) : (State.reportOverload s n detail).overfull = s.overfull := by
  unfold State.reportOverload
  (repeat' split) <;> simp
@[simp] theorem overfull_shedOn (s : State) (n : BranchId) : (State.shedOn s n).overfull = s.overfull := by
  unfold State.shedOn
  (repeat' split) <;> simp
@[simp] theorem overfull_designate (s : State) (n : BranchId) : (State.designate s n).overfull = s.overfull := by
  unfold State.designate
  (repeat' split) <;> simp
@[simp] theorem overfull_evaluate (s : State) (n : BranchId) : (State.evaluate s n).overfull = s.overfull := by
  unfold State.evaluate
  (repeat' split) <;> simp
@[simp] theorem overfull_overloadStep (source : StationId) (s : State) (n : BranchId) : (State.overloadStep source s n).overfull = s.overfull := by
  unfold State.overloadStep
  (repeat' split) <;> simp
@[simp] theorem overfull_overloadAfter (s : State) (source : StationId) : (State.overloadAfter s source).overfull = s.overfull := by
  unfold State.overloadAfter
  (repeat' split) <;> simp
@[simp] theorem overfull_endHolds (s : State) (k : StationId) : (State.endHolds s k).overfull = s.overfull := rfl
@[simp] theorem overfull_heard (s : State) (k : StationId) : (State.heard s k).overfull = s.overfull := by
  unfold State.heard
  (repeat' split) <;> simp
@[simp] theorem overfull_heardFrom (s : State) (k : StationId) : (State.heardFrom s k).overfull = s.overfull := by
  unfold State.heardFrom
  (repeat' split) <;> simp
@[simp] theorem overfull_rebuildRosters (s : State) : (State.rebuildRosters s).overfull = s.overfull := rfl
@[simp] theorem overfull_setConflict (source : StationId) (s : State) (n : BranchId) : (State.setConflict source s n).overfull = s.overfull := by
  unfold State.setConflict
  try dsimp only
  (repeat' split) <;> first | (simp; done) | (rename_i h; simp [overfull_offer h]; done) | rfl
@[simp] theorem overfull_checkConflicts (s : State) (source : StationId) (p : JoinPayload) : (State.checkConflicts s source p).overfull = s.overfull := by
  unfold State.checkConflicts
  (repeat' split) <;> simp
@[simp] theorem overfull_clearConflict (named : StationId) (s : State) (n : BranchId) : (State.clearConflict named s n).overfull = s.overfull := by
  unfold State.clearConflict
  try dsimp only
  (repeat' split) <;> first | (simp; done) | (rename_i h; simp [overfull_offer h]; done) | rfl
@[simp] theorem overfull_recheckConflicts (s : State) (named : StationId) : (State.recheckConflicts s named).overfull = s.overfull := by
  unfold State.recheckConflicts
  (repeat' split) <;> simp
@[simp] theorem overfull_reportDuplicate (s : State) (source : StationId) (p : JoinPayload) : (State.reportDuplicate s source p).overfull = s.overfull := by
  unfold State.reportDuplicate
  (repeat' split) <;> simp
@[simp] theorem overfull_reportJoined (s : State) (before : Peer) (source : StationId) (p : JoinPayload) : (State.reportJoined s before source p).overfull = s.overfull := by
  unfold State.reportJoined
  (repeat' split) <;> simp
@[simp] theorem overfull_replyJoin (s : State) (source : StationId) (p : JoinPayload) : (State.replyJoin s source p).overfull = s.overfull := by
  unfold State.replyJoin
  (repeat' split) <;> simp
@[simp] theorem overfull_tableJoin (s : State) (source : StationId) (p : JoinPayload) : (State.tableJoin s source p).overfull = s.overfull := by
  unfold State.tableJoin
  (repeat' split) <;> simp
@[simp] theorem overfull_budgetJoin (before : State) (source : StationId) (s : State) : (State.budgetJoin before source s).overfull = s.overfull := by
  unfold State.budgetJoin
  (repeat' split) <;> simp
@[simp] theorem overfull_groupJoin (before : State) (source : StationId) (p : JoinPayload) (s : State) (g : Nat) : (State.groupJoin before source p s g).overfull = s.overfull := by
  unfold State.groupJoin
  (repeat' split) <;> simp
@[simp] theorem overfull_applyJoin (s : State) (source : StationId) (p : JoinPayload) : (State.applyJoin s source p).overfull = s.overfull := by
  unfold State.applyJoin
  (repeat' split) <;> simp
@[simp] theorem overfull_reportForgotten (s : State) (k : StationId) (former : EntryState) : (State.reportForgotten s k former).overfull = s.overfull := by
  unfold State.reportForgotten
  (repeat' split) <;> simp
@[simp] theorem overfull_tableForget (s : State) (k : StationId) : (State.tableForget s k).overfull = s.overfull := by
  unfold State.tableForget
  (repeat' split) <;> simp
@[simp] theorem overfull_applyForget (s : State) (source k : StationId) : (State.applyForget s source k).overfull = s.overfull := by
  unfold State.applyForget
  (repeat' split) <;> simp
@[simp] theorem overfull_applyStatus (s : State) (source : StationId) (p : Banked StatusBank) : (State.applyStatus s source p).overfull = s.overfull := by
  unfold State.applyStatus
  (repeat' split) <;> simp
@[simp] theorem overfull_groupLost (k : StationId) (s : State) (g : Nat) : (State.groupLost k s g).overfull = s.overfull := by
  unfold State.groupLost
  (repeat' split) <;> simp
@[simp] theorem overfull_losePeer (k : StationId) (s : State) : (State.losePeer k s).overfull = s.overfull := by
  unfold State.losePeer
  (repeat' split) <;> simp
@[simp] theorem overfull_takeOwn (s : State) (source : StationId) (f : PeerFrame) : (State.takeOwn s source f).overfull = s.overfull := by
  unfold State.takeOwn
  (repeat' split) <;> simp
@[simp] theorem overfull_takeGrant (s : State) (b : Bank) (o : OutletId) : (State.takeGrant s b o).overfull = s.overfull := by
  unfold State.takeGrant
  (repeat' split) <;> simp
@[simp] theorem overfull_dropGrant (s : State) (b : Bank) : (State.dropGrant s b).overfull = s.overfull := by
  unfold State.dropGrant
  (repeat' split) <;> simp
@[simp] theorem overfull_actOnVerdict (s : State) (p : ClaimPayload) (granted : Bool) : (State.actOnVerdict s p granted).overfull = s.overfull := by
  unfold State.actOnVerdict
  (repeat' split) <;> simp
@[simp] theorem overfull_applyClaim (s : State) (source : StationId) (p : ClaimPayload) : (State.applyClaim s source p).overfull = s.overfull := by
  unfold State.applyClaim
  (repeat' split) <;> simp
@[simp] theorem overfull_clearPending (s : State) (source : StationId) (p : OpenGroupPayload) : (State.clearPending s source p).overfull = s.overfull := by
  unfold State.clearPending
  (repeat' split) <;> simp
@[simp] theorem overfull_reportMerged (s : State) (source : StationId) (g : Nat) (r : CycleRecord) : (State.reportMerged s source g r).overfull = s.overfull := by
  unfold State.reportMerged
  (repeat' split) <;> simp
@[simp] theorem overfull_reportRequested (s : State) (source : StationId) (p : OpenGroupPayload) : (State.reportRequested s source p).overfull = s.overfull := by
  unfold State.reportRequested
  (repeat' split) <;> simp

theorem overfull_abortAtOpen (s : State) (r : CycleRecord) : (s.abortAtOpen r).1.overfull = s.overfull := by
  unfold State.abortAtOpen
  split
  · split
    · rename_i h; exact overfull_queueAbort h
    · simp
  · rfl

@[simp] theorem overfull_openCycle (s : State) (source : StationId) (p : OpenGroupPayload) : (State.openCycle s source p).overfull = s.overfull := by
  unfold State.openCycle
  simp [overfull_abortAtOpen]
@[simp] theorem overfull_applyOpenGroup (s : State) (source : StationId) (p : OpenGroupPayload) : (State.applyOpenGroup s source p).overfull = s.overfull := by
  unfold State.applyOpenGroup
  try dsimp only
  (repeat' split) <;> first | (simp; done) | (rename_i h; simp [overfull_offer h]; done) | rfl
@[simp] theorem overfull_applyGroupOff (s : State) (source : StationId) (p : GroupOffPayload) : (State.applyGroupOff s source p).overfull = s.overfull := by
  unfold State.applyGroupOff
  try dsimp only
  (repeat' split) <;> first | (simp; done) | (rename_i h; simp [overfull_offer h]; done) | rfl
@[simp] theorem overfull_applyGroupOn (s : State) (source : StationId) (p : GroupOnPayload) : (State.applyGroupOn s source p).overfull = s.overfull := by
  unfold State.applyGroupOn
  try dsimp only
  (repeat' split) <;> first | (simp; done) | (rename_i h; simp [overfull_offer h]; done) | rfl
@[simp] theorem overfull_applyGroupAbort (s : State) (source : StationId) (p : GroupAbortPayload) : (State.applyGroupAbort s source p).overfull = s.overfull := by
  unfold State.applyGroupAbort
  try dsimp only
  (repeat' split) <;> first | (simp; done) | (rename_i h; simp [overfull_offer h]; done) | rfl
@[simp] theorem overfull_takeInHand (s : State) (o : OutletId) : (State.takeInHand s o).overfull = s.overfull := rfl
@[simp] theorem overfull_originated (s : State) (e : GroupEntry) (tag : Tag) : (State.originated s e tag).overfull = s.overfull := by
  unfold State.originated
  try dsimp only
  (repeat' split) <;> first | (simp; done) | (rename_i h; simp [overfull_offer h]; done) | rfl
@[simp] theorem overfull_clearTripped (s : State) (o : OutletId) : (State.clearTripped s o).overfull = s.overfull := by
  unfold State.clearTripped
  (repeat' split) <;> simp
@[simp] theorem overfull_expireClaim (s : State) (o : OutletId) : (State.expireClaim s o).overfull = s.overfull := by
  unfold State.expireClaim
  (repeat' split) <;> simp
@[simp] theorem overfull_scheduleStatus (s : State) : (State.scheduleStatus s).overfull = s.overfull := by
  unfold State.scheduleStatus
  (repeat' split) <;> simp
@[simp] theorem overfull_endOffGather (s : State) (g : Nat) : (State.endOffGather s g).overfull = s.overfull := by
  unfold State.endOffGather
  (repeat' split) <;> simp

end Sys2Proof.Machine
end

