-- ==== Sys2Proof/Laws/Queues.lean ====
section
/-! SUPPORT. Every operation keeps the transmit queue within its capacity, with the frame being sent in it and its replacement of its own kind, and the members of every cycle record in outlet order. -/

namespace Sys2Proof.Machine

/-- The transmit queue is within its capacity (R75, R76) and the members of the cycle records stand in order (R137). -/
def State.Fits (s : State) : Prop := s.queueBounded ∧ s.membersInOrder

/-! Counting. -/

theorem isReserved_of_kind {f g : PeerFrame} (h : frameKind f = frameKind g) : isReserved f = isReserved g := by unfold isReserved; rw [h]

theorem kind_of_isReserved {f : PeerFrame} (h : isReserved f = true) : frameKind f = .status ∨ frameKind f = .join := by
  simpa [isReserved] using h

theorem frameKind_mergeJoin (x f : PeerFrame) : frameKind (mergeJoin x f) = frameKind f := by unfold mergeJoin; split <;> rfl

theorem mem_insertByKey (x y : QueuedFrame) (q : List QueuedFrame) : y ∈ insertByKey x q ↔ y = x ∨ y ∈ q := by
  induction q with
  | nil => simp [insertByKey]
  | cons z zs ih =>
    simp only [insertByKey]
    split
    · simp
    · simp only [List.mem_cons, ih]
      constructor <;> rintro (e | e | e) <;> simp [e]

theorem ordinaryCount_insertByKey (x : QueuedFrame) (q : List QueuedFrame) :
    ordinaryCount (insertByKey x q) = ordinaryCount q + if isReserved x.frame then 0 else 1 := by
  induction q with
  | nil => cases h : isReserved x.frame <;> simp [insertByKey, ordinaryCount, h]
  | cons y ys ih =>
    simp only [insertByKey]
    split
    · cases h : isReserved x.frame <;> simp [ordinaryCount, h]
    · cases h : isReserved y.frame <;> simp_all [ordinaryCount] <;> omega

theorem kindCount_insertByKey (k : FrameKind) (x : QueuedFrame) (q : List QueuedFrame) :
    kindCount k (insertByKey x q) = kindCount k q + if frameKind x.frame = k then 1 else 0 := by
  induction q with
  | nil => by_cases h : frameKind x.frame = k <;> simp [insertByKey, kindCount, h]
  | cons y ys ih =>
    simp only [insertByKey]
    split
    · by_cases h : frameKind x.frame = k <;> simp [kindCount, h]
    · by_cases h : frameKind y.frame = k <;> simp_all [kindCount] <;> omega

theorem ordinaryCount_sublist {p q : List QueuedFrame} (h : p.Sublist q) : ordinaryCount p ≤ ordinaryCount q := (h.filter _).length_le

theorem kindCount_sublist (k : FrameKind) {p q : List QueuedFrame} (h : p.Sublist q) : kindCount k p ≤ kindCount k q := (h.filter _).length_le

theorem kindCount_erase {k : FrameKind} {x : QueuedFrame} {q : List QueuedFrame} (hx : x ∈ q) (hk : frameKind x.frame = k) :
    kindCount k (q.erase x) + 1 = kindCount k q := by
  have := ((List.perm_cons_erase hx).filter (fun x => decide (frameKind x.frame = k))).length_eq
  rw [List.filter_cons_of_pos (by simp [hk]), List.length_cons] at this
  exact this.symm

theorem kindCount_without (k : FrameKind) (q : List QueuedFrame) : kindCount k (q.filter (fun x => decide (frameKind x.frame ≠ k))) = 0 := by
  simp [kindCount, List.filter_filter]

/-! The link controller. -/

/-- The queue of `t` is part of that of `s`, and nothing is being sent in `t`, or the same frame still in the queue. -/
theorem fits_of_link {s t : State} (hs : s.Fits) (hr : t.records = s.records) (hq : t.link.queue.Sublist s.link.queue)
    (ha : t.link.sending = none ∨ t.link.sending = s.link.sending ∧ ∀ a, s.link.sending = some a → a.frame ∈ t.link.queue) : t.Fits := by
  refine ⟨⟨Nat.le_trans (ordinaryCount_sublist hq) hs.1.1, Nat.le_trans (kindCount_sublist _ hq) hs.1.2.1,
    Nat.le_trans (kindCount_sublist _ hq) hs.1.2.2.1, fun a h => ?_⟩, by unfold State.membersInOrder; rw [hr]; exact hs.2⟩
  rcases ha with e | ⟨e, m⟩
  · rw [e] at h; cases h
  · rw [e] at h; exact ⟨m a h, (hs.1.2.2.2 a h).2⟩

/-- A reserved frame goes into a queue that holds none of its kind. -/
theorem fits_insertReserved {s : State} (hs : s.Fits) (u : Nat) (f : PeerFrame) (hf : isReserved f = true)
    (h0 : kindCount (frameKind f) s.link.queue = 0) : (s.insertFrame u f).Fits := by
  have hk : frameKind (queuedFrame u s.station f).frame = frameKind f := rfl
  have hr : isReserved (queuedFrame u s.station f).frame = true := hf
  refine ⟨⟨?_, ?_, ?_, fun a h => ⟨(mem_insertByKey _ _ _).2 (.inr (hs.1.2.2.2 a h).1), (hs.1.2.2.2 a h).2⟩⟩, hs.2⟩
  · simp only [State.insertFrame, modLink_link, ordinaryCount_insertByKey, hr]
    exact hs.1.1
  · simp only [State.insertFrame, modLink_link, kindCount_insertByKey, hk]
    have := hs.1.2.1
    split
    · rename_i e; rw [e] at h0; omega
    · omega
  · simp only [State.insertFrame, modLink_link, kindCount_insertByKey, hk]
    have := hs.1.2.2.1
    split
    · rename_i e; rw [e] at h0; omega
    · omega

theorem fits_offer {s t : State} {u : Nat} {f : PeerFrame} (h : s.offer u f = some t) (hs : s.Fits) (hf : isReserved f = false := by rfl) :
    t.Fits := by
  unfold State.offer at h
  split at h
  · rename_i hr
    cases h
    simp only [State.queueHasRoom, Bool.and_eq_true, decide_eq_true_eq] at hr
    have hk : frameKind (queuedFrame u s.station f).frame = frameKind f := rfl
    have hn : isReserved (queuedFrame u s.station f).frame = false := hf
    have hns : frameKind f ≠ .status ∧ frameKind f ≠ .join := by simpa [isReserved] using hf
    refine ⟨⟨?_, ?_, ?_, fun a h => ⟨(mem_insertByKey _ _ _).2 (.inr (hs.1.2.2.2 a h).1), (hs.1.2.2.2 a h).2⟩⟩, hs.2⟩
    · simp only [State.insertFrame, modLink_link, ordinaryCount_insertByKey, hn]
      simp; omega
    · simp only [State.insertFrame, modLink_link, kindCount_insertByKey, hk, if_neg hns.1]; exact hs.1.2.1
    · simp only [State.insertFrame, modLink_link, kindCount_insertByKey, hk, if_neg hns.2]; exact hs.1.2.2.1
  · cases h

theorem fits_replaceReserved {s : State} (hs : s.Fits) (f : PeerFrame) (hf : isReserved f = true)
    (ha : ∀ a, s.link.sending = some a → frameKind a.frame.frame ≠ frameKind f) : (s.replaceReserved f).Fits := by
  unfold State.replaceReserved
  have h1 : (s.modLink (fun l => { l with queue := l.queue.filter (fun x => decide (frameKind x.frame ≠ frameKind f)) })).Fits :=
    fits_of_link hs rfl List.filter_sublist
      (.inr ⟨rfl, fun a h => List.mem_filter.2 ⟨(hs.1.2.2.2 a h).1, by simpa using ha a h⟩⟩)
  have key : ∀ g, frameKind g = frameKind f → State.Fits
      ((s.modLink (fun l => { l with queue := l.queue.filter (fun x => decide (frameKind x.frame ≠ frameKind f)) })).insertFrame plainUrgency g) := by
    intro g hg
    refine fits_insertReserved h1 _ _ ((isReserved_of_kind hg).trans hf) ?_
    rw [hg]; exact kindCount_without _ _
  dsimp only
  split
  · exact key _ (frameKind_mergeJoin _ _)
  · exact key _ rfl

theorem fits_offerReserved {s : State} (hs : s.Fits) (f : PeerFrame) (hf : isReserved f = true) : (s.offerReserved f).Fits := by
  unfold State.offerReserved
  split
  · split
    · rename_i a ha
      split
      · rename_i hk
        refine ⟨⟨hs.1.1, hs.1.2.1, hs.1.2.2.1, fun b h => ?_⟩, hs.2⟩
        cases h
        refine ⟨(hs.1.2.2.2 a ha).1, fun g hg => ?_⟩
        cases hg
        split
        · exact ⟨(isReserved_of_kind (frameKind_mergeJoin _ _)).trans hf, (frameKind_mergeJoin _ _).trans hk.symm⟩
        · exact ⟨hf, hk.symm⟩
      · rename_i hk
        exact fits_replaceReserved hs f hf (fun b hb => by rw [ha] at hb; cases hb; exact hk)
    · rename_i ha
      exact fits_replaceReserved hs f hf (fun b hb => by rw [ha] at hb; cases hb)
  · exact hs

@[simp] theorem fits_offerStatus (s : State) (hs : s.Fits) : s.offerStatus.Fits := fits_offerReserved hs _ rfl
@[simp] theorem fits_offerJoin (s : State) r (hs : s.Fits) : (s.offerJoin r).Fits := fits_offerReserved hs _ rfl

@[simp] theorem fits_removeFrames (s : State) p (hs : s.Fits) : (s.removeFrames p).Fits := by
  have hq : (s.removeFrames p).link.queue.Sublist s.link.queue := List.filter_sublist
  refine ⟨⟨Nat.le_trans (ordinaryCount_sublist hq) hs.1.1, Nat.le_trans (kindCount_sublist _ hq) hs.1.2.1,
    Nat.le_trans (kindCount_sublist _ hq) hs.1.2.2.1, fun b h => ?_⟩, hs.2⟩
  cases ha : s.link.sending with
  | none => simp [State.removeFrames, ha] at h
  | some a =>
    have h2 := hs.1.2.2.2 a ha
    simp only [State.removeFrames, modLink_link, ha, Option.map_some, Option.some.injEq] at h ⊢
    have hb : b.frame = a.frame ∧ b.replacement = a.replacement := by rw [← h]; split <;> exact ⟨rfl, rfl⟩
    refine ⟨List.mem_filter.2 ⟨hb.1 ▸ h2.1, by simp [State.isSending, ha, hb.1]⟩, fun f hf => ?_⟩
    rw [hb.2] at hf; rw [hb.1]; exact h2.2 f hf

theorem fits_linkGoesDown (s : State) (hs : s.Fits) (he : ∀ t : State, t.Fits → t.endCyclesLocally.Fits) : s.linkGoesDown.Fits :=
  he _ ⟨⟨Nat.zero_le _, Nat.zero_le _, Nat.zero_le _, fun _ h => by cases h⟩, hs.2⟩

@[simp] theorem fits_offerOnBus (s : State) l (hs : s.Fits) : (s.offerOnBus l).Fits := by
  unfold State.offerOnBus
  split
  · rename_i x q h1 h2
    split
    · refine ⟨⟨hs.1.1, hs.1.2.1, hs.1.2.2.1, fun a h => ?_⟩, hs.2⟩
      cases h
      refine ⟨?_, fun f h => by cases h⟩
      show x ∈ s.link.queue
      rw [h2]; exact List.mem_cons_self
    · exact hs
  · exact hs

/-- The frame of an attempt that has ended leaves the queue, and a frame of its own reserved kind may take its place. -/
theorem fits_swap {s t : State} (hs : s.Fits) {a : Sending} (ha : s.link.sending = some a) (hq : t.link.queue = s.link.queue.erase a.frame)
    (hn : t.link.sending = none) (hr : t.records = s.records) :
    t.Fits ∧ ∀ u f g, a.replacement = some f → frameKind g = frameKind f → (t.insertFrame u g).Fits := by
  have h1 : t.Fits := fits_of_link hs hr (by rw [hq]; exact List.erase_sublist) (.inl hn)
  refine ⟨h1, fun u f g hf hg => ?_⟩
  obtain ⟨hm, h2⟩ := hs.1.2.2.2 a ha
  obtain ⟨r1, r2⟩ := h2 f hf
  refine fits_insertReserved h1 _ _ ((isReserved_of_kind hg).trans r1) ?_
  have e := kindCount_erase hm (r2.symm.trans hg.symm)
  rw [hq]
  have b1 := hs.1.2.1
  have b2 := hs.1.2.2.1
  rcases kind_of_isReserved ((isReserved_of_kind hg).trans r1) with k | k <;> rw [k] at e ⊢ <;> omega

@[simp] theorem fits_attemptCarried (s : State) (hs : s.Fits) : s.attemptCarried.Fits := by
  unfold State.attemptCarried
  split
  · exact hs
  · rename_i a ha
    obtain ⟨h1, h2⟩ := fits_swap (t := s.modLink (fun l => { l with queue := l.queue.erase a.frame, sending := none, failures := 0 })) hs ha rfl rfl rfl
    dsimp only
    split
    · rename_i f hf
      exact h2 _ f f hf rfl
    · exact h1

@[simp] theorem fits_claimRemoved (s : State) f (hs : s.Fits) : (s.claimRemoved f).Fits := by
  unfold State.claimRemoved; split <;> exact hs

/-- A failed attempt is settled once it has ended: `s` is the state while it was in progress. -/
theorem fits_settleAttempt {s t : State} (hs : s.Fits) {a : Sending} (ha : s.link.sending = some a) (hq : t.link.queue = s.link.queue)
    (hn : t.link.sending = none) (hr : t.records = s.records) : (t.settleAttempt a).Fits := by
  obtain ⟨h1, h2⟩ := fits_swap (t := t.modLink (fun l => { l with queue := l.queue.erase a.frame })) hs ha
    (by rw [modLink_link, hq]) hn hr
  unfold State.settleAttempt
  split
  · exact fits_claimRemoved _ _ h1
  · split
    · rename_i f hf
      exact h2 _ f _ hf (frameKind_mergeJoin _ _)
    · exact fits_of_link hs hr (by simp only [hq, List.Sublist.refl]) (.inl hn)

@[simp] theorem fits_foldl {α : Type} {f : State → α → State} (h : ∀ t x, t.Fits → (f t x).Fits) (l : List α) (s : State) (hs : s.Fits) :
    (l.foldl f s).Fits :=
  foldl_keeps (P := State.Fits) h l s hs

@[simp] theorem fits_ite {c : Prop} [Decidable c] (s t : State) (hs : s.Fits) (ht : t.Fits) : (if c then s else t).Fits :=
  ite_keeps (P := State.Fits) hs ht

/-! The cycle records. -/

theorem fits_of_records {s t : State} (hs : s.Fits) (hl : t.link = s.link)
    (h : ∀ r ∈ t.records, ∃ r' ∈ s.records, r.members.map (·.outlet) = r'.members.map (·.outlet)) : t.Fits := by
  refine ⟨by unfold State.queueBounded; rw [hl]; exact hs.1, fun r hr => ?_⟩
  obtain ⟨r', h1, h2⟩ := h r hr
  rw [h2]; exact hs.2 r' h1

@[simp] theorem gatherOn_members (p : GroupOnPayload) (r : CycleRecord) : (r.gatherOn p).members = r.members := rfl

@[simp] theorem fits_modRecord (s : State) g f (hf : ∀ r : CycleRecord, (f r).members = r.members) (hs : s.Fits) : (s.modRecord g f).Fits := by
  refine fits_of_records hs rfl (fun r hr => ?_)
  obtain ⟨r', h1, rfl⟩ := List.mem_map.1 hr
  refine ⟨r', h1, ?_⟩
  split
  · rw [hf]
  · rfl

@[simp] theorem fits_setStatus (s : State) (g : Nat) (o : OutletId) (st : MemberStatus) (hs : s.Fits) : (State.setStatus s g o st).Fits := by
  refine fits_of_records hs rfl (fun r hr => ?_)
  obtain ⟨r', h1, rfl⟩ := List.mem_map.1 hr
  refine ⟨r', h1, ?_⟩
  split
  · rw [List.map_map]
    refine List.map_congr_left (fun m _ => ?_)
    dsimp only [Function.comp]
    split <;> rfl
  · rfl

theorem mem_insertRecord {r x : CycleRecord} {l : List CycleRecord} (h : x ∈ insertRecord r l) : x = r ∨ x ∈ l := by
  induction l with
  | nil => simpa [insertRecord] using h
  | cons y ys ih =>
    simp only [insertRecord] at h
    split at h
    · rcases List.mem_cons.1 h with e | e
      · exact .inl e
      · exact .inr (List.mem_cons_of_mem _ e)
    · split at h
      · rcases List.mem_cons.1 h with e | e
        · exact .inl e
        · exact .inr e
      · rcases List.mem_cons.1 h with e | e
        · exact .inr (e ▸ List.mem_cons_self)
        · rcases ih e with e | e
          · exact .inl e
          · exact .inr (List.mem_cons_of_mem _ e)

/-- The members of a new record are the group's outlets, in outlet order (R136, R137). -/
theorem newRecord_order (s : State) (p : OpenGroupPayload) : ((s.newRecord p).members.map (·.outlet)).Pairwise (· < ·) := by
  have : (s.newRecord p).members.map (·.outlet) = s.members p.group := by
    simp only [State.newRecord, List.map_map]
    exact (List.map_congr_left (fun _ _ => rfl)).trans (List.map_id _)
  rw [this]
  exact List.Pairwise.filter _ (by decide)

theorem fits_insertRecord {s : State} {r : CycleRecord} (hr : (r.members.map (·.outlet)).Pairwise (· < ·)) (hs : s.Fits) :
    State.Fits { s with records := insertRecord r s.records } :=
  ⟨hs.1, fun x hx => by
    rcases mem_insertRecord hx with rfl | h
    · exact hr
    · exact hs.2 x h⟩

/-! Operations that leave the link and the records alone. -/

@[simp] theorem fits_seeWindow (s : State) o n (hs : s.Fits) : (s.modPort (Port.seeWindow o n)).Fits := hs
@[simp] theorem fits_modMeter (s : State) o f (hs : s.Fits) : (s.modMeter o f).Fits := hs
@[simp] theorem fits_modLine (s : State) b f (hs : s.Fits) : (s.modLine b f).Fits := hs
@[simp] theorem fits_modWindow (s : State) b f (hs : s.Fits) : (s.modWindow b f).Fits := hs
@[simp] theorem fits_setQueue (s : State) b q (hs : s.Fits) : (s.setQueue b q).Fits := hs
@[simp] theorem fits_modClaim (s : State) b f (hs : s.Fits) : (s.modClaim b f).Fits := hs
@[simp] theorem fits_modPeer (s : State) k f (hs : s.Fits) : (s.modPeer k f).Fits := hs
@[simp] theorem fits_modOver (s : State) n f (hs : s.Fits) : (s.modOver n f).Fits := hs
@[simp] theorem fits_modGroup (s : State) g f (hs : s.Fits) : (s.modGroup g f).Fits := hs
@[simp] theorem fits_loadTimer (s : State) o ms (hs : s.Fits) : (s.loadTimer o ms).Fits := hs
@[simp] theorem fits_setUnaligned (s : State) o v (hs : s.Fits) : (s.setUnaligned o v).Fits := hs
@[simp] theorem fits_setTarget (s : State) o t (hs : s.Fits) : (s.setTarget o t).Fits := hs
@[simp] theorem fits_setRestore (s : State) o v (hs : s.Fits) : (s.setRestore o v).Fits := hs
@[simp] theorem fits_setCycle (s : State) o c (hs : s.Fits) : (s.setCycle o c).Fits := hs
@[simp] theorem fits_setPendingOff (s : State) o (hs : s.Fits) : (s.setPendingOff o).Fits := hs
@[simp] theorem fits_joinCycle (s : State) o (hs : s.Fits) : (s.joinCycle o).Fits := hs
@[simp] theorem fits_modOutlet (s : State) o f (hs : s.Fits) : (s.modOutlet o f).Fits := hs
@[simp] theorem fits_place (s : State) o st sub (hs : s.Fits) : (s.place o st sub).Fits := hs
@[simp] theorem fits_startAlign (s : State) o st (hs : s.Fits) : (s.startAlign o st).Fits := hs
@[simp] theorem fits_endLocal (s : State) o (hs : s.Fits) : (s.endLocal o).Fits := hs
@[simp] theorem fits_protect (s : State) set (hs : s.Fits) : (s.protect set).Fits := hs
@[simp] theorem fits_groups (s : State) l (hs : s.Fits) : State.Fits { s with groups := l } := hs
@[simp] theorem fits_conflicts (s : State) l (hs : s.Fits) : State.Fits { s with conflicts := l } := hs
@[simp] theorem fits_overload (s : State) l (hs : s.Fits) : State.Fits { s with overload := l } := hs
@[simp] theorem fits_restored (s : State) r v (hs : s.Fits) : State.Fits { s with restoreSet := r, startRestored := v } := hs
@[simp] theorem fits_seq (s : State) n (hs : s.Fits) : State.Fits { s with seq := n } := hs
@[simp] theorem fits_modPort (s : State) f (hs : s.Fits) : (s.modPort f).Fits := hs
@[simp] theorem fits_passTime (s : State) dt (hs : s.Fits) : (s.passTime dt).Fits := by
  unfold State.passTime
  split
  · exact hs
  · refine ⟨hs.1, fun r hr => ?_⟩
    obtain ⟨r', h1, rfl⟩ := List.mem_map.1 hr
    exact hs.2 r' h1
@[simp] theorem fits_post (s : State) k a b c (hs : s.Fits) : (s.post k a b c).Fits := by
  unfold State.post; (repeat' split) <;> exact hs

@[simp] theorem fits_recompose (s : State) (hs : s.Fits) : (State.recompose s).Fits := by
  unfold State.recompose
  (repeat' split) <;> simp (maxDischargeDepth := 30) [hs]
@[simp] theorem fits_joinQueue (s : State) (o : OutletId) (hs : s.Fits) : (State.joinQueue s o).Fits := by
  unfold State.joinQueue
  (repeat' split) <;> simp (maxDischargeDepth := 30) [hs]
@[simp] theorem fits_leaveQueue (s : State) (o : OutletId) (hs : s.Fits) : (State.leaveQueue s o).Fits := by
  unfold State.leaveQueue
  (repeat' split) <;> simp (maxDischargeDepth := 30) [hs]
@[simp] theorem fits_withdrawClaim (s : State) (b : Bank) (hs : s.Fits) : (State.withdrawClaim s b).Fits := by
  unfold State.withdrawClaim
  (repeat' split) <;> simp (maxDischargeDepth := 30) [hs]
@[simp] theorem fits_leaveClaiming (s : State) (o : OutletId) (hs : s.Fits) : (State.leaveClaiming s o).Fits := by
  unfold State.leaveClaiming
  (repeat' split) <;> simp (maxDischargeDepth := 30) [hs]
@[simp] theorem fits_markDropped (s : State) (o : OutletId) (hs : s.Fits) : (State.markDropped s o).Fits := by
  unfold State.markDropped
  (repeat' split) <;> simp (maxDischargeDepth := 30) [hs]
@[simp] theorem fits_dropClaim (s : State) (o : OutletId) (hs : s.Fits) : (State.dropClaim s o).Fits := by
  unfold State.dropClaim
  (repeat' split) <;> simp (maxDischargeDepth := 30) [hs]
@[simp] theorem fits_issueClaim (s : State) (b : Bank) (hs : s.Fits) : (State.issueClaim s b).Fits := by
  unfold State.issueClaim
  (repeat' split) <;> first | exact hs | (rename_i hh; exact fits_modClaim _ _ _ (fits_offer hh hs))
@[simp] theorem fits_issueClaims (s : State) (hs : s.Fits) : (State.issueClaims s).Fits := by
  unfold State.issueClaims
  (repeat' split) <;> simp (maxDischargeDepth := 30) [hs]
@[simp] theorem fits_clearRetry (s : State) (n : BranchId) (hs : s.Fits) : (State.clearRetry s n).Fits := hs
@[simp] theorem fits_fold_clearRetry {p : BranchId → Bool} {l : List _} {s : State} (hs : s.Fits) : (l.foldl (fun (t : State) (n : BranchId) => if t.uses n && p n then t.clearRetry n else t) s).Fits :=
  fits_foldl (fun t x h => by split <;> exact h) l s hs
@[simp] theorem fits_triggerRetries (s : State) (p : BranchId → Bool) (hs : s.Fits) : (State.triggerRetries s p).Fits := fits_fold_clearRetry hs
@[simp] theorem fits_setHeld (s : State) (k : StationId) (b : Bank) (amount : Nat) (hs : s.Fits) : (State.setHeld s k b amount).Fits := by
  unfold State.setHeld
  (repeat' split) <;> simp (maxDischargeDepth := 30) [hs]
@[simp] theorem fits_recordClaim (s : State) (source : StationId) (p : ClaimPayload) (hs : s.Fits) : (State.recordClaim s source p).Fits := by
  unfold State.recordClaim
  (repeat' split) <;> simp (maxDischargeDepth := 30) [hs]
@[simp] theorem fits_absorbWindow (s : State) (b : Bank) (clean : OutletId → Bool) (hs : s.Fits) : (State.absorbWindow s b clean).Fits := by
  unfold State.absorbWindow
  (repeat' split) <;> simp (maxDischargeDepth := 30) [hs]
@[simp] theorem fits_endClaims (s : State) (p : Banked StatusBank) (hs : s.Fits) : (State.endClaims s p).Fits := hs
@[simp] theorem fits_withdrawAllSent (s : State) (hs : s.Fits) : (State.withdrawAllSent s).Fits := hs
@[simp] theorem fits_meetTarget (s : State) (o : OutletId) (hs : s.Fits) : (State.meetTarget s o).Fits := by
  unfold State.meetTarget
  (repeat' split) <;> simp (maxDischargeDepth := 30) [hs]
@[simp] theorem fits_enterOff (s : State) (o : OutletId) (hs : s.Fits) : (State.enterOff s o).Fits := by
  unfold State.enterOff
  (repeat' split) <;> simp (maxDischargeDepth := 30) [hs]
@[simp] theorem fits_enterClaiming (s : State) (o : OutletId) (hs : s.Fits) : (State.enterClaiming s o).Fits := by
  unfold State.enterClaiming
  (repeat' split) <;> simp (maxDischargeDepth := 30) [hs]
@[simp] theorem fits_startCoil (s : State) (o : OutletId) (hs : s.Fits) : (State.startCoil s o).Fits := by
  unfold State.startCoil
  (repeat' split) <;> simp (maxDischargeDepth := 30) [hs]
@[simp] theorem fits_startClosingSettle (s : State) (o : OutletId) (hs : s.Fits) : (State.startClosingSettle s o).Fits := by
  unfold State.startClosingSettle
  (repeat' split) <;> simp (maxDischargeDepth := 30) [hs]
@[simp] theorem fits_startOpeningSettle (s : State) (o : OutletId) (hs : s.Fits) : (State.startOpeningSettle s o).Fits := by
  unfold State.startOpeningSettle
  (repeat' split) <;> simp (maxDischargeDepth := 30) [hs]
@[simp] theorem fits_enterClosing (s : State) (o : OutletId) (hs : s.Fits) : (State.enterClosing s o).Fits := by
  unfold State.enterClosing
  (repeat' split) <;> simp (maxDischargeDepth := 30) [hs]
@[simp] theorem fits_enterOpening (s : State) (o : OutletId) (hs : s.Fits) : (State.enterOpening s o).Fits := by
  unfold State.enterOpening
  (repeat' split) <;> simp (maxDischargeDepth := 30) [hs]
@[simp] theorem fits_endPendingOff (s : State) (o : OutletId) (hs : s.Fits) : (State.endPendingOff s o).Fits := by
  unfold State.endPendingOff
  (repeat' split) <;> simp (maxDischargeDepth := 30) [hs]
@[simp] theorem fits_alignClosing (s : State) (o : OutletId) (unaligned : Bool) (hs : s.Fits) : (State.alignClosing s o unaligned).Fits := by
  unfold State.alignClosing
  (repeat' split) <;> simp (maxDischargeDepth := 30) [hs]
@[simp] theorem fits_alignOpening (s : State) (o : OutletId) (unaligned : Bool) (hs : s.Fits) : (State.alignOpening s o unaligned).Fits := by
  unfold State.alignOpening
  (repeat' split) <;> simp (maxDischargeDepth := 30) [hs]
@[simp] theorem fits_releaseMembers (s : State) (ms : List Member) (hs : s.Fits) : (State.releaseMembers s ms).Fits := by
  unfold State.releaseMembers
  exact fits_foldl (f := fun t (m : Member) => t.modOutlet m.outlet Outlet.releaseMember) (fun _ _ h => h) _ _ hs
@[simp] theorem fits_finishCycle (s : State) (g : Nat) (out : CycleOutcome) (hs : s.Fits) : (State.finishCycle s g out).Fits := by
  unfold State.finishCycle
  (repeat' split) <;> simp (maxDischargeDepth := 30) [hs]
@[simp] theorem fits_restoreByAbort (s : State) (o : OutletId) (hs : s.Fits) : (State.restoreByAbort s o).Fits := by
  unfold State.restoreByAbort
  try dsimp only
  (repeat' split) <;> first | (simp (maxDischargeDepth := 30) [hs]; done) | (rename_i hh; exact fits_offer hh (by simp (maxDischargeDepth := 30) [hs])) | exact hs
@[simp] theorem fits_fold_restoreByAbort {l : List _} {s : State} (hs : s.Fits) : (l.foldl State.restoreByAbort s).Fits :=
  fits_foldl (fun t x h => by simp (maxDischargeDepth := 30) [h]) l s hs
@[simp] theorem fits_checkAbortDone (s : State) (g : Nat) (hs : s.Fits) : (State.checkAbortDone s g).Fits := by
  unfold State.checkAbortDone
  (repeat' split) <;> simp (maxDischargeDepth := 30) [hs]
@[simp] theorem fits_abortCycle (s : State) (g : Nat) (reason : EndReason) (hs : s.Fits) : (State.abortCycle s g reason).Fits := by
  unfold State.abortCycle
  (repeat' split) <;> simp (maxDischargeDepth := 30) [hs]
@[simp] theorem fits_actAbort (s : State) (g : Nat) (reason : EndReason) (hs : s.Fits) : (State.actAbort s g reason).Fits := by
  unfold State.actAbort
  (repeat' split) <;> simp (maxDischargeDepth := 30) [hs]
@[simp] theorem fits_fold_actAbort {l : List _} {s : State} (hs : s.Fits) : (l.foldl (fun (t : State) (g : Nat) => t.actAbort g .link) s).Fits :=
  fits_foldl (fun t x h => by simp (maxDischargeDepth := 30) [h]) l s hs
@[simp] theorem fits_abortNotQueued (s : State) (r : CycleRecord) (hs : s.Fits) : (State.abortNotQueued s r).Fits := by
  unfold State.abortNotQueued
  (repeat' split) <;> simp (maxDischargeDepth := 30) [hs]

theorem fits_queueAbort {s t : State} {r : CycleRecord} {a : AbortReason} (h : s.queueAbort r a = some t) (hs : s.Fits) : t.Fits := by
  unfold State.queueAbort at h
  dsimp only at h
  split at h
  · cases h; simp [hs]
  · exact fits_offer h (by simp [hs])

@[simp] theorem fits_offerAbort (s : State) (g : Nat) (reason : AbortReason) (hs : s.Fits) : (State.offerAbort s g reason).Fits := by
  unfold State.offerAbort
  try dsimp only
  (repeat' split) <;> first | (simp (maxDischargeDepth := 30) [hs]; done) | (rename_i hh; exact fits_queueAbort hh (by simp (maxDischargeDepth := 30) [hs])) | exact hs
@[simp] theorem fits_maybeGroupOff (s : State) (g : Nat) (hs : s.Fits) : (State.maybeGroupOff s g).Fits := by
  unfold State.maybeGroupOff
  try dsimp only
  (repeat' split) <;> first | (simp (maxDischargeDepth := 30) [hs]; done) | (rename_i hh; exact fits_offer hh (by simp (maxDischargeDepth := 30) [hs])) | exact hs
@[simp] theorem fits_maybeGroupOn (s : State) (g : Nat) (hs : s.Fits) : (State.maybeGroupOn s g).Fits := by
  unfold State.maybeGroupOn
  try dsimp only
  (repeat' split) <;> first | (simp (maxDischargeDepth := 30) [hs]; done) | (rename_i hh; exact fits_offer hh (by simp (maxDischargeDepth := 30) [hs])) | exact hs
@[simp] theorem fits_noteOpened (s : State) (o : OutletId) (hs : s.Fits) : (State.noteOpened s o).Fits := by
  unfold State.noteOpened
  (repeat' split) <;> simp (maxDischargeDepth := 30) [hs]
@[simp] theorem fits_noteRestored (s : State) (o : OutletId) (hs : s.Fits) : (State.noteRestored s o).Fits := by
  unfold State.noteRestored
  (repeat' split) <;> simp (maxDischargeDepth := 30) [hs]
@[simp] theorem fits_noteFailed (s : State) (o : OutletId) (hs : s.Fits) : (State.noteFailed s o).Fits := by
  unfold State.noteFailed
  (repeat' split) <;> simp (maxDischargeDepth := 30) [hs]
@[simp] theorem fits_noteTripped (s : State) (o : OutletId) (hs : s.Fits) : (State.noteTripped s o).Fits := by
  unfold State.noteTripped
  (repeat' split) <;> simp (maxDischargeDepth := 30) [hs]
@[simp] theorem fits_withdrawMember (s : State) (g : Nat) (o : OutletId) (hs : s.Fits) : (State.withdrawMember s g o).Fits := by
  unfold State.withdrawMember
  (repeat' split) <;> simp (maxDischargeDepth := 30) [hs]
@[simp] theorem fits_noteClaiming (s : State) (o : OutletId) (hs : s.Fits) : (State.noteClaiming s o).Fits := by
  unfold State.noteClaiming
  (repeat' split) <;> simp (maxDischargeDepth := 30) [hs]
@[simp] theorem fits_startDwell (s : State) (g : Nat) (hs : s.Fits) : (State.startDwell s g).Fits := by
  unfold State.startDwell
  (repeat' split) <;> simp (maxDischargeDepth := 30) [hs]
@[simp] theorem fits_removeAwaited (s : State) (g : Nat) (k : StationId) (hs : s.Fits) : (State.removeAwaited s g k).Fits := by
  unfold State.removeAwaited
  (repeat' split) <;> simp (maxDischargeDepth := 30) [hs]
@[simp] theorem fits_fold_removeAwaited {k : StationId} {l : List _} {s : State} (hs : s.Fits) : (l.foldl (fun (t : State) (g : Nat) => t.removeAwaited g k) s).Fits :=
  fits_foldl (fun t x h => by simp (maxDischargeDepth := 30) [h]) l s hs
@[simp] theorem fits_restoreByDwell (g : Nat) (s : State) (o : OutletId) (hs : s.Fits) : (State.restoreByDwell g s o).Fits := by
  unfold State.restoreByDwell
  (repeat' split) <;> simp (maxDischargeDepth := 30) [hs]
@[simp] theorem fits_fold_restoreByDwell {g : Nat} {l : List _} {s : State} (hs : s.Fits) : (l.foldl (State.restoreByDwell g) s).Fits :=
  fits_foldl (fun t x h => by simp (maxDischargeDepth := 30) [h]) l s hs
@[simp] theorem fits_endDwell (s : State) (g : Nat) (hs : s.Fits) : (State.endDwell s g).Fits := by
  unfold State.endDwell
  (repeat' split) <;> simp (maxDischargeDepth := 30) [hs]
@[simp] theorem fits_openMember (s : State) (o : OutletId) (hs : s.Fits) : (State.openMember s o).Fits := by
  unfold State.openMember
  try dsimp only
  (repeat' split) <;> first | (simp (maxDischargeDepth := 30) [hs]; done) | (rename_i hh; exact fits_offer hh (by simp (maxDischargeDepth := 30) [hs])) | exact hs
@[simp] theorem fits_fold_openMember {l : List _} {s : State} (hs : s.Fits) : (l.foldl State.openMember s).Fits :=
  fits_foldl (fun t x h => by simp (maxDischargeDepth := 30) [h]) l s hs
@[simp] theorem fits_endCyclesLocally (s : State) (hs : s.Fits) : (State.endCyclesLocally s).Fits := by
  unfold State.endCyclesLocally
  try dsimp only
  (repeat' split) <;> first | (simp (maxDischargeDepth := 30) [hs]; done) | (rename_i hh; exact fits_offer hh (by simp (maxDischargeDepth := 30) [hs])) | exact hs
@[simp] theorem fits_placeTripped (s : State) (o : OutletId) (hs : s.Fits) : (State.placeTripped s o).Fits := by
  unfold State.placeTripped
  (repeat' split) <;> simp (maxDischargeDepth := 30) [hs]
@[simp] theorem fits_disturb (s : State) (o : OutletId) (hs : s.Fits) : (State.disturb s o).Fits := by
  unfold State.disturb
  (repeat' split) <;> simp (maxDischargeDepth := 30) [hs]
@[simp] theorem fits_fold_disturb {l : List _} {s : State} (hs : s.Fits) : (l.foldl State.disturb s).Fits :=
  fits_foldl (fun t x h => by simp (maxDischargeDepth := 30) [h]) l s hs
@[simp] theorem fits_trip (s : State) (o : OutletId) (reason : TripReason) (value : Nat) (hs : s.Fits) : (State.trip s o reason value).Fits := by
  unfold State.trip
  (repeat' split) <;> simp (maxDischargeDepth := 30) [hs]
@[simp] theorem fits_endClosing (s : State) (o : OutletId) (hs : s.Fits) : (State.endClosing s o).Fits := by
  unfold State.endClosing
  (repeat' split) <;> simp (maxDischargeDepth := 30) [hs]
@[simp] theorem fits_failClosing (s : State) (o : OutletId) (hs : s.Fits) : (State.failClosing s o).Fits := by
  unfold State.failClosing
  (repeat' split) <;> simp (maxDischargeDepth := 30) [hs]
@[simp] theorem fits_closingAlignEnds (s : State) (o : OutletId) (hs : s.Fits) : (State.closingAlignEnds s o).Fits := by
  unfold State.closingAlignEnds
  (repeat' split) <;> simp (maxDischargeDepth := 30) [hs]
@[simp] theorem fits_loadDwell (s : State) (o : OutletId) (hs : s.Fits) : (State.loadDwell s o).Fits := by
  unfold State.loadDwell
  (repeat' split) <;> simp (maxDischargeDepth := 30) [hs]
@[simp] theorem fits_endOpening (s : State) (o : OutletId) (hs : s.Fits) : (State.endOpening s o).Fits := by
  unfold State.endOpening
  (repeat' split) <;> simp (maxDischargeDepth := 30) [hs]
@[simp] theorem fits_leaveDwell (s : State) (o : OutletId) (hs : s.Fits) : (State.leaveDwell s o).Fits := by
  unfold State.leaveDwell
  (repeat' split) <;> simp (maxDischargeDepth := 30) [hs]
@[simp] theorem fits_sagOutlet (b : Bank) (s : State) (o : OutletId) (hs : s.Fits) : (State.sagOutlet b s o).Fits := by
  unfold State.sagOutlet
  (repeat' split) <;> simp (maxDischargeDepth := 30) [hs]
@[simp] theorem fits_fold_sagOutlet {b : Bank} {l : List _} {s : State} (hs : s.Fits) : (l.foldl (State.sagOutlet b) s).Fits :=
  fits_foldl (fun t x h => by simp (maxDischargeDepth := 30) [h]) l s hs
@[simp] theorem fits_sagOutlets (s : State) (b : Bank) (hs : s.Fits) : (State.sagOutlets s b).Fits := by
  unfold State.sagOutlets
  (repeat' split) <;> simp (maxDischargeDepth := 30) [hs]
@[simp] theorem fits_disturbBank (s : State) (b : Bank) (hs : s.Fits) : (State.disturbBank s b).Fits := by
  unfold State.disturbBank
  (repeat' split) <;> simp (maxDischargeDepth := 30) [hs]
@[simp] theorem fits_enterSag (s : State) (b : Bank) (cause : SagCause) (hs : s.Fits) : (State.enterSag s b cause).Fits := by
  unfold State.enterSag
  (repeat' split) <;> simp (maxDischargeDepth := 30) [hs]
@[simp] theorem fits_reenterSag (s : State) (b : Bank) (hs : s.Fits) : (State.reenterSag s b).Fits := by
  unfold State.reenterSag
  (repeat' split) <;> simp (maxDischargeDepth := 30) [hs]
@[simp] theorem fits_sagCondition (s : State) (b : Bank) (cause : SagCause) (hs : s.Fits) : (State.sagCondition s b cause).Fits := by
  unfold State.sagCondition
  (repeat' split) <;> simp (maxDischargeDepth := 30) [hs]
@[simp] theorem fits_enterRecovering (s : State) (b : Bank) (hs : s.Fits) : (State.enterRecovering s b).Fits := by
  unfold State.enterRecovering
  (repeat' split) <;> simp (maxDischargeDepth := 30) [hs]
@[simp] theorem fits_restoreShed (s : State) (o : OutletId) (hs : s.Fits) : (State.restoreShed s o).Fits := by
  unfold State.restoreShed
  (repeat' split) <;> simp (maxDischargeDepth := 30) [hs]
@[simp] theorem fits_fold_restoreShed {l : List _} {s : State} (hs : s.Fits) : (l.foldl State.restoreShed s).Fits :=
  fits_foldl (fun t x h => by simp (maxDischargeDepth := 30) [h]) l s hs
@[simp] theorem fits_enterNormal (s : State) (b : Bank) (hs : s.Fits) : (State.enterNormal s b).Fits := by
  unfold State.enterNormal
  (repeat' split) <;> simp (maxDischargeDepth := 30) [hs]
@[simp] theorem fits_judgeHalf (s : State) (b : Bank) (volts : Nat) (onCrossings : Bool) (hs : s.Fits) : (State.judgeHalf s b volts onCrossings).Fits := by
  unfold State.judgeHalf
  try dsimp only
  (repeat' split) <;> first | (simp (maxDischargeDepth := 30) [hs]; done) | (rename_i hh; exact fits_offer hh (by simp (maxDischargeDepth := 30) [hs])) | exact hs
@[simp] theorem fits_watchOutlet (amps : List Nat) (s : State) (o : OutletId) (hs : s.Fits) : (State.watchOutlet amps s o).Fits := by
  unfold State.watchOutlet
  try dsimp only
  (repeat' split) <;> first | (simp (maxDischargeDepth := 30) [hs]; done) | (rename_i hh; exact fits_offer hh (by simp (maxDischargeDepth := 30) [hs])) | exact hs
@[simp] theorem fits_fold_watchOutlet {amps : List Nat} {l : List _} {s : State} (hs : s.Fits) : (l.foldl (State.watchOutlet amps) s).Fits :=
  fits_foldl (fun t x h => by simp (maxDischargeDepth := 30) [h]) l s hs
@[simp] theorem fits_watchBank (s : State) (b : Bank) (amps : List Nat) (hs : s.Fits) : (State.watchBank s b amps).Fits := by
  unfold State.watchBank
  (repeat' split) <;> simp (maxDischargeDepth := 30) [hs]
@[simp] theorem fits_closeHalf (s : State) (b : Bank) (h : HalfMeasure) (onCrossing : Bool) (start : Stamp) (hs : s.Fits) : (State.closeHalf s b h onCrossing start).Fits := by
  unfold State.closeHalf
  (repeat' split) <;> simp (maxDischargeDepth := 30) [hs]
@[simp] theorem fits_notePeak (s : State) (o : OutletId) (peak : Nat) (hs : s.Fits) : (State.notePeak s o peak).Fits := by
  unfold State.notePeak
  try dsimp only
  (repeat' split) <;> first | (simp (maxDischargeDepth := 30) [hs]; done) | (rename_i hh; exact fits_offer hh (by simp (maxDischargeDepth := 30) [hs])) | exact hs
@[simp] theorem fits_fold_notePeak {peaks : List Nat} {l : List _} {s : State} (hs : s.Fits) : (l.foldl (fun (t : State) (o : OutletId) => t.notePeak o (measured peaks o)) s).Fits :=
  fits_foldl (fun t x h => by simp (maxDischargeDepth := 30) [h]) l s hs
@[simp] theorem fits_notePeaks (s : State) (b : Bank) (peaks : List Nat) (hs : s.Fits) : (State.notePeaks s b peaks).Fits := by
  unfold State.notePeaks
  (repeat' split) <;> simp (maxDischargeDepth := 30) [hs]
@[simp] theorem fits_crossOutlet (s : State) (o : OutletId) (hs : s.Fits) : (State.crossOutlet s o).Fits := by
  unfold State.crossOutlet
  (repeat' split) <;> simp (maxDischargeDepth := 30) [hs]
@[simp] theorem fits_fold_crossOutlet {l : List _} {s : State} (hs : s.Fits) : (l.foldl State.crossOutlet s).Fits :=
  fits_foldl (fun t x h => by simp (maxDischargeDepth := 30) [h]) l s hs
@[simp] theorem fits_crossOutlets (s : State) (b : Bank) (hs : s.Fits) : (State.crossOutlets s b).Fits := by
  unfold State.crossOutlets
  (repeat' split) <;> simp (maxDischargeDepth := 30) [hs]
@[simp] theorem fits_endOutletWindow (noLine : Bool) (volts ms : Nat) (w : WindowMeasure) (s : State) (o : OutletId) (hs : s.Fits) : (State.endOutletWindow noLine volts ms w s o).Fits := by
  unfold State.endOutletWindow
  try dsimp only
  (repeat' split) <;> first | (simp (maxDischargeDepth := 30) [hs]; done) | (rename_i hh; exact fits_offer hh (by simp (maxDischargeDepth := 30) [hs])) | exact hs
@[simp] theorem fits_fold_endOutletWindow {n : Bool} {v ms : Nat} {w : WindowMeasure} {l : List _} {s : State} (hs : s.Fits) : (l.foldl (State.endOutletWindow n v ms w) s).Fits :=
  fits_foldl (fun t x h => by simp (maxDischargeDepth := 30) [h]) l s hs
@[simp] theorem fits_openOutletWindow (b : Bank) (s : State) (o : OutletId) (hs : s.Fits) : (State.openOutletWindow b s o).Fits := by
  unfold State.openOutletWindow
  (repeat' split) <;> simp (maxDischargeDepth := 30) [hs]
@[simp] theorem fits_fold_openOutletWindow {b : Bank} {l : List _} {s : State} (hs : s.Fits) : (l.foldl (State.openOutletWindow b) s).Fits :=
  fits_foldl (fun t x h => by simp (maxDischargeDepth := 30) [h]) l s hs
@[simp] theorem fits_endWindow (s : State) (b : Bank) (m : WindowMeasure) (closing : Option Stamp) (hs : s.Fits) : (State.endWindow s b m closing).Fits := by
  unfold State.endWindow
  (repeat' split) <;> simp (maxDischargeDepth := 30) [hs]
@[simp] theorem fits_countRise (s : State) (b : Bank) (m : WindowMeasure) (now : Stamp) (hs : s.Fits) : (State.countRise s b m now).Fits := by
  unfold State.countRise
  (repeat' split) <;> simp (maxDischargeDepth := 30) [hs]
@[simp] theorem fits_takeVoltageCrossing (s : State) (b : Bank) (edge : Edge) (now : Stamp) (h : HalfMeasure) (m : WindowMeasure) (hs : s.Fits) : (State.takeVoltageCrossing s b edge now h m).Fits := by
  unfold State.takeVoltageCrossing
  (repeat' split) <;> simp (maxDischargeDepth := 30) [hs]
@[simp] theorem fits_takeCurrentCrossing (s : State) (o : OutletId) (now : Stamp) (hs : s.Fits) : (State.takeCurrentCrossing s o now).Fits := by
  unfold State.takeCurrentCrossing
  try dsimp only
  (repeat' split) <;> first | (simp (maxDischargeDepth := 30) [hs]; done) | (rename_i hh; exact fits_offer hh (by simp (maxDischargeDepth := 30) [hs])) | exact hs
@[simp] theorem fits_enterLinkDown (s : State) (k : FrameKind) (hs : s.Fits) : (State.enterLinkDown s k).Fits := by
  unfold State.enterLinkDown
  exact fits_post _ _ _ _ _ (fits_linkGoesDown _ hs (fun t h => fits_endCyclesLocally t h))
@[simp] theorem fits_enterIsolated (s : State) (k : FrameKind) (serial : Nat) (hs : s.Fits) : (State.enterIsolated s k serial).Fits := by
  unfold State.enterIsolated
  exact fits_post _ _ _ _ _ (fits_linkGoesDown _ hs (fun t h => fits_endCyclesLocally t h))
@[simp] theorem fits_attemptFails (s : State) (mismatch : Bool) (hs : s.Fits) : (State.attemptFails s mismatch).Fits := by
  unfold State.attemptFails
  split
  · exact hs
  · rename_i a ha
    have h1 := fits_settleAttempt (t := s.modLink (fun l => { l with sending := none, failures := l.failures + 1, rejectDriven := mismatch }))
      hs ha rfl rfl rfl
    dsimp only
    split
    · exact fits_enterLinkDown _ _ h1
    · exact h1
@[simp] theorem fits_frameInError (s : State) (hs : s.Fits) : (State.frameInError s).Fits := by
  unfold State.frameInError
  split <;> exact hs
@[simp] theorem fits_frameFails (s : State) (r : Reception) (hs : s.Fits) : (State.frameFails s r).Fits := by
  have h1 : (s.modLink (fun l => { l with rejectDriven := false })).Fits := hs
  unfold State.frameFails
  (repeat' split) <;> first | exact hs | exact fits_offerJoin _ _ h1
@[simp] theorem fits_enterJoining (s : State) (hs : s.Fits) : (State.enterJoining s).Fits := fits_offerJoin _ _ hs
@[simp] theorem fits_startRestore (s : State) (hs : s.Fits) : (State.startRestore s).Fits := by
  unfold State.startRestore
  try dsimp only
  (repeat' split) <;> first | (simp (maxDischargeDepth := 30) [hs]; done) | (rename_i hh; exact fits_offer hh (by simp (maxDischargeDepth := 30) [hs])) | exact hs
@[simp] theorem fits_enterActive (s : State) (hs : s.Fits) : (State.enterActive s).Fits := fits_startRestore _ (fits_post _ _ _ _ _ hs)
@[simp] theorem fits_reportOverload (s : State) (n : BranchId) (detail : Nat) (hs : s.Fits) : (State.reportOverload s n detail).Fits := by
  unfold State.reportOverload
  (repeat' split) <;> simp (maxDischargeDepth := 30) [hs]
@[simp] theorem fits_shedOn (s : State) (n : BranchId) (hs : s.Fits) : (State.shedOn s n).Fits := by
  unfold State.shedOn
  (repeat' split) <;> simp (maxDischargeDepth := 30) [hs]
@[simp] theorem fits_designate (s : State) (n : BranchId) (hs : s.Fits) : (State.designate s n).Fits := by
  unfold State.designate
  (repeat' split) <;> simp (maxDischargeDepth := 30) [hs]
@[simp] theorem fits_evaluate (s : State) (n : BranchId) (hs : s.Fits) : (State.evaluate s n).Fits := by
  unfold State.evaluate
  (repeat' split) <;> simp (maxDischargeDepth := 30) [hs]
@[simp] theorem fits_overloadStep (source : StationId) (s : State) (n : BranchId) (hs : s.Fits) : (State.overloadStep source s n).Fits := by
  unfold State.overloadStep
  (repeat' split) <;> simp (maxDischargeDepth := 30) [hs]
@[simp] theorem fits_fold_overloadStep {k : StationId} {l : List _} {s : State} (hs : s.Fits) : (l.foldl (State.overloadStep k) s).Fits :=
  fits_foldl (fun t x h => by simp (maxDischargeDepth := 30) [h]) l s hs
@[simp] theorem fits_overloadAfter (s : State) (source : StationId) (hs : s.Fits) : (State.overloadAfter s source).Fits := by
  unfold State.overloadAfter
  (repeat' split) <;> simp (maxDischargeDepth := 30) [hs]
@[simp] theorem fits_endHolds (s : State) (k : StationId) (hs : s.Fits) : (State.endHolds s k).Fits := hs
@[simp] theorem fits_heard (s : State) (k : StationId) (hs : s.Fits) : (State.heard s k).Fits := by
  unfold State.heard
  (repeat' split) <;> simp (maxDischargeDepth := 30) [hs]
@[simp] theorem fits_heardFrom (s : State) (k : StationId) (hs : s.Fits) : (State.heardFrom s k).Fits := by
  unfold State.heardFrom
  (repeat' split) <;> simp (maxDischargeDepth := 30) [hs]
@[simp] theorem fits_rebuildRosters (s : State) (hs : s.Fits) : (State.rebuildRosters s).Fits := hs
@[simp] theorem fits_setConflict (source : StationId) (s : State) (n : BranchId) (hs : s.Fits) : (State.setConflict source s n).Fits := by
  unfold State.setConflict
  try dsimp only
  (repeat' split) <;> first | (simp (maxDischargeDepth := 30) [hs]; done) | (rename_i hh; exact fits_offer hh (by simp (maxDischargeDepth := 30) [hs])) | exact hs
@[simp] theorem fits_fold_setConflict {k : StationId} {l : List _} {s : State} (hs : s.Fits) : (l.foldl (State.setConflict k) s).Fits :=
  fits_foldl (fun t x h => by simp (maxDischargeDepth := 30) [h]) l s hs
@[simp] theorem fits_checkConflicts (s : State) (source : StationId) (p : JoinPayload) (hs : s.Fits) : (State.checkConflicts s source p).Fits := by
  unfold State.checkConflicts
  (repeat' split) <;> simp (maxDischargeDepth := 30) [hs]
@[simp] theorem fits_clearConflict (named : StationId) (s : State) (n : BranchId) (hs : s.Fits) : (State.clearConflict named s n).Fits := by
  unfold State.clearConflict
  try dsimp only
  (repeat' split) <;> first | (simp (maxDischargeDepth := 30) [hs]; done) | (rename_i hh; exact fits_offer hh (by simp (maxDischargeDepth := 30) [hs])) | exact hs
@[simp] theorem fits_fold_clearConflict {k : StationId} {l : List _} {s : State} (hs : s.Fits) : (l.foldl (State.clearConflict k) s).Fits :=
  fits_foldl (fun t x h => by simp (maxDischargeDepth := 30) [h]) l s hs
@[simp] theorem fits_recheckConflicts (s : State) (named : StationId) (hs : s.Fits) : (State.recheckConflicts s named).Fits := by
  unfold State.recheckConflicts
  (repeat' split) <;> simp (maxDischargeDepth := 30) [hs]
@[simp] theorem fits_reportDuplicate (s : State) (source : StationId) (p : JoinPayload) (hs : s.Fits) : (State.reportDuplicate s source p).Fits := by
  unfold State.reportDuplicate
  (repeat' split) <;> simp (maxDischargeDepth := 30) [hs]
@[simp] theorem fits_reportJoined (s : State) (before : Peer) (source : StationId) (p : JoinPayload) (hs : s.Fits) : (State.reportJoined s before source p).Fits := by
  unfold State.reportJoined
  (repeat' split) <;> simp (maxDischargeDepth := 30) [hs]
@[simp] theorem fits_replyJoin (s : State) (source : StationId) (p : JoinPayload) (hs : s.Fits) : (State.replyJoin s source p).Fits := by
  unfold State.replyJoin
  (repeat' split) <;> simp (maxDischargeDepth := 30) [hs]
@[simp] theorem fits_tableJoin (s : State) (source : StationId) (p : JoinPayload) (hs : s.Fits) : (State.tableJoin s source p).Fits := by
  unfold State.tableJoin
  (repeat' split) <;> simp (maxDischargeDepth := 30) [hs]
@[simp] theorem fits_budgetJoin (before : State) (source : StationId) (s : State) (hs : s.Fits) : (State.budgetJoin before source s).Fits := by
  unfold State.budgetJoin
  (repeat' split) <;> simp (maxDischargeDepth := 30) [hs]
@[simp] theorem fits_groupJoin (before : State) (source : StationId) (p : JoinPayload) (s : State) (g : Nat) (hs : s.Fits) : (State.groupJoin before source p s g).Fits := by
  unfold State.groupJoin
  (repeat' split) <;> simp (maxDischargeDepth := 30) [hs]
@[simp] theorem fits_fold_groupJoin {b : State} {k : StationId} {p : JoinPayload} {l : List _} {s : State} (hs : s.Fits) : (l.foldl (State.groupJoin b k p) s).Fits :=
  fits_foldl (fun t x h => by simp (maxDischargeDepth := 30) [h]) l s hs
@[simp] theorem fits_applyJoin (s : State) (source : StationId) (p : JoinPayload) (hs : s.Fits) : (State.applyJoin s source p).Fits := by
  unfold State.applyJoin
  (repeat' split) <;> simp (maxDischargeDepth := 30) [hs]
@[simp] theorem fits_reportForgotten (s : State) (k : StationId) (former : EntryState) (hs : s.Fits) : (State.reportForgotten s k former).Fits := by
  unfold State.reportForgotten
  (repeat' split) <;> simp (maxDischargeDepth := 30) [hs]
@[simp] theorem fits_tableForget (s : State) (k : StationId) (hs : s.Fits) : (State.tableForget s k).Fits := by
  unfold State.tableForget
  (repeat' split) <;> simp (maxDischargeDepth := 30) [hs]
@[simp] theorem fits_applyForget (s : State) (source k : StationId) (hs : s.Fits) : (State.applyForget s source k).Fits := by
  unfold State.applyForget
  (repeat' split) <;> simp (maxDischargeDepth := 30) [hs]
@[simp] theorem fits_applyStatus (s : State) (source : StationId) (p : Banked StatusBank) (hs : s.Fits) : (State.applyStatus s source p).Fits := by
  unfold State.applyStatus
  (repeat' split) <;> simp (maxDischargeDepth := 30) [hs]
@[simp] theorem fits_groupLost (k : StationId) (s : State) (g : Nat) (hs : s.Fits) : (State.groupLost k s g).Fits := by
  unfold State.groupLost
  (repeat' split) <;> simp (maxDischargeDepth := 30) [hs]
@[simp] theorem fits_fold_groupLost {k : StationId} {l : List _} {s : State} (hs : s.Fits) : (l.foldl (State.groupLost k) s).Fits :=
  fits_foldl (fun t x h => by simp (maxDischargeDepth := 30) [h]) l s hs
@[simp] theorem fits_losePeer (k : StationId) (s : State) (hs : s.Fits) : (State.losePeer k s).Fits := by
  unfold State.losePeer
  (repeat' split) <;> simp (maxDischargeDepth := 30) [hs]
@[simp] theorem fits_takeOwn (s : State) (source : StationId) (f : PeerFrame) (hs : s.Fits) : (State.takeOwn s source f).Fits := by
  unfold State.takeOwn
  (repeat' split) <;> simp (maxDischargeDepth := 30) [hs]
@[simp] theorem fits_takeGrant (s : State) (b : Bank) (o : OutletId) (hs : s.Fits) : (State.takeGrant s b o).Fits := by
  unfold State.takeGrant
  (repeat' split) <;> simp (maxDischargeDepth := 30) [hs]
@[simp] theorem fits_dropGrant (s : State) (b : Bank) (hs : s.Fits) : (State.dropGrant s b).Fits := by
  unfold State.dropGrant
  (repeat' split) <;> simp (maxDischargeDepth := 30) [hs]
@[simp] theorem fits_actOnVerdict (s : State) (p : ClaimPayload) (granted : Bool) (hs : s.Fits) : (State.actOnVerdict s p granted).Fits := by
  unfold State.actOnVerdict
  (repeat' split) <;> simp (maxDischargeDepth := 30) [hs]
@[simp] theorem fits_applyClaim (s : State) (source : StationId) (p : ClaimPayload) (hs : s.Fits) : (State.applyClaim s source p).Fits := by
  unfold State.applyClaim
  (repeat' split) <;> simp (maxDischargeDepth := 30) [hs]
@[simp] theorem fits_clearPending (s : State) (source : StationId) (p : OpenGroupPayload) (hs : s.Fits) : (State.clearPending s source p).Fits := by
  unfold State.clearPending
  (repeat' split) <;> simp (maxDischargeDepth := 30) [hs]
@[simp] theorem fits_reportMerged (s : State) (source : StationId) (g : Nat) (r : CycleRecord) (hs : s.Fits) : (State.reportMerged s source g r).Fits := by
  unfold State.reportMerged
  (repeat' split) <;> simp (maxDischargeDepth := 30) [hs]
@[simp] theorem fits_reportRequested (s : State) (source : StationId) (p : OpenGroupPayload) (hs : s.Fits) : (State.reportRequested s source p).Fits := by
  unfold State.reportRequested
  (repeat' split) <;> simp (maxDischargeDepth := 30) [hs]

theorem fits_abortAtOpen (s : State) (r : CycleRecord) (hs : s.Fits) : (s.abortAtOpen r).1.Fits := by
  unfold State.abortAtOpen
  split
  · split
    · rename_i hh; exact fits_queueAbort hh hs
    · simp [hs]
  · exact hs

@[simp] theorem fits_openCycle (s : State) (source : StationId) (p : OpenGroupPayload) (hs : s.Fits) : (State.openCycle s source p).Fits := by
  have h1 := fits_insertRecord (newRecord_order s p) hs
  unfold State.openCycle
  simp (maxDischargeDepth := 30) [fits_abortAtOpen, h1]
@[simp] theorem fits_applyOpenGroup (s : State) (source : StationId) (p : OpenGroupPayload) (hs : s.Fits) : (State.applyOpenGroup s source p).Fits := by
  unfold State.applyOpenGroup
  try dsimp only
  (repeat' split) <;> first | (simp (maxDischargeDepth := 30) [hs]; done) | (rename_i hh; exact fits_offer hh (by simp (maxDischargeDepth := 30) [hs])) | exact hs
@[simp] theorem fits_applyGroupOff (s : State) (source : StationId) (p : GroupOffPayload) (hs : s.Fits) : (State.applyGroupOff s source p).Fits := by
  unfold State.applyGroupOff
  try dsimp only
  (repeat' split) <;> first | (simp (maxDischargeDepth := 30) [hs]; done) | (rename_i hh; exact fits_offer hh (by simp (maxDischargeDepth := 30) [hs])) | exact hs
@[simp] theorem fits_applyGroupOn (s : State) (source : StationId) (p : GroupOnPayload) (hs : s.Fits) : (State.applyGroupOn s source p).Fits := by
  unfold State.applyGroupOn
  try dsimp only
  (repeat' split) <;> first
    | (simp (maxDischargeDepth := 30) [hs]; done)
    | exact fits_removeAwaited _ _ _ (fits_modRecord _ _ _ (gatherOn_members p) (fits_heardFrom s source hs))
@[simp] theorem fits_applyGroupAbort (s : State) (source : StationId) (p : GroupAbortPayload) (hs : s.Fits) : (State.applyGroupAbort s source p).Fits := by
  unfold State.applyGroupAbort
  try dsimp only
  (repeat' split) <;> first | (simp (maxDischargeDepth := 30) [hs]; done) | (rename_i hh; exact fits_offer hh (by simp (maxDischargeDepth := 30) [hs])) | exact hs

@[simp] theorem fits_leaveSlot (s : State) (hs : s.Fits) : s.leaveSlot.Fits := hs

theorem fits_receive (s : State) (k : StationId) (f : PeerFrame) (act : State → State) (h : ∀ t, t.Fits → (act t).Fits) (hs : s.Fits) :
    (s.receive k f act).Fits := by
  unfold State.receive
  (repeat' split) <;> first
    | exact hs
    | exact fits_frameInError _ hs
    | exact fits_enterIsolated _ _ _ (fits_leaveSlot s hs)
    | exact h _ (fits_leaveSlot s hs)
    | exact h _ (fits_leaveSlot _ (fits_takeOwn s k f hs))

theorem PortOnly.fits {s t : State} (h : PortOnly s t) (hs : s.Fits) : t.Fits := by rw [show t = { s with port := t.port } from h]; exact hs
@[simp] theorem fits_readEffect (s : State) (c : Capture) (hs : s.Fits) : (State.readEffect s c).Fits := by
  unfold State.readEffect
  (repeat' split) <;> simp (maxDischargeDepth := 30) [hs]
@[simp] theorem fits_endRead (s : State) (bits : Nat) (r : ReadRequest) (hs : s.Fits) : (State.endRead s bits r).Fits := by
  unfold State.endRead
  split
  · exact (portOnly_rejectFrame s).fits hs
  · split
    · exact (portOnly_finishRead _ _).fits (fits_readEffect s _ hs)
    · exact (portOnly_rejectFrame s).fits hs
@[simp] theorem fits_runRead (s : State) (bits : Nat) (r : ReadRequest) (hs : s.Fits) : (State.runRead s bits r).Fits := by
  unfold State.runRead State.onFrame
  split
  · exact (portOnly_closeFrame s).fits hs
  · split
    · exact fits_endRead _ _ _ ((portOnly_withCapture s r).fits hs)
    · exact ((portOnly_openFrame s).trans (portOnly_rejectFrame _)).fits hs
@[simp] theorem fits_takeInHand (s : State) (o : OutletId) (hs : s.Fits) : (State.takeInHand s o).Fits := hs
@[simp] theorem fits_originated (s : State) (e : GroupEntry) (tag : Tag) (hs : s.Fits) : (State.originated s e tag).Fits := hs
@[simp] theorem fits_clearTripped (s : State) (o : OutletId) (hs : s.Fits) : (State.clearTripped s o).Fits := by
  unfold State.clearTripped
  (repeat' split) <;> simp (maxDischargeDepth := 30) [hs]
@[simp] theorem fits_expireClaim (s : State) (o : OutletId) (hs : s.Fits) : (State.expireClaim s o).Fits := by
  unfold State.expireClaim
  (repeat' split) <;> simp (maxDischargeDepth := 30) [hs]
@[simp] theorem fits_scheduleStatus (s : State) (hs : s.Fits) : (State.scheduleStatus s).Fits := by
  unfold State.scheduleStatus
  (repeat' split) <;> simp (maxDischargeDepth := 30) [hs]
@[simp] theorem fits_endOffGather (s : State) (g : Nat) (hs : s.Fits) : (State.endOffGather s g).Fits := by
  unfold State.endOffGather
  (repeat' split) <;> simp (maxDischargeDepth := 30) [hs]

end Sys2Proof.Machine
end

