-- ==== Sys2Proof/Laws/Answers.lean ====
section
/-! SUPPORT. The shared steps of the statements' proofs: what commutes with the host port, argument bytes, sets of numbers, folds over a bank's outlets, rounding, time passing, retry triggers, and how a carried frame reaches its meaning. -/

namespace Sys2Proof.Machine
open Sys2Proof

theorem issueClaim_withPort (s : State) (p : Port) (b : Bank) :
    State.issueClaim { s with port := p } b = { s.issueClaim b with port := p } := by
  have hq : State.queue { s with port := p } b = s.queue b := rfl
  unfold State.issueClaim
  rw [hq]
  cases s.queue b with
  | nil => rfl
  | cons h t =>
    have h2 : State.mayIssue { s with port := p } b h = s.mayIssue b h := rfl
    simp only [h2]
    cases s.mayIssue b h with
    | false => rfl
    | true =>
      have h3 : ∀ u f, State.offer { s with port := p } u f = (s.offer u f).map (fun t => { t with port := p }) := by
        intro u f; unfold State.offer
        have : State.queueHasRoom { s with port := p } = s.queueHasRoom := rfl
        rw [this]; cases s.queueHasRoom <;> rfl
      have h4 : State.claim { s with port := p } b = s.claim b := rfl
      have h5 : State.bank { s with port := p } b = s.bank b := rfl
      have h6 : State.profile { s with port := p } h = s.profile h := rfl
      simp only [h3, h4, h5, h6, ite_true]
      cases s.offer (s.claim b).urgency (.claim ⟨b, (s.bank b).branch, h, (s.profile h).inrush⟩) <;> rfl

theorem issueClaims_withPort (s : State) (p : Port) : State.issueClaims { s with port := p } = { s.issueClaims with port := p } := by
  simp only [State.issueClaims, issueClaim_withPort]

theorem outletArg_of_number {n : Byte} {o : OutletId} (h : n.toNat = o.val + 1) : outletArg n = some o := by
  have hb : 1 ≤ o.val + 1 ∧ o.val + 1 ≤ 24 := ⟨Nat.succ_pos _, o.isLt⟩
  simp only [outletArg, outletOfNo, h, dif_pos hb]
  rfl

theorem joinQueue_of_same (s t : State) (o : OutletId) (hq : t.queues = s.queues) (ho : ∀ p, (t.outlet p).cfg = (s.outlet p).cfg) :
    t.joinQueue o = { t with queues := (s.joinQueue o).queues } := by
  have : t.restoreOrder = s.restoreOrder := by funext p; simp [State.restoreOrder, ho]
  have hq' : t.queue (bankOf o) = s.queue (bankOf o) := by simp [State.queue, hq]
  simp only [State.joinQueue, this, hq']
  split
  · rw [← hq]
  · simp [State.setQueue, hq]

theorem switchFrame_runs {n : Byte} {o : OutletId} {s : State} (d : Byte) (run : State → Answer) (hd : d = 1 ∧ run = State.switchOn o ∨ d = 0 ∧ run = State.switchOff o)
    (hn : n.toNat = o.val + 1) (hr : s.takesHostFrames = true) (hp : s.phase = .running)
    (hpr : (s.outlet o).isProtected = false) (hc : (s.outlet o).cycle ≠ .group) :
    s.atRising (fun s => s.runFrame 24 2 (runSwitch n d)) = (run s.openFrame).issuing.1.writeResult (run s.openFrame).issuing.2 := by
  have ho := outletArg_of_number hn
  have h1 : (s.openFrame.outlet o) = s.outlet o := rfl
  have h2 : s.openFrame.phase = .running := hp
  rcases hd with ⟨rfl, rfl⟩ | ⟨rfl, rfl⟩ <;>
  simp [State.atRising, hr, State.runFrame, State.onFrame, actionLengthOk, runSwitch, whenRunning, ho, State.checkOutlet, h1, hpr, hc, h2]

theorem accepted_issues (u : State) : (Answer.issuing (accept u)).1.writeResult (Answer.issuing (accept u)).2 = (u.writeResult okSlot).issueClaims := by
  simp only [Answer.issuing, accept, okSlot, ite_true, State.writeResult, State.closeFrame, State.modPort]
  have : (u.issueClaims).port = u.port := by simp
  rw [this]; exact (issueClaims_withPort u _).symm

theorem outletArg_out_of_range {n : Byte} (h : n.toNat < 1 ∨ 24 < n.toNat) : outletArg n = none := by
  simp only [outletArg, outletOfNo]; split <;> first | rfl | (exfalso; omega)
theorem openFrame_phase (s : State) : s.openFrame.phase = s.phase := rfl
theorem openFrame_outlet (s : State) (o) : s.openFrame.outlet o = s.outlet o := rfl

theorem hasNumber_addNumber (s : NumberSet) (k j : Fin 16) : hasNumber (addNumber s k) j = (hasNumber s j || decide (j = k)) := by
  simp only [hasNumber, addNumber]
  have := k.isLt; have := j.isLt
  simp only [BitVec.getLsbD_or, BitVec.getLsbD_shiftLeft, BitVec.getLsbD_one]
  congr 1
  by_cases h : j = k
  · subst h; simp
  · have : j.val ≠ k.val := fun e => h (Fin.ext e)
    rcases Nat.lt_or_gt_of_ne this with h1 | h1
    · simp [h, h1]
    · simp [h]; omega

theorem mem_allNumbers : ∀ k : Fin 16, k ∈ allNumbers := by decide
theorem allNumbers_split (k : Fin 16) : ∃ a b, allNumbers = a ++ k :: b ∧ ∀ j ∈ a, j < k := by
  have : ∀ k : Fin 16, allNumbers = allNumbers.take k.val ++ k :: allNumbers.drop (k.val + 1) ∧ ∀ j ∈ allNumbers.take k.val, j < k := by decide
  exact ⟨_, _, this k⟩
theorem hasNumber_numbersWhere (p : Fin 16 → Bool) (k : Fin 16) : hasNumber (numbersWhere p) k = p k := by
  have gen : ∀ (l : List (Fin 16)) (s : NumberSet), hasNumber (l.foldl (fun s k => if p k then addNumber s k else s) s) k = (hasNumber s k || (decide (k ∈ l) && p k)) := by
    intro l
    induction l with
    | nil => intro s; simp
    | cons a l ih =>
      intro s
      rw [List.foldl_cons, ih]
      by_cases h : p a = true
      · simp only [h, if_true, hasNumber_addNumber]
        by_cases hk : k = a
        · subst hk; simp [h]
        · simp [hk]
      · simp only [h]
        by_cases hk : k = a
        · subst hk; simp [h]
        · simp [hk]
  unfold numbersWhere
  rw [gen]
  simp [mem_allNumbers k, hasNumber]

theorem lowestNumber_first (s : NumberSet) (k : Fin 16) (h : hasNumber s k = true) (hl : ∀ j, j < k → hasNumber s j = false) : lowestNumber s = some k := by
  unfold lowestNumber
  rw [List.find?_eq_some_iff_append]
  refine ⟨h, ?_⟩
  obtain ⟨a, b, e, ha⟩ := allNumbers_split k
  exact ⟨a, b, e, fun j hj => by simp [hl j (ha j hj)]⟩

theorem lowestNumber_none (s : NumberSet) (h : ∀ j, hasNumber s j = false) : lowestNumber s = none := by
  unfold lowestNumber; rw [List.find?_eq_none]; intro x _; simp [h x]

theorem offerReserved_withPort (t : State) (p : Port) f : State.offerReserved { t with port := p } f = { t.offerReserved f with port := p } := by
    unfold State.offerReserved
    cases h1 : t.link.state.takesReserved <;> simp
    cases h2 : t.link.sending <;> simp
    · rfl
    · split <;> rfl
theorem dropClaim_withPort (t : State) (p : Port) o : State.dropClaim { t with port := p } o = { t.dropClaim o with port := p } := by
    have e1 : State.claim { t with port := p } (bankOf o) = t.claim (bankOf o) := rfl
    simp only [State.dropClaim, State.markDropped, e1]
    split
    · exact offerReserved_withPort (t.modClaim (bankOf o) (fun c => { c with ending := .dropped })) _ _
    · rfl
theorem enterOpening_withPort (s : State) (p : Port) (o : OutletId) : State.enterOpening { s with port := p } o = { s.enterOpening o with port := p } := by
  unfold State.enterOpening
  have : State.profile { s with port := p } o = s.profile o := rfl
  rw [this]
  cases (s.profile o).alignment
  · exact dropClaim_withPort (s.startOpeningSettle o) _ _
  · exact dropClaim_withPort (s.startAlign o .opening) _ _
  · exact dropClaim_withPort (s.startAlign o .opening) _ _
theorem enterOpening_keepsPort (s : State) (o : OutletId) : (s.enterOpening o).port = s.port := by
  have := congrArg State.port (enterOpening_withPort s s.port o)
  simpa using this


theorem eq_of_sameRest {t u : State} {oa : Tab 24 Outlet} {ma : Tab 24 Meter} (h : { t with outlets := oa, meters := ma } = u) :
    t = { u with outlets := t.outlets, meters := t.meters } := by subst h; rfl

theorem foldl_outletRecords (f : State → OutletId → State) (s : State) (F : OutletId → Outlet × Meter)
    (hcfg : ∀ o, (F o).1.cfg = (s.outlet o).cfg)
    (h : ∀ t o, { t with outlets := s.outlets, meters := s.meters } = s → t.outlet o = s.outlet o → t.meter o = s.meter o →
      (∀ p, (t.outlet p).cfg = (s.outlet p).cfg) → f t o = t.withOutlet o (F o).1 (F o).2) (l : List OutletId) (hl : l.Nodup) :
    { l.foldl f s with outlets := s.outlets, meters := s.meters } = s ∧
      (∀ p, (l.foldl f s).outlet p = if p ∈ l then (F p).1 else s.outlet p) ∧
      (∀ p, (l.foldl f s).meter p = if p ∈ l then (F p).2 else s.meter p) := by
  have gen : ∀ (l : List OutletId) (t : State), l.Nodup → { t with outlets := s.outlets, meters := s.meters } = s →
      (∀ p, (t.outlet p).cfg = (s.outlet p).cfg) → (∀ p ∈ l, t.outlet p = s.outlet p ∧ t.meter p = s.meter p) →
      { l.foldl f t with outlets := s.outlets, meters := s.meters } = s ∧
      (∀ p, (l.foldl f t).outlet p = if p ∈ l then (F p).1 else t.outlet p) ∧
      (∀ p, (l.foldl f t).meter p = if p ∈ l then (F p).2 else t.meter p) := by
    intro l
    induction l with
    | nil => intro t _ h1 _ _; exact ⟨h1, by simp, by simp⟩
    | cons o l ih =>
      intro t hn h1 h2 h3
      rw [List.nodup_cons] at hn
      have e := h t o h1 (h3 o (by simp)).1 (h3 o (by simp)).2 h2
      rw [List.foldl_cons, e]
      obtain ⟨r1, r2, r3⟩ := ih (t.withOutlet o (F o).1 (F o).2) hn.2 h1
        (fun p => by simp only [State.withOutlet, State.outlet, Tab.get_set]; split
                     · rename_i hh; first | (subst hh; exact hcfg _) | (rw [hh]; exact hcfg _)
                     · exact h2 p)
        (fun p hp => by
          have : p ≠ o := fun e => hn.1 (e ▸ hp)
          have h5 := h3 p (by simp [hp])
          simp only [State.withOutlet, State.outlet, State.meter, Tab.get_set] at h5 ⊢
          rw [if_neg this, if_neg this]; exact h5)
      refine ⟨r1, fun p => ?_, fun p => ?_⟩
      · rw [r2]; simp only [State.withOutlet, State.outlet, Tab.get_set, List.mem_cons]
        by_cases he : p = o
        · subst he; simp [hn.1]
        · by_cases hp : p ∈ l <;> simp [hp, he]
      · rw [r3]; simp only [State.withOutlet, State.meter, Tab.get_set, List.mem_cons]
        by_cases he : p = o
        · subst he; simp [hn.1]
        · by_cases hp : p ∈ l <;> simp [hp, he]
  exact gen l s hl rfl (fun _ => rfl) (fun _ _ => ⟨rfl, rfl⟩)

theorem bankOutlets_mem (b : Bank) (o : OutletId) : o ∈ bankOutlets b ↔ bankOf o = b := by revert b o; intro b; cases b <;> decide
theorem bankOutlets_nodup (b : Bank) : (bankOutlets b).Nodup := by cases b <;> decide


theorem roundNearest_near (n d : Nat) (h : 0 < d) : 2 * roundNearest n d * d ≤ 2 * n + d ∧ 2 * n ≤ 2 * roundNearest n d * d + d := by
  have e := Nat.div_add_mod n d
  have l := Nat.mod_lt n h
  generalize hq : n / d = q at *
  generalize hr : n % d = r at *
  unfold roundNearest
  rw [hq, hr]
  have e2 : ∀ k, 2 * k * d = 2 * (d * k) := by intro k; rw [Nat.mul_assoc, Nat.mul_comm k d]
  split
  · rw [e2]; omega
  · split
    · split
      · rw [e2, Nat.mul_add]; omega
      · rw [e2]; omega
    · rw [e2, Nat.mul_add]; omega


theorem passTime_outlet (s : State) (d : Nat) (o : OutletId) (hr : s.inReset = false) :
    (s.passTime d).outlet o = (s.outlet o).age d (s.cfg.claimWait * 1000) (s.isHeld (bankOf o)) := by
  simp [State.passTime, hr, State.outlet, Tab.get_mapIdx]

theorem endLocal_eq (x : Outlet) : x.endLocal = { x with cycle := if x.cycle = .group then .group else .none } := by
  unfold Outlet.endLocal; cases h : x.cycle <;> simp; all_goals (rw [← h])


theorem triggerRetries_spec (s : State) (p : BranchId → Bool) : { s.triggerRetries p with claims := s.claims } = s ∧
      ∀ b, (s.triggerRetries p).claim b = if p (s.bank b).branch = true then { s.claim b with retryWait := none } else s.claim b := by
  have gen : ∀ (l : List BranchId) (t : State), { t with claims := s.claims } = s →
      { l.foldl (fun t n => if t.uses n && p n then t.clearRetry n else t) t with claims := s.claims } = s ∧
      ∀ b, (l.foldl (fun t n => if t.uses n && p n then t.clearRetry n else t) t).claim b =
        if (s.bank b).branch ∈ l ∧ p (s.bank b).branch = true then { t.claim b with retryWait := none } else t.claim b := by
    intro l; induction l with
    | nil => intro t h; exact ⟨h, by simp⟩
    | cons n l ih =>
      intro t h
      have hb : ∀ b, t.bank b = s.bank b := fun b => by have := congrArg State.banks h; simp at this; simp [State.bank, this]
      rw [List.foldl_cons]
      by_cases c : (t.uses n && p n) = true
      · rw [if_pos c]
        obtain ⟨r1, r2⟩ := ih (t.clearRetry n) (by unfold State.clearRetry; exact h)
        refine ⟨r1, fun b => ?_⟩
        rw [r2]
        have : (t.clearRetry n).claim b = if (s.bank b).branch = n then { t.claim b with retryWait := none } else t.claim b := by
          rw [← hb]; cases b <;> rfl
        rw [this]
        simp at c
        by_cases e1 : (s.bank b).branch = n
        · subst e1; simp [c.2]
        · simp [e1]
      · rw [if_neg c]
        obtain ⟨r1, r2⟩ := ih t h
        refine ⟨r1, fun b => ?_⟩
        rw [r2]
        by_cases e1 : (s.bank b).branch = n
        · subst e1
          have : t.uses (s.bank b).branch = true := by
            simp only [State.uses, State.ownBanksOn, hb, allBanks]; cases b <;> simp <;> split <;> simp_all
          have : p (s.bank b).branch = false := by simpa [this] using c
          simp [this]
        · simp [e1]
  have := gen allNumbers s rfl
  refine ⟨this.1, fun b => ?_⟩
  rw [show s.triggerRetries p = allNumbers.foldl (fun t n => if t.uses n && p n then t.clearRetry n else t) s from rfl, this.2]
  simp [mem_allNumbers]


theorem exec_carried {c : Instr} {k f} (h : c.carried = some (k, f)) (s : State) (hr : s.inReset = false) :
    exec c s = .next (s.receive k f (fun s => (s.applies k f).issueClaims)) := by
  cases c <;> simp [Instr.carried] at h <;> obtain ⟨rfl, rfl⟩ := h <;>
    simp only [exec, execJoinApply, execStatusApply, execForgetApply, execClaimApply, execOpenGroupApply, execGroupOffApply, execGroupOnApply, execGroupAbortApply, State.unlessReset, hr, State.applies] <;> rfl


theorem find_member {l : List Member} {m : Member} {before after} {o : OutletId} (h : l = before ++ m :: after) (hm : m.outlet = o) (hb : ∀ n ∈ before, n.outlet ≠ o) :
    l.find? (fun m => decide (m.outlet = o)) = some m := by
  rw [List.find?_eq_some_iff_append]; exact ⟨by simp [hm], before, after, h, fun n hn => by simp [hb n hn]⟩

theorem cycle_group {s : State} {g r} (h : s.cycle? g = some r) : r.group = g := by
  unfold State.cycle? at h
  cases e : s.record? g with
  | none => simp [e] at h
  | some r' =>
    simp [e] at h
    have := List.find?_some e
    simp at this; rw [← h.2]; exact this


theorem inError_of_good {l : List Bool} (h : ∃ k f, judge l = .good k f) : inError l = false := by
  obtain ⟨k, f, h⟩ := h; simp [inError, h]
theorem inError_of_bad {l : List Bool} (h : ∀ k f, judge l ≠ .good k f) : inError l = true := by
  unfold inError; split
  · rename_i k f hh; exact absurd hh (h k f)
  · rfl

/-! Restore order. -/

theorem insertByOrder_spec (f : OutletId → Nat) (o : OutletId) (q : List OutletId) (h : ∀ p ∈ q, p < o)
    (hq : q.Pairwise (fun x y => f x < f y ∨ f x = f y ∧ x < y)) :
    (∀ p, p ∈ insertByOrder f o q ↔ p = o ∨ p ∈ q) ∧ (insertByOrder f o q).Pairwise (fun x y => f x < f y ∨ f x = f y ∧ x < y) := by
  induction q with
  | nil => simp [insertByOrder]
  | cons x q ih =>
    rw [List.pairwise_cons] at hq
    obtain ⟨r1, r2⟩ := ih (fun p hp => h p (by simp [hp])) hq.2
    unfold insertByOrder
    split
    · rename_i c
      refine ⟨by simp, ?_⟩
      simp only [List.pairwise_cons, List.mem_cons]
      refine ⟨?_, hq.1, hq.2⟩
      rintro z (rfl | hz)
      · exact .inl c
      · rcases hq.1 z hz with e | e
        · exact .inl (Nat.lt_trans c e)
        · exact .inl (e.1 ▸ c)
    · rename_i c
      refine ⟨fun p => ?_, ?_⟩
      · simp only [List.mem_cons, r1]
        constructor
        · rintro (e | e | e) <;> simp [e]
        · rintro (e | e | e) <;> simp [e]
      · rw [List.pairwise_cons]; refine ⟨fun z hz => ?_, r2⟩
        rw [r1] at hz
        rcases hz with rfl | hz
        · rcases Nat.lt_or_eq_of_le (Nat.le_of_not_lt c) with e | e
          · exact .inl e
          · exact .inr ⟨e, h x (by simp)⟩
        · exact hq.1 z hz

theorem inRestoreOrder_spec (s : State) (l : List OutletId) (hl : l.Pairwise (· < ·)) :
    (∀ o, o ∈ s.inRestoreOrder l ↔ o ∈ l) ∧
      (s.inRestoreOrder l).Pairwise (fun x y => s.restoreOrder x < s.restoreOrder y ∨ s.restoreOrder x = s.restoreOrder y ∧ x < y) := by
  have gen : ∀ (l q : List OutletId), l.Pairwise (· < ·) → (∀ p ∈ q, ∀ o ∈ l, p < o) →
      q.Pairwise (fun x y => s.restoreOrder x < s.restoreOrder y ∨ s.restoreOrder x = s.restoreOrder y ∧ x < y) →
      (∀ o, o ∈ l.foldl (fun q o => insertByOrder s.restoreOrder o q) q ↔ o ∈ q ∨ o ∈ l) ∧
        (l.foldl (fun q o => insertByOrder s.restoreOrder o q) q).Pairwise
          (fun x y => s.restoreOrder x < s.restoreOrder y ∨ s.restoreOrder x = s.restoreOrder y ∧ x < y) := by
    intro l
    induction l with
    | nil => intro q _ _ h; simp [h]
    | cons a l ih =>
      intro q h1 h2 h3
      rw [List.pairwise_cons] at h1
      obtain ⟨m, w⟩ := insertByOrder_spec s.restoreOrder a q (fun p hp => h2 p hp a (by simp)) h3
      rw [List.foldl_cons]
      obtain ⟨m2, w2⟩ := ih _ h1.2 (fun p hp o ho => by
        rw [m] at hp
        rcases hp with rfl | hp
        · exact h1.1 o ho
        · exact h2 p hp o (by simp [ho])) w
      refine ⟨fun o => ?_, w2⟩
      rw [m2, m]; simp only [List.mem_cons]
      constructor
      · rintro ((e | e) | e) <;> simp [e]
      · rintro (e | e | e) <;> simp [e]
  have := gen l [] hl (by simp) List.Pairwise.nil
  exact ⟨fun o => by rw [State.inRestoreOrder, this.1]; simp, this.2⟩

theorem bankOutlets_sorted (b : Bank) : (bankOutlets b).Pairwise (· < ·) := by cases b <;> decide

theorem allOutlets_sorted : allOutlets.Pairwise (· < ·) := by decide

theorem mem_allOutlets : ∀ o : OutletId, o ∈ allOutlets := by decide

end Sys2Proof.Machine
end

