-- ==== Sys2Proof/Laws/Dormant.lean ====
section
/-! SUPPORT. A link that is SILENT, with no attempt and an empty transmit queue, as START finds it, is left so by every operation that runs before START. -/

namespace Sys2Proof.Machine

/-- The link is SILENT, nothing is being sent and nothing waits (R75, R83). -/
def State.Dormant (s : State) : Prop := s.link.state = .silent ∧ s.link.sending = none ∧ s.link.queue = []

/-! The link takes nothing while it is SILENT (R75). -/

theorem not_room_of_dormant {s : State} (hs : s.Dormant) : s.queueHasRoom = false := by simp [State.queueHasRoom, hs.1, LinkState.takesFrames]

theorem offer_of_dormant {s : State} (hs : s.Dormant) (u : Nat) (f : PeerFrame) : s.offer u f = none := by
  simp [State.offer, not_room_of_dormant hs]

theorem offerReserved_of_dormant {s : State} (hs : s.Dormant) (f : PeerFrame) : s.offerReserved f = s := by
  simp [State.offerReserved, hs.1, LinkState.takesReserved]

@[simp] theorem dormant_offerStatus (s : State) (hs : s.Dormant) : s.offerStatus.Dormant := by
  unfold State.offerStatus; rw [offerReserved_of_dormant hs]; exact hs

@[simp] theorem dormant_offerJoin (s : State) r (hs : s.Dormant) : (s.offerJoin r).Dormant := by
  unfold State.offerJoin; rw [offerReserved_of_dormant hs]; exact hs

@[simp] theorem dormant_removeFrames (s : State) p (hs : s.Dormant) : (s.removeFrames p).Dormant := by
  refine ⟨hs.1, ?_, ?_⟩
  · simp [State.removeFrames, hs.2.1]
  · simp [State.removeFrames, hs.2.2]

@[simp] theorem dormant_offerOnBus (s : State) l (hs : s.Dormant) : s.offerOnBus l = s := by
  unfold State.offerOnBus; rw [hs.2.1, hs.2.2]

@[simp] theorem dormant_attemptFails (s : State) m (hs : s.Dormant) : s.attemptFails m = s := by
  unfold State.attemptFails; rw [hs.2.1]

@[simp] theorem dormant_frameFails (s : State) r (hs : s.Dormant) : s.frameFails r = s := by
  unfold State.frameFails; rw [hs.1]

@[simp] theorem dormant_receive (s : State) k f act (hs : s.Dormant) : s.receive k f act = s := by
  unfold State.receive; rw [hs.1]

@[simp] theorem dormant_scheduleStatus (s : State) (hs : s.Dormant) : s.scheduleStatus = s := by
  unfold State.scheduleStatus; rw [hs.1]

/-! Every other operation. -/

@[simp] theorem dormant_modRecord (s : State) g f (hs : s.Dormant) : (s.modRecord g f).Dormant := hs
@[simp] theorem dormant_setStatus (s : State) g o st (hs : s.Dormant) : (s.setStatus g o st).Dormant := hs
@[simp] theorem dormant_passTime (s : State) dt (hs : s.Dormant) : (s.passTime dt).Dormant := by
  unfold State.passTime; split <;> exact hs
@[simp] theorem dormant_issueClaim (s : State) b (hs : s.Dormant) : (s.issueClaim b).Dormant := by
  unfold State.issueClaim
  (repeat' split) <;> first | exact hs | (rename_i hh; rw [offer_of_dormant hs] at hh; cases hh)
@[simp] theorem dormant_foldl {α : Type} {f : State → α → State} (h : ∀ t x, t.Dormant → (f t x).Dormant) (l : List α) (s : State) (hs : s.Dormant) :
    (l.foldl f s).Dormant :=
  foldl_keeps (P := State.Dormant) h l s hs
@[simp] theorem dormant_ite {c : Prop} [Decidable c] (s t : State) (hs : s.Dormant) (ht : t.Dormant) : (if c then s else t).Dormant :=
  ite_keeps (P := State.Dormant) hs ht
@[simp] theorem dormant_seeWindow (s : State) o n (hs : s.Dormant) : (s.modPort (Port.seeWindow o n)).Dormant := hs
@[simp] theorem dormant_modMeter (s : State) o f (hs : s.Dormant) : (s.modMeter o f).Dormant := hs
@[simp] theorem dormant_modLine (s : State) b f (hs : s.Dormant) : (s.modLine b f).Dormant := hs
@[simp] theorem dormant_modWindow (s : State) b f (hs : s.Dormant) : (s.modWindow b f).Dormant := hs
@[simp] theorem dormant_setQueue (s : State) b q (hs : s.Dormant) : (s.setQueue b q).Dormant := hs
@[simp] theorem dormant_modClaim (s : State) b f (hs : s.Dormant) : (s.modClaim b f).Dormant := hs
@[simp] theorem dormant_modPeer (s : State) k f (hs : s.Dormant) : (s.modPeer k f).Dormant := hs
@[simp] theorem dormant_modOver (s : State) n f (hs : s.Dormant) : (s.modOver n f).Dormant := hs
@[simp] theorem dormant_modGroup (s : State) g f (hs : s.Dormant) : (s.modGroup g f).Dormant := hs
@[simp] theorem dormant_loadTimer (s : State) o ms (hs : s.Dormant) : (s.loadTimer o ms).Dormant := hs
@[simp] theorem dormant_setUnaligned (s : State) o v (hs : s.Dormant) : (s.setUnaligned o v).Dormant := hs
@[simp] theorem dormant_setTarget (s : State) o t (hs : s.Dormant) : (s.setTarget o t).Dormant := hs
@[simp] theorem dormant_setRestore (s : State) o v (hs : s.Dormant) : (s.setRestore o v).Dormant := hs
@[simp] theorem dormant_setCycle (s : State) o c (hs : s.Dormant) : (s.setCycle o c).Dormant := hs
@[simp] theorem dormant_setPendingOff (s : State) o (hs : s.Dormant) : (s.setPendingOff o).Dormant := hs
@[simp] theorem dormant_joinCycle (s : State) o (hs : s.Dormant) : (s.joinCycle o).Dormant := hs
@[simp] theorem dormant_modOutlet (s : State) o f (hs : s.Dormant) : (s.modOutlet o f).Dormant := hs
@[simp] theorem dormant_place (s : State) o st sub (hs : s.Dormant) : (s.place o st sub).Dormant := hs
@[simp] theorem dormant_startAlign (s : State) o st (hs : s.Dormant) : (s.startAlign o st).Dormant := hs
@[simp] theorem dormant_endLocal (s : State) o (hs : s.Dormant) : (s.endLocal o).Dormant := hs
@[simp] theorem dormant_protect (s : State) set (hs : s.Dormant) : (s.protect set).Dormant := hs
@[simp] theorem dormant_overload (s : State) l (hs : s.Dormant) : State.Dormant { s with overload := l } := hs
@[simp] theorem dormant_restored (s : State) r v (hs : s.Dormant) : State.Dormant { s with restoreSet := r, startRestored := v } := hs
@[simp] theorem dormant_seq (s : State) n (hs : s.Dormant) : State.Dormant { s with seq := n } := hs
@[simp] theorem dormant_modPort (s : State) f (hs : s.Dormant) : (s.modPort f).Dormant := hs
@[simp] theorem dormant_post (s : State) k a b c (hs : s.Dormant) : (s.post k a b c).Dormant := by
  unfold State.post; (repeat' split) <;> exact hs
@[simp] theorem dormant_recompose (s : State) (hs : s.Dormant) : (State.recompose s).Dormant := by
  unfold State.recompose
  (repeat' split) <;> simp (maxDischargeDepth := 30) [hs]
@[simp] theorem dormant_joinQueue (s : State) (o : OutletId) (hs : s.Dormant) : (State.joinQueue s o).Dormant := by
  unfold State.joinQueue
  (repeat' split) <;> simp (maxDischargeDepth := 30) [hs]
@[simp] theorem dormant_leaveQueue (s : State) (o : OutletId) (hs : s.Dormant) : (State.leaveQueue s o).Dormant := by
  unfold State.leaveQueue
  (repeat' split) <;> simp (maxDischargeDepth := 30) [hs]
@[simp] theorem dormant_withdrawClaim (s : State) (b : Bank) (hs : s.Dormant) : (State.withdrawClaim s b).Dormant := by
  unfold State.withdrawClaim
  (repeat' split) <;> simp (maxDischargeDepth := 30) [hs]
@[simp] theorem dormant_leaveClaiming (s : State) (o : OutletId) (hs : s.Dormant) : (State.leaveClaiming s o).Dormant := by
  unfold State.leaveClaiming
  (repeat' split) <;> simp (maxDischargeDepth := 30) [hs]
@[simp] theorem dormant_markDropped (s : State) (o : OutletId) (hs : s.Dormant) : (State.markDropped s o).Dormant := by
  unfold State.markDropped
  (repeat' split) <;> simp (maxDischargeDepth := 30) [hs]
@[simp] theorem dormant_dropClaim (s : State) (o : OutletId) (hs : s.Dormant) : (State.dropClaim s o).Dormant := by
  unfold State.dropClaim
  (repeat' split) <;> simp (maxDischargeDepth := 30) [hs]
@[simp] theorem dormant_issueClaims (s : State) (hs : s.Dormant) : (State.issueClaims s).Dormant := by
  unfold State.issueClaims
  (repeat' split) <;> simp (maxDischargeDepth := 30) [hs]
@[simp] theorem dormant_clearRetry (s : State) (n : BranchId) (hs : s.Dormant) : (State.clearRetry s n).Dormant := hs
@[simp] theorem dormant_fold_clearRetry {p : BranchId → Bool} {l : List _} {s : State} (hs : s.Dormant) : (l.foldl (fun (t : State) (n : BranchId) => if t.uses n && p n then t.clearRetry n else t) s).Dormant :=
  dormant_foldl (fun t x h => by split <;> exact h) l s hs
@[simp] theorem dormant_triggerRetries (s : State) (p : BranchId → Bool) (hs : s.Dormant) : (State.triggerRetries s p).Dormant := dormant_fold_clearRetry hs
@[simp] theorem dormant_absorbWindow (s : State) (b : Bank) (clean : OutletId → Bool) (hs : s.Dormant) : (State.absorbWindow s b clean).Dormant := by
  unfold State.absorbWindow
  (repeat' split) <;> simp (maxDischargeDepth := 30) [hs]
@[simp] theorem dormant_meetTarget (s : State) (o : OutletId) (hs : s.Dormant) : (State.meetTarget s o).Dormant := by
  unfold State.meetTarget
  (repeat' split) <;> simp (maxDischargeDepth := 30) [hs]
@[simp] theorem dormant_enterOff (s : State) (o : OutletId) (hs : s.Dormant) : (State.enterOff s o).Dormant := by
  unfold State.enterOff
  (repeat' split) <;> simp (maxDischargeDepth := 30) [hs]
@[simp] theorem dormant_enterClaiming (s : State) (o : OutletId) (hs : s.Dormant) : (State.enterClaiming s o).Dormant := by
  unfold State.enterClaiming
  (repeat' split) <;> simp (maxDischargeDepth := 30) [hs]
@[simp] theorem dormant_startCoil (s : State) (o : OutletId) (hs : s.Dormant) : (State.startCoil s o).Dormant := by
  unfold State.startCoil
  (repeat' split) <;> simp (maxDischargeDepth := 30) [hs]
@[simp] theorem dormant_startClosingSettle (s : State) (o : OutletId) (hs : s.Dormant) : (State.startClosingSettle s o).Dormant := by
  unfold State.startClosingSettle
  (repeat' split) <;> simp (maxDischargeDepth := 30) [hs]
@[simp] theorem dormant_startOpeningSettle (s : State) (o : OutletId) (hs : s.Dormant) : (State.startOpeningSettle s o).Dormant := by
  unfold State.startOpeningSettle
  (repeat' split) <;> simp (maxDischargeDepth := 30) [hs]
@[simp] theorem dormant_enterClosing (s : State) (o : OutletId) (hs : s.Dormant) : (State.enterClosing s o).Dormant := by
  unfold State.enterClosing
  (repeat' split) <;> simp (maxDischargeDepth := 30) [hs]
@[simp] theorem dormant_enterOpening (s : State) (o : OutletId) (hs : s.Dormant) : (State.enterOpening s o).Dormant := by
  unfold State.enterOpening
  (repeat' split) <;> simp (maxDischargeDepth := 30) [hs]
@[simp] theorem dormant_endPendingOff (s : State) (o : OutletId) (hs : s.Dormant) : (State.endPendingOff s o).Dormant := by
  unfold State.endPendingOff
  (repeat' split) <;> simp (maxDischargeDepth := 30) [hs]
@[simp] theorem dormant_alignClosing (s : State) (o : OutletId) (unaligned : Bool) (hs : s.Dormant) : (State.alignClosing s o unaligned).Dormant := by
  unfold State.alignClosing
  (repeat' split) <;> simp (maxDischargeDepth := 30) [hs]
@[simp] theorem dormant_alignOpening (s : State) (o : OutletId) (unaligned : Bool) (hs : s.Dormant) : (State.alignOpening s o unaligned).Dormant := by
  unfold State.alignOpening
  (repeat' split) <;> simp (maxDischargeDepth := 30) [hs]
@[simp] theorem dormant_releaseMembers (s : State) (ms : List Member) (hs : s.Dormant) : (State.releaseMembers s ms).Dormant := by
  unfold State.releaseMembers
  exact dormant_foldl (f := fun t (m : Member) => t.modOutlet m.outlet Outlet.releaseMember) (fun _ _ h => h) _ _ hs
@[simp] theorem dormant_finishCycle (s : State) (g : Nat) (out : CycleOutcome) (hs : s.Dormant) : (State.finishCycle s g out).Dormant := by
  unfold State.finishCycle
  (repeat' split) <;> simp (maxDischargeDepth := 30) [hs]
@[simp] theorem dormant_restoreByAbort (s : State) (o : OutletId) (hs : s.Dormant) : (State.restoreByAbort s o).Dormant := by
  unfold State.restoreByAbort
  try dsimp only
  (repeat' split) <;> first | (simp (maxDischargeDepth := 30) [hs]; done) | exact hs
@[simp] theorem dormant_fold_restoreByAbort {l : List _} {s : State} (hs : s.Dormant) : (l.foldl State.restoreByAbort s).Dormant :=
  dormant_foldl (fun t x h => by simp (maxDischargeDepth := 30) [h]) l s hs
@[simp] theorem dormant_checkAbortDone (s : State) (g : Nat) (hs : s.Dormant) : (State.checkAbortDone s g).Dormant := by
  unfold State.checkAbortDone
  (repeat' split) <;> simp (maxDischargeDepth := 30) [hs]
@[simp] theorem dormant_abortCycle (s : State) (g : Nat) (reason : EndReason) (hs : s.Dormant) : (State.abortCycle s g reason).Dormant := by
  unfold State.abortCycle
  (repeat' split) <;> simp (maxDischargeDepth := 30) [hs]
@[simp] theorem dormant_actAbort (s : State) (g : Nat) (reason : EndReason) (hs : s.Dormant) : (State.actAbort s g reason).Dormant := by
  unfold State.actAbort
  (repeat' split) <;> simp (maxDischargeDepth := 30) [hs]
@[simp] theorem dormant_fold_actAbort {l : List _} {s : State} (hs : s.Dormant) : (l.foldl (fun (t : State) (g : Nat) => t.actAbort g .link) s).Dormant :=
  dormant_foldl (fun t x h => by simp (maxDischargeDepth := 30) [h]) l s hs
@[simp] theorem dormant_abortNotQueued (s : State) (r : CycleRecord) (hs : s.Dormant) : (State.abortNotQueued s r).Dormant := by
  unfold State.abortNotQueued
  (repeat' split) <;> simp (maxDischargeDepth := 30) [hs]

theorem queueAbort_of_dormant {s t : State} {r : CycleRecord} {a : AbortReason} (h : s.queueAbort r a = some t) (hs : s.Dormant) : t.Dormant := by
  unfold State.queueAbort at h
  dsimp only at h
  split at h
  · cases h; simp [hs]
  · rw [offer_of_dormant (by simp [hs])] at h; cases h

@[simp] theorem dormant_offerAbort (s : State) (g : Nat) (reason : AbortReason) (hs : s.Dormant) : (State.offerAbort s g reason).Dormant := by
  unfold State.offerAbort
  (repeat' split) <;> first | exact hs | (rename_i hh; exact queueAbort_of_dormant hh hs) | simp [hs]
@[simp] theorem dormant_maybeGroupOff (s : State) (g : Nat) (hs : s.Dormant) : (State.maybeGroupOff s g).Dormant := by
  unfold State.maybeGroupOff
  try dsimp only
  (repeat' split) <;> first | (simp (maxDischargeDepth := 30) [hs]; done) | (rename_i hh; rw [offer_of_dormant (by simp [hs])] at hh; cases hh)
@[simp] theorem dormant_maybeGroupOn (s : State) (g : Nat) (hs : s.Dormant) : (State.maybeGroupOn s g).Dormant := by
  unfold State.maybeGroupOn
  try dsimp only
  (repeat' split) <;> first | (simp (maxDischargeDepth := 30) [hs]; done) | (rename_i hh; rw [offer_of_dormant (by simp [hs])] at hh; cases hh)

@[simp] theorem dormant_noteOpened (s : State) (o : OutletId) (hs : s.Dormant) : (State.noteOpened s o).Dormant := by
  unfold State.noteOpened
  (repeat' split) <;> simp (maxDischargeDepth := 30) [hs]
@[simp] theorem dormant_noteRestored (s : State) (o : OutletId) (hs : s.Dormant) : (State.noteRestored s o).Dormant := by
  unfold State.noteRestored
  (repeat' split) <;> simp (maxDischargeDepth := 30) [hs]
@[simp] theorem dormant_noteFailed (s : State) (o : OutletId) (hs : s.Dormant) : (State.noteFailed s o).Dormant := by
  unfold State.noteFailed
  (repeat' split) <;> simp (maxDischargeDepth := 30) [hs]
@[simp] theorem dormant_noteTripped (s : State) (o : OutletId) (hs : s.Dormant) : (State.noteTripped s o).Dormant := by
  unfold State.noteTripped
  (repeat' split) <;> simp (maxDischargeDepth := 30) [hs]
@[simp] theorem dormant_withdrawMember (s : State) (g : Nat) (o : OutletId) (hs : s.Dormant) : (State.withdrawMember s g o).Dormant := by
  unfold State.withdrawMember
  (repeat' split) <;> simp (maxDischargeDepth := 30) [hs]
@[simp] theorem dormant_noteClaiming (s : State) (o : OutletId) (hs : s.Dormant) : (State.noteClaiming s o).Dormant := by
  unfold State.noteClaiming
  (repeat' split) <;> simp (maxDischargeDepth := 30) [hs]
@[simp] theorem dormant_startDwell (s : State) (g : Nat) (hs : s.Dormant) : (State.startDwell s g).Dormant := by
  unfold State.startDwell
  (repeat' split) <;> simp (maxDischargeDepth := 30) [hs]
@[simp] theorem dormant_removeAwaited (s : State) (g : Nat) (k : StationId) (hs : s.Dormant) : (State.removeAwaited s g k).Dormant := by
  unfold State.removeAwaited
  (repeat' split) <;> simp (maxDischargeDepth := 30) [hs]
@[simp] theorem dormant_fold_removeAwaited {k : StationId} {l : List _} {s : State} (hs : s.Dormant) : (l.foldl (fun (t : State) (g : Nat) => t.removeAwaited g k) s).Dormant :=
  dormant_foldl (fun t x h => by simp (maxDischargeDepth := 30) [h]) l s hs
@[simp] theorem dormant_restoreByDwell (g : Nat) (s : State) (o : OutletId) (hs : s.Dormant) : (State.restoreByDwell g s o).Dormant := by
  unfold State.restoreByDwell
  (repeat' split) <;> simp (maxDischargeDepth := 30) [hs]
@[simp] theorem dormant_fold_restoreByDwell {g : Nat} {l : List _} {s : State} (hs : s.Dormant) : (l.foldl (State.restoreByDwell g) s).Dormant :=
  dormant_foldl (fun t x h => by simp (maxDischargeDepth := 30) [h]) l s hs
@[simp] theorem dormant_endDwell (s : State) (g : Nat) (hs : s.Dormant) : (State.endDwell s g).Dormant := by
  unfold State.endDwell
  (repeat' split) <;> simp (maxDischargeDepth := 30) [hs]
@[simp] theorem dormant_placeTripped (s : State) (o : OutletId) (hs : s.Dormant) : (State.placeTripped s o).Dormant := by
  unfold State.placeTripped
  (repeat' split) <;> simp (maxDischargeDepth := 30) [hs]
@[simp] theorem dormant_disturb (s : State) (o : OutletId) (hs : s.Dormant) : (State.disturb s o).Dormant := by
  unfold State.disturb
  (repeat' split) <;> simp (maxDischargeDepth := 30) [hs]
@[simp] theorem dormant_fold_disturb {l : List _} {s : State} (hs : s.Dormant) : (l.foldl State.disturb s).Dormant :=
  dormant_foldl (fun t x h => by simp (maxDischargeDepth := 30) [h]) l s hs
@[simp] theorem dormant_trip (s : State) (o : OutletId) (reason : TripReason) (value : Nat) (hs : s.Dormant) : (State.trip s o reason value).Dormant := by
  unfold State.trip
  (repeat' split) <;> simp (maxDischargeDepth := 30) [hs]
@[simp] theorem dormant_endClosing (s : State) (o : OutletId) (hs : s.Dormant) : (State.endClosing s o).Dormant := by
  unfold State.endClosing
  (repeat' split) <;> simp (maxDischargeDepth := 30) [hs]
@[simp] theorem dormant_failClosing (s : State) (o : OutletId) (hs : s.Dormant) : (State.failClosing s o).Dormant := by
  unfold State.failClosing
  (repeat' split) <;> simp (maxDischargeDepth := 30) [hs]
@[simp] theorem dormant_closingAlignEnds (s : State) (o : OutletId) (hs : s.Dormant) : (State.closingAlignEnds s o).Dormant := by
  unfold State.closingAlignEnds
  (repeat' split) <;> simp (maxDischargeDepth := 30) [hs]
@[simp] theorem dormant_loadDwell (s : State) (o : OutletId) (hs : s.Dormant) : (State.loadDwell s o).Dormant := by
  unfold State.loadDwell
  (repeat' split) <;> simp (maxDischargeDepth := 30) [hs]
@[simp] theorem dormant_endOpening (s : State) (o : OutletId) (hs : s.Dormant) : (State.endOpening s o).Dormant := by
  unfold State.endOpening
  (repeat' split) <;> simp (maxDischargeDepth := 30) [hs]
@[simp] theorem dormant_leaveDwell (s : State) (o : OutletId) (hs : s.Dormant) : (State.leaveDwell s o).Dormant := by
  unfold State.leaveDwell
  (repeat' split) <;> simp (maxDischargeDepth := 30) [hs]
@[simp] theorem dormant_sagOutlet (b : Bank) (s : State) (o : OutletId) (hs : s.Dormant) : (State.sagOutlet b s o).Dormant := by
  unfold State.sagOutlet
  (repeat' split) <;> simp (maxDischargeDepth := 30) [hs]
@[simp] theorem dormant_fold_sagOutlet {b : Bank} {l : List _} {s : State} (hs : s.Dormant) : (l.foldl (State.sagOutlet b) s).Dormant :=
  dormant_foldl (fun t x h => by simp (maxDischargeDepth := 30) [h]) l s hs
@[simp] theorem dormant_sagOutlets (s : State) (b : Bank) (hs : s.Dormant) : (State.sagOutlets s b).Dormant := by
  unfold State.sagOutlets
  (repeat' split) <;> simp (maxDischargeDepth := 30) [hs]
@[simp] theorem dormant_disturbBank (s : State) (b : Bank) (hs : s.Dormant) : (State.disturbBank s b).Dormant := by
  unfold State.disturbBank
  (repeat' split) <;> simp (maxDischargeDepth := 30) [hs]
@[simp] theorem dormant_enterSag (s : State) (b : Bank) (cause : SagCause) (hs : s.Dormant) : (State.enterSag s b cause).Dormant := by
  unfold State.enterSag
  (repeat' split) <;> simp (maxDischargeDepth := 30) [hs]
@[simp] theorem dormant_reenterSag (s : State) (b : Bank) (hs : s.Dormant) : (State.reenterSag s b).Dormant := by
  unfold State.reenterSag
  (repeat' split) <;> simp (maxDischargeDepth := 30) [hs]
@[simp] theorem dormant_sagCondition (s : State) (b : Bank) (cause : SagCause) (hs : s.Dormant) : (State.sagCondition s b cause).Dormant := by
  unfold State.sagCondition
  (repeat' split) <;> simp (maxDischargeDepth := 30) [hs]
@[simp] theorem dormant_enterRecovering (s : State) (b : Bank) (hs : s.Dormant) : (State.enterRecovering s b).Dormant := by
  unfold State.enterRecovering
  (repeat' split) <;> simp (maxDischargeDepth := 30) [hs]
@[simp] theorem dormant_restoreShed (s : State) (o : OutletId) (hs : s.Dormant) : (State.restoreShed s o).Dormant := by
  unfold State.restoreShed
  (repeat' split) <;> simp (maxDischargeDepth := 30) [hs]
@[simp] theorem dormant_fold_restoreShed {l : List _} {s : State} (hs : s.Dormant) : (l.foldl State.restoreShed s).Dormant :=
  dormant_foldl (fun t x h => by simp (maxDischargeDepth := 30) [h]) l s hs
@[simp] theorem dormant_enterNormal (s : State) (b : Bank) (hs : s.Dormant) : (State.enterNormal s b).Dormant := by
  unfold State.enterNormal
  (repeat' split) <;> simp (maxDischargeDepth := 30) [hs]
@[simp] theorem dormant_judgeHalf (s : State) (b : Bank) (volts : Nat) (onCrossings : Bool) (hs : s.Dormant) : (State.judgeHalf s b volts onCrossings).Dormant := by
  unfold State.judgeHalf
  try dsimp only
  (repeat' split) <;> first | (simp (maxDischargeDepth := 30) [hs]; done) | exact hs
@[simp] theorem dormant_watchOutlet (amps : List Nat) (s : State) (o : OutletId) (hs : s.Dormant) : (State.watchOutlet amps s o).Dormant := by
  unfold State.watchOutlet
  try dsimp only
  (repeat' split) <;> first | (simp (maxDischargeDepth := 30) [hs]; done) | exact hs
@[simp] theorem dormant_fold_watchOutlet {amps : List Nat} {l : List _} {s : State} (hs : s.Dormant) : (l.foldl (State.watchOutlet amps) s).Dormant :=
  dormant_foldl (fun t x h => by simp (maxDischargeDepth := 30) [h]) l s hs
@[simp] theorem dormant_watchBank (s : State) (b : Bank) (amps : List Nat) (hs : s.Dormant) : (State.watchBank s b amps).Dormant := by
  unfold State.watchBank
  (repeat' split) <;> simp (maxDischargeDepth := 30) [hs]
@[simp] theorem dormant_closeHalf (s : State) (b : Bank) (h : HalfMeasure) (onCrossing : Bool) (start : Stamp) (hs : s.Dormant) : (State.closeHalf s b h onCrossing start).Dormant := by
  unfold State.closeHalf
  (repeat' split) <;> simp (maxDischargeDepth := 30) [hs]
@[simp] theorem dormant_notePeak (s : State) (o : OutletId) (peak : Nat) (hs : s.Dormant) : (State.notePeak s o peak).Dormant := by
  unfold State.notePeak
  try dsimp only
  (repeat' split) <;> first | (simp (maxDischargeDepth := 30) [hs]; done) | exact hs
@[simp] theorem dormant_fold_notePeak {peaks : List Nat} {l : List _} {s : State} (hs : s.Dormant) : (l.foldl (fun (t : State) (o : OutletId) => t.notePeak o (measured peaks o)) s).Dormant :=
  dormant_foldl (fun t x h => by simp (maxDischargeDepth := 30) [h]) l s hs
@[simp] theorem dormant_notePeaks (s : State) (b : Bank) (peaks : List Nat) (hs : s.Dormant) : (State.notePeaks s b peaks).Dormant := by
  unfold State.notePeaks
  (repeat' split) <;> simp (maxDischargeDepth := 30) [hs]
@[simp] theorem dormant_crossOutlet (s : State) (o : OutletId) (hs : s.Dormant) : (State.crossOutlet s o).Dormant := by
  unfold State.crossOutlet
  (repeat' split) <;> simp (maxDischargeDepth := 30) [hs]
@[simp] theorem dormant_fold_crossOutlet {l : List _} {s : State} (hs : s.Dormant) : (l.foldl State.crossOutlet s).Dormant :=
  dormant_foldl (fun t x h => by simp (maxDischargeDepth := 30) [h]) l s hs
@[simp] theorem dormant_crossOutlets (s : State) (b : Bank) (hs : s.Dormant) : (State.crossOutlets s b).Dormant := by
  unfold State.crossOutlets
  (repeat' split) <;> simp (maxDischargeDepth := 30) [hs]
@[simp] theorem dormant_endOutletWindow (noLine : Bool) (volts ms : Nat) (w : WindowMeasure) (s : State) (o : OutletId) (hs : s.Dormant) : (State.endOutletWindow noLine volts ms w s o).Dormant := by
  unfold State.endOutletWindow
  try dsimp only
  (repeat' split) <;> first | (simp (maxDischargeDepth := 30) [hs]; done) | exact hs
@[simp] theorem dormant_fold_endOutletWindow {n : Bool} {v ms : Nat} {w : WindowMeasure} {l : List _} {s : State} (hs : s.Dormant) : (l.foldl (State.endOutletWindow n v ms w) s).Dormant :=
  dormant_foldl (fun t x h => by simp (maxDischargeDepth := 30) [h]) l s hs
@[simp] theorem dormant_openOutletWindow (b : Bank) (s : State) (o : OutletId) (hs : s.Dormant) : (State.openOutletWindow b s o).Dormant := by
  unfold State.openOutletWindow
  (repeat' split) <;> simp (maxDischargeDepth := 30) [hs]
@[simp] theorem dormant_fold_openOutletWindow {b : Bank} {l : List _} {s : State} (hs : s.Dormant) : (l.foldl (State.openOutletWindow b) s).Dormant :=
  dormant_foldl (fun t x h => by simp (maxDischargeDepth := 30) [h]) l s hs
@[simp] theorem dormant_endWindow (s : State) (b : Bank) (m : WindowMeasure) (closing : Option Stamp) (hs : s.Dormant) : (State.endWindow s b m closing).Dormant := by
  unfold State.endWindow
  (repeat' split) <;> simp (maxDischargeDepth := 30) [hs]
@[simp] theorem dormant_countRise (s : State) (b : Bank) (m : WindowMeasure) (now : Stamp) (hs : s.Dormant) : (State.countRise s b m now).Dormant := by
  unfold State.countRise
  (repeat' split) <;> simp (maxDischargeDepth := 30) [hs]
@[simp] theorem dormant_takeVoltageCrossing (s : State) (b : Bank) (edge : Edge) (now : Stamp) (h : HalfMeasure) (m : WindowMeasure) (hs : s.Dormant) : (State.takeVoltageCrossing s b edge now h m).Dormant := by
  unfold State.takeVoltageCrossing
  (repeat' split) <;> simp (maxDischargeDepth := 30) [hs]
@[simp] theorem dormant_takeCurrentCrossing (s : State) (o : OutletId) (now : Stamp) (hs : s.Dormant) : (State.takeCurrentCrossing s o now).Dormant := by
  unfold State.takeCurrentCrossing
  try dsimp only
  (repeat' split) <;> first | (simp (maxDischargeDepth := 30) [hs]; done) | exact hs
@[simp] theorem dormant_takeInHand (s : State) (o : OutletId) (hs : s.Dormant) : (State.takeInHand s o).Dormant := hs
@[simp] theorem dormant_originated (s : State) (e : GroupEntry) (tag : Tag) (hs : s.Dormant) : (State.originated s e tag).Dormant := hs
@[simp] theorem dormant_clearTripped (s : State) (o : OutletId) (hs : s.Dormant) : (State.clearTripped s o).Dormant := by
  unfold State.clearTripped
  (repeat' split) <;> simp (maxDischargeDepth := 30) [hs]
@[simp] theorem dormant_expireClaim (s : State) (o : OutletId) (hs : s.Dormant) : (State.expireClaim s o).Dormant := by
  unfold State.expireClaim
  (repeat' split) <;> simp (maxDischargeDepth := 30) [hs]

theorem PortOnly.dormant {s t : State} (h : PortOnly s t) (hs : s.Dormant) : t.Dormant := by rw [show t = { s with port := t.port } from h]; exact hs
@[simp] theorem dormant_readEffect (s : State) (c : Capture) (hs : s.Dormant) : (State.readEffect s c).Dormant := by
  unfold State.readEffect
  (repeat' split) <;> simp (maxDischargeDepth := 30) [hs]
@[simp] theorem dormant_endRead (s : State) (bits : Nat) (r : ReadRequest) (hs : s.Dormant) : (State.endRead s bits r).Dormant := by
  unfold State.endRead
  split
  · exact (portOnly_rejectFrame s).dormant hs
  · split
    · exact (portOnly_finishRead _ _).dormant (dormant_readEffect s _ hs)
    · exact (portOnly_rejectFrame s).dormant hs
@[simp] theorem dormant_runRead (s : State) (bits : Nat) (r : ReadRequest) (hs : s.Dormant) : (State.runRead s bits r).Dormant := by
  unfold State.runRead State.onFrame
  split
  · exact (portOnly_closeFrame s).dormant hs
  · split
    · exact dormant_endRead _ _ _ ((portOnly_withCapture s r).dormant hs)
    · exact ((portOnly_openFrame s).trans (portOnly_rejectFrame _)).dormant hs
@[simp] theorem dormant_endOffGather (s : State) (g : Nat) (hs : s.Dormant) : (State.endOffGather s g).Dormant := by
  unfold State.endOffGather
  (repeat' split) <;> simp (maxDischargeDepth := 30) [hs]

end Sys2Proof.Machine
end

