-- ==== Sys2Proof/Laws/PerInstr.lean ====
section
/-! SUPPORT. One statement for every command: a well-formed command that carries a peer frame carries one whose payload is in range (R70, R189). -/

namespace Sys2Proof.Laws.Carried
open Sys2Proof.Machine

/-- A well-formed command carries no frame with a payload outside the ranges of 11.4. -/
def Statement (i : Instr) : Prop := wellFormed i = true → ∀ k f, i.carried = some (k, f) → payloadInRange f = true

/-- A command that carries no frame satisfies the statement. -/
theorem of_none (i : Instr) (h : i.carried = none) : Statement i := by
  intro _ k f hf
  rw [h] at hf
  cases hf

/-- A command that carries a frame satisfies it by its range check. -/
theorem of_some (i : Instr) (k : StationId) (f : PeerFrame) (h : i.carried = some (k, f)) : Statement i := by
  intro hw k' f' hf
  rw [h] at hf
  cases hf
  have hr : i.carriedInRange = true := by
    unfold wellFormed at hw
    exact (Bool.and_eq_true_iff.mp hw).1
  unfold Instr.carriedInRange at hr
  rw [h] at hr
  exact hr

theorem powerOnReset (jumpers : Jumpers) (lock : Bool) : Statement (.powerOnReset jumpers lock) := of_none _ rfl
theorem warmResetAssert : Statement (.warmResetAssert) := of_none _ rfl
theorem warmResetRelease (jumpers : Jumpers) : Statement (.warmResetRelease jumpers) := of_none _ rfl
theorem lockChange (asserted : Bool) : Statement (.lockChange asserted) := of_none _ rfl
theorem readStatus (bits : Nat) : Statement (.readStatus bits) := of_none _ rfl
theorem readOutlet (bits : Nat) (outlet clearPeak : Byte) : Statement (.readOutlet bits outlet clearPeak) := of_none _ rfl
theorem readBank (bits : Nat) (bank : Byte) : Statement (.readBank bits bank) := of_none _ rfl
theorem readPeer (bits : Nat) (station : Byte) : Statement (.readPeer bits station) := of_none _ rfl
theorem readGroup (bits : Nat) (group : Byte) : Statement (.readGroup bits group) := of_none _ rfl
theorem readEvent (bits : Nat) : Statement (.readEvent bits) := of_none _ rfl
theorem readResult (bits : Nat) : Statement (.readResult bits) := of_none _ rfl
theorem switchOn (bits : Nat) (outlet direction : Byte) : Statement (.switchOn bits outlet direction) := of_none _ rfl
theorem switchOff (bits : Nat) (outlet : Byte) : Statement (.switchOff bits outlet) := of_none _ rfl
theorem cycleOutlet (bits : Nat) (outlet : Byte) (dwell : BitVec 16) : Statement (.cycleOutlet bits outlet dwell) := of_none _ rfl
theorem cycleGroup (bits : Nat) (group : Byte) (dwell : BitVec 16) : Statement (.cycleGroup bits group dwell) := of_none _ rfl
theorem abortGroup (bits : Nat) (group : Byte) : Statement (.abortGroup bits group) := of_none _ rfl
theorem clearTrip (bits : Nat) (outlet : Byte) : Statement (.clearTrip bits outlet) := of_none _ rfl
theorem resetEnergy (bits : Nat) (outlet : Byte) : Statement (.resetEnergy bits outlet) := of_none _ rfl
theorem setProtect (bits : Nat) (outlets : OutletSet) : Statement (.setProtect bits outlets) := of_none _ rfl
theorem forgetPeer (bits : Nat) (station : Byte) : Statement (.forgetPeer bits station) := of_none _ rfl
theorem setBoard (bits : Nat) (args : BoardArgs) : Statement (.setBoard bits args) := of_none _ rfl
theorem setBank (bits : Nat) (args : BankArgs) : Statement (.setBank bits args) := of_none _ rfl
theorem setProfile (bits : Nat) (args : ProfileArgs) : Statement (.setProfile bits args) := of_none _ rfl
theorem setOutlet (bits : Nat) (args : OutletArgs) : Statement (.setOutlet bits args) := of_none _ rfl
theorem setGroup (bits : Nat) (args : GroupArgs) : Statement (.setGroup bits args) := of_none _ rfl
theorem start (bits : Nat) : Statement (.start bits) := of_none _ rfl
theorem voltageZeroCrossing (bank : Bank) (edge : Edge) (micros : Fin 1000) (half : HalfMeasure) (window : WindowMeasure) : Statement (.voltageZeroCrossing bank edge micros half window) := of_none _ rfl
theorem currentZeroCrossing (outlet : OutletId) (micros : Fin 1000) (peak : Nat) : Statement (.currentZeroCrossing outlet micros peak) := of_none _ rfl
theorem halfCycleTimeout (bank : Bank) (half : HalfMeasure) : Statement (.halfCycleTimeout bank half) := of_none _ rfl
theorem instantTrip (outlet : OutletId) (magnitude : Nat) : Statement (.instantTrip outlet magnitude) := of_none _ rfl
theorem windowTimeout (bank : Bank) (window : WindowMeasure) : Statement (.windowTimeout bank window) := of_none _ rfl
theorem noCrossingTimeout (bank : Bank) : Statement (.noCrossingTimeout bank) := of_none _ rfl
theorem recoveryTimerExpiry (bank : Bank) : Statement (.recoveryTimerExpiry bank) := of_none _ rfl
theorem closingAlignExpiry (outlet : OutletId) : Statement (.closingAlignExpiry outlet) := of_none _ rfl
theorem openingAlignExpiry (outlet : OutletId) : Statement (.openingAlignExpiry outlet) := of_none _ rfl
theorem coilPulseEnd (outlet : OutletId) : Statement (.coilPulseEnd outlet) := of_none _ rfl
theorem closingSettleEnd (outlet : OutletId) : Statement (.closingSettleEnd outlet) := of_none _ rfl
theorem openingSettleEnd (outlet : OutletId) : Statement (.openingSettleEnd outlet) := of_none _ rfl
theorem localDwellExpiry (outlet : OutletId) : Statement (.localDwellExpiry outlet) := of_none _ rfl
theorem claimWaitExpiry (outlet : OutletId) : Statement (.claimWaitExpiry outlet) := of_none _ rfl
theorem scheduledStatus : Statement (.scheduledStatus) := of_none _ rfl
theorem busIdleOffer (rivals : List Nat) : Statement (.busIdleOffer rivals) := of_none _ rfl
theorem attemptFailed (mismatch : Bool) : Statement (.attemptFailed mismatch) := of_none _ rfl
theorem failedFrame (reception : Reception) : Statement (.failedFrame reception) := of_none _ rfl
theorem joinApply (source : StationId) (payload : JoinPayload) : Statement (.joinApply source payload) := of_some _ source (.join payload) rfl
theorem statusApply (source : StationId) (payload : Banked StatusBank) : Statement (.statusApply source payload) := of_some _ source (.status payload) rfl
theorem forgetApply (source station : StationId) : Statement (.forgetApply source station) := of_some _ source (.forget station) rfl
theorem claimApply (source : StationId) (payload : ClaimPayload) : Statement (.claimApply source payload) := of_some _ source (.claim payload) rfl
theorem openGroupApply (source : StationId) (payload : OpenGroupPayload) : Statement (.openGroupApply source payload) := of_some _ source (.openGroup payload) rfl
theorem groupOffApply (source : StationId) (payload : GroupOffPayload) : Statement (.groupOffApply source payload) := of_some _ source (.groupOff payload) rfl
theorem groupOnApply (source : StationId) (payload : GroupOnPayload) : Statement (.groupOnApply source payload) := of_some _ source (.groupOn payload) rfl
theorem groupAbortApply (source : StationId) (payload : GroupAbortPayload) : Statement (.groupAbortApply source payload) := of_some _ source (.groupAbort payload) rfl
theorem offGatherExpiry (group : Nat) : Statement (.offGatherExpiry group) := of_none _ rfl
theorem dwellExpiry (group : Nat) : Statement (.dwellExpiry group) := of_none _ rfl
theorem onGatherExpiry (group : Nat) : Statement (.onGatherExpiry group) := of_none _ rfl
theorem peerLivenessExpiry (station : StationId) : Statement (.peerLivenessExpiry station) := of_none _ rfl
theorem joiningTimerExpiry : Statement (.joiningTimerExpiry) := of_none _ rfl
theorem quietTimerExpiry : Statement (.quietTimerExpiry) := of_none _ rfl
theorem hostReplyCapture (what : PortCapture) : Statement (.hostReplyCapture what) := of_none _ rfl
theorem invalidHostFrame (bits : Nat) (command : Byte) : Statement (.invalidHostFrame bits command) := of_none _ rfl

end Sys2Proof.Laws.Carried
end

