-- ==== Sys2Proof/Laws/Table.lean ====
section
/-! SUPPORT. The peer table, the branch conflicts and the group entries, which the group engine, the outlets and the overload shedding leave as they are. -/

namespace Sys2Proof.Machine

/-- The peer table, the conflicts, the group entries with their rosters, and what they are compared with. -/
def State.table (s : State) : Tab 16 Peer × NumberSet × List GroupEntry × Banked BankConfig × StationId :=
  (s.peers, s.conflicts, s.groups, s.banks, s.station)

theorem table_eq {s t : State} (h : t.table = s.table) :
    t.peers = s.peers ∧ t.conflicts = s.conflicts ∧ t.groups = s.groups ∧ t.banks = s.banks ∧ t.station = s.station := by
  simpa [State.table] using h

theorem table_of {s t : State} (h1 : t.peers = s.peers) (h2 : t.conflicts = s.conflicts) (h3 : t.groups = s.groups) (h4 : t.banks = s.banks)
    (h5 : t.station = s.station) : t.table = s.table := by simp [State.table, *]

theorem table_foldl {α : Type} {f : State → α → State} (h : ∀ t x, (f t x).table = t.table) (l : List α) (s : State) : (l.foldl f s).table = s.table := by
  induction l generalizing s with
  | nil => rfl
  | cons x l ih => rw [List.foldl_cons, ih, h]

@[simp] theorem table_modOutlet (s : State) o f : (s.modOutlet o f).table = s.table := rfl
@[simp] theorem table_place (s : State) o st sub : (s.place o st sub).table = s.table := rfl
@[simp] theorem table_modRecord (s : State) g f : (s.modRecord g f).table = s.table := rfl
@[simp] theorem table_setStatus (s : State) g o st : (s.setStatus g o st).table = s.table := rfl
@[simp] theorem table_modClaim (s : State) b f : (s.modClaim b f).table = s.table := rfl
@[simp] theorem table_modOver (s : State) n f : (s.modOver n f).table = s.table := rfl
@[simp] theorem table_modLink (s : State) f : (s.modLink f).table = s.table := rfl
@[simp] theorem table_post (s : State) k a b c : (s.post k a b c).table = s.table := table_of (by simp) (by simp) (by simp) (by simp) (by simp)
@[simp] theorem table_offerStatus (s : State) : s.offerStatus.table = s.table := table_of (by simp) (by simp) (by simp) (by simp) (by simp)
@[simp] theorem table_offerJoin (s : State) r : (s.offerJoin r).table = s.table := table_of (by simp) (by simp) (by simp) (by simp) (by simp)
@[simp] theorem table_removeFrames (s : State) p : (s.removeFrames p).table = s.table := table_of (by simp) (by simp) (by simp) (by simp) (by simp)
@[simp] theorem table_dropClaim (s : State) o : (s.dropClaim o).table = s.table := table_of (by simp) (by simp) (by simp) (by simp) (by simp)
@[simp] theorem table_joinQueue (s : State) o : (s.joinQueue o).table = s.table := table_of (by simp) (by simp) (by simp) (by simp) (by simp)
@[simp] theorem table_leaveClaiming (s : State) o : (s.leaveClaiming o).table = s.table := table_of (by simp) (by simp) (by simp) (by simp) (by simp)
@[simp] theorem table_triggerRetries (s : State) p : (s.triggerRetries p).table = s.table := table_of (by simp) (by simp) (by simp) (by simp) (by simp)
@[simp] theorem table_enterClaiming (s : State) o : (s.enterClaiming o).table = s.table := by unfold State.enterClaiming; simp

@[simp] theorem table_enterOpening (s : State) o : (s.enterOpening o).table = s.table := by
  unfold State.enterOpening; split <;> simp <;> rfl

theorem table_offer {s t : State} {u : Nat} {f : PeerFrame} (h : s.offer u f = some t) : t.table = s.table := by
  unfold State.offer at h; split at h
  · cases h; rfl
  · cases h

@[simp] theorem table_finishCycle (s : State) g out : (s.finishCycle g out).table = s.table := by
  unfold State.finishCycle; split
  · rfl
  · rw [table_post]; unfold State.releaseMembers
    rw [table_foldl (f := fun t (m : Member) => t.modOutlet m.outlet Outlet.releaseMember) (fun _ _ => rfl)]; rfl

@[simp] theorem table_checkAbortDone (s : State) g : (s.checkAbortDone g).table = s.table := by
  unfold State.checkAbortDone; split
  · rfl
  · split
    · split <;> simp
    · rfl

@[simp] theorem table_restoreByAbort (s : State) o : (s.restoreByAbort o).table = s.table := by unfold State.restoreByAbort; simp

@[simp] theorem table_abortCycle (s : State) g r : (s.abortCycle g r).table = s.table := by
  unfold State.abortCycle; split
  · rfl
  · rw [table_checkAbortDone, table_foldl (fun t o => table_restoreByAbort t o)]; rfl

@[simp] theorem table_actAbort (s : State) g r : (s.actAbort g r).table = s.table := by
  unfold State.actAbort; split
  · rfl
  · split <;> simp

theorem table_queueAbort {s t : State} {r : CycleRecord} {a : AbortReason} (h : s.queueAbort r a = some t) : t.table = s.table := by
  unfold State.queueAbort at h; simp only at h; split at h
  · cases h; simp
  · rw [table_offer h]; simp

@[simp] theorem table_offerAbort (s : State) g r : (s.offerAbort g r).table = s.table := by
  unfold State.offerAbort; split
  · rfl
  · split
    · rfl
    · split
      · rename_i h; exact table_queueAbort h
      · unfold State.abortNotQueued; simp

@[simp] theorem table_maybeGroupOff (s : State) g : (s.maybeGroupOff g).table = s.table := by
  unfold State.maybeGroupOff; split
  · rfl
  · split
    · simp only; split
      · rename_i h; rw [table_offer h]; rfl
      · simp
    · rfl

@[simp] theorem table_maybeGroupOn (s : State) g : (s.maybeGroupOn g).table = s.table := by
  unfold State.maybeGroupOn; split
  · rfl
  · split
    · simp only; split
      · rename_i h; rw [table_offer h]; rfl
      · simp
    · rfl

@[simp] theorem table_removeAwaited (s : State) g k : (s.removeAwaited g k).table = s.table := by
  unfold State.removeAwaited; split
  · rfl
  · split
    · simp only; split
      · split <;> simp [State.startDwell]
      · rfl
    · rfl

@[simp] theorem table_groupJoin (before : State) source p (s : State) g : (State.groupJoin before source p s g).table = s.table := by
  unfold State.groupJoin; split
  · rfl
  · simp only; split <;> split <;> simp

@[simp] theorem table_groupLost k (s : State) g : (State.groupLost k s g).table = s.table := by
  unfold State.groupLost; split
  · rfl
  · split
    · split <;> simp
    · rfl

@[simp] theorem table_endHolds (s : State) k : (s.endHolds k).table = s.table := rfl

@[simp] theorem table_reportOverload (s : State) n d : (s.reportOverload n d).table = s.table := by
  unfold State.reportOverload; split <;> simp

@[simp] theorem table_shedOn (s : State) n : (s.shedOn n).table = s.table := by unfold State.shedOn; split <;> simp

@[simp] theorem table_designate (s : State) n : (s.designate n).table = s.table := by
  unfold State.designate; split
  · simp
  · simp only; split <;> simp

@[simp] theorem table_evaluate (s : State) n : (s.evaluate n).table = s.table := by
  unfold State.evaluate; simp only; split
  · split <;> simp
  · simp

@[simp] theorem table_overloadAfter (s : State) k : (s.overloadAfter k).table = s.table :=
  table_foldl (fun t n => by
    unfold State.overloadStep; split
    · split <;> simp
    · split <;> simp) _ _

@[simp] theorem table_endClaims (s : State) p : (s.endClaims p).table = s.table := rfl

theorem hasNumber_removeNumber (s : NumberSet) (k j : Fin 16) : hasNumber (removeNumber s k) j = (hasNumber s j && !decide (j = k)) := by
  simp only [hasNumber, removeNumber]
  have := k.isLt; have := j.isLt
  simp only [BitVec.getLsbD_and, BitVec.getLsbD_not, BitVec.getLsbD_shiftLeft, BitVec.getLsbD_one]
  congr 1
  by_cases h : j = k
  · subst h; simp
  · have : j.val ≠ k.val := fun e => h (Fin.ext e)
    rcases Nat.lt_or_gt_of_ne this with h1 | h1
    · simp [h, h1]
    · simp [h]; omega

theorem entryDiffers_congr {s t : State} (h1 : t.peers = s.peers) (h2 : t.banks = s.banks) (h3 : t.station = s.station) (n k) : t.entryDiffers n k = s.entryDiffers n k := by
  unfold State.entryDiffers State.peer State.ownLimit State.ownBanksOn State.bank
  rw [h1, h2, h3]

theorem recheckConflicts_spec (s : State) (k : StationId) (n : BranchId) :
    (s.recheckConflicts k).peers = s.peers ∧ (s.recheckConflicts k).groups = s.groups ∧ (s.recheckConflicts k).banks = s.banks ∧ (s.recheckConflicts k).station = s.station ∧ hasNumber (s.recheckConflicts k).conflicts n = (hasNumber s.conflicts n && allNumbers.any (s.entryDiffers n)) := by
  have gen : ∀ (l : List BranchId) (t : State), t.peers = s.peers → t.banks = s.banks → t.station = s.station → t.groups = s.groups → 
      (l.foldl (State.clearConflict k) t).peers = s.peers ∧ (l.foldl (State.clearConflict k) t).groups = s.groups ∧ (l.foldl (State.clearConflict k) t).banks = s.banks ∧ (l.foldl (State.clearConflict k) t).station = s.station ∧
      hasNumber (l.foldl (State.clearConflict k) t).conflicts n = (hasNumber t.conflicts n && (!decide (n ∈ l) || allNumbers.any (s.entryDiffers n))) := by
    intro l
    induction l with
    | nil => intro t h1 h2 h3 h4; exact ⟨h1, h4, h2, h3, by simp⟩
    | cons m l ih =>
      intro t h1 h2 h3 h4
      rw [List.foldl_cons]
      have hE : t.entryDiffers m = s.entryDiffers m := funext fun k => entryDiffers_congr h1 h2 h3 m k
      have hc : hasNumber (State.clearConflict k t m).conflicts n = (hasNumber t.conflicts n && (!decide (n = m) || allNumbers.any (s.entryDiffers n))) := by
        unfold State.clearConflict; rw [hE]
        split
        · rename_i c
          simp only [post_conflicts, hasNumber_removeNumber]
          by_cases e : n = m
          · subst e
            have : allNumbers.any (s.entryDiffers n) = false := by
              simp only [Bool.and_eq_true] at c; simpa using c.2
            rw [this]; simp
          · simp [e]
        · rename_i c
          by_cases e : n = m
          · subst e
            cases h5 : hasNumber t.conflicts n <;> cases h6 : allNumbers.any (s.entryDiffers n) <;> simp_all
          · simp [e]
      have hp : (State.clearConflict k t m).peers = s.peers ∧ (State.clearConflict k t m).banks = s.banks ∧ (State.clearConflict k t m).station = s.station ∧ (State.clearConflict k t m).groups = s.groups := by
        unfold State.clearConflict; split <;> simp [h1, h2, h3, h4]
      obtain ⟨r1, r2, r3, r4, r5⟩ := ih _ hp.1 hp.2.1 hp.2.2.1 hp.2.2.2
      refine ⟨r1, r2, r3, r4, ?_⟩
      rw [r5, hc]
      generalize allNumbers.any (s.entryDiffers n) = A
      by_cases e : n = m <;> by_cases e2 : n ∈ l <;> cases hasNumber t.conflicts n <;> cases A <;> simp [e, e2]
  have := gen allNumbers s rfl rfl rfl rfl
  simpa [State.recheckConflicts, mem_allNumbers] using this

theorem checkConflicts_spec (s : State) (k : StationId) (p : JoinPayload) (n : BranchId) :
    (s.checkConflicts k p).peers = s.peers.set k { s.peer k with conflict := !(allNumbers.filter (s.joinDiffers p)).isEmpty } ∧ (s.checkConflicts k p).groups = s.groups ∧
      (s.checkConflicts k p).banks = s.banks ∧ (s.checkConflicts k p).station = s.station ∧
      hasNumber (s.checkConflicts k p).conflicts n = (hasNumber s.conflicts n || s.joinDiffers p n) := by
  have gen : ∀ (l : List BranchId) (t : State),
      (l.foldl (State.setConflict k) t).peers = t.peers ∧ (l.foldl (State.setConflict k) t).groups = t.groups ∧ (l.foldl (State.setConflict k) t).banks = t.banks ∧ (l.foldl (State.setConflict k) t).station = t.station ∧
      hasNumber (l.foldl (State.setConflict k) t).conflicts n = (hasNumber t.conflicts n || decide (n ∈ l)) := by
    intro l
    induction l with
    | nil => intro t; simp
    | cons m l ih =>
      intro t
      rw [List.foldl_cons]
      obtain ⟨r1, r2, r3, r4, r5⟩ := ih (State.setConflict k t m)
      rw [r1, r2, r3, r4, r5]
      unfold State.setConflict
      split
      · rename_i c
        refine ⟨rfl, rfl, rfl, rfl, ?_⟩
        by_cases e : n = m
        · subst e; simp [c]
        · simp [e]
      · simp only [post_peers, post_groups, post_banks, post_station, post_conflicts, hasNumber_addNumber, true_and]
        by_cases e : n = m
        · subst e; simp
        · simp [e]
  have := gen (allNumbers.filter (s.joinDiffers p)) (s.modPeer k (fun e => { e with conflict := !(allNumbers.filter (s.joinDiffers p)).isEmpty }))
  simpa [State.checkConflicts, mem_allNumbers, State.modPeer] using this

theorem storedGroups_spec (l : List Nat) : (∀ g, g ∈ storedGroups l ↔ g ∈ l ∧ g ≠ 0) ∧ (storedGroups l).Pairwise (· < ·) := by
  have ins : ∀ x (t : List Nat), t.Pairwise (· < ·) → (insertAscending x t).Pairwise (· < ·) ∧ ∀ g, g ∈ insertAscending x t ↔ g = x ∨ g ∈ t := by
    intro x t; induction t with
    | nil => intro _; simp [insertAscending]
    | cons y t ih =>
      intro h
      rw [List.pairwise_cons] at h
      unfold insertAscending
      split
      · rename_i e; subst e; exact ⟨List.pairwise_cons.2 h, by simp⟩
      · split
        · rename_i e1 e2; refine ⟨?_, by simp⟩
          simp only [List.pairwise_cons, List.mem_cons]; refine ⟨?_, h.1, h.2⟩
          rintro z (rfl | hz); exact e2; exact Nat.lt_trans e2 (h.1 z hz)
        · rename_i e1 e2
          obtain ⟨r1, r2⟩ := ih h.2
          refine ⟨?_, ?_⟩
          · rw [List.pairwise_cons]; refine ⟨fun z hz => ?_, r1⟩
            rw [r2] at hz; rcases hz with rfl | hz; omega; exact h.1 z hz
          · intro g; simp only [List.mem_cons, r2]; constructor <;> (rintro (h | h | h) <;> simp [h])
  have gen : ∀ (l t : List Nat), t.Pairwise (· < ·) → (l.foldl (fun t g => insertAscending g t) t).Pairwise (· < ·) ∧ ∀ g, g ∈ l.foldl (fun t g => insertAscending g t) t ↔ g ∈ t ∨ g ∈ l := by
    intro l; induction l with
    | nil => intro t h; simp [h]
    | cons x l ih =>
      intro t h
      rw [List.foldl_cons]
      obtain ⟨a, b⟩ := ins x t h
      obtain ⟨c, d⟩ := ih _ a
      refine ⟨c, fun g => ?_⟩
      rw [d, b, List.mem_cons]; constructor
      · rintro ((h | h) | h) <;> simp [h]
      · rintro (h | h | h) <;> simp [h]
  obtain ⟨a, b⟩ := gen (l.filter (fun g => decide (g ≠ 0))) [] List.Pairwise.nil
  exact ⟨fun g => by unfold storedGroups; rw [b]; simp, a⟩

theorem limitDiffers_iff (m : Banked BranchId) (l : Banked Nat) (n own) : limitDiffers m l n own = true ↔ ∃ b, m.get b = n ∧ l.get b ≠ own := by
  simp [limitDiffers, allBanks]
  constructor
  · rintro (h | h | h) <;> exact ⟨_, h⟩
  · rintro ⟨b, h⟩; cases b <;> simp [h]

end Sys2Proof.Machine
end

