-- ==== Sys2Proof/Laws/Wire.lean ====
section
/-! SUPPORT. Reading back the bits of a field, and of a run of fields. -/

namespace Sys2Proof.Machine

@[simp] theorem natBits_length (w n : Nat) : (natBits w n).length = w := by
  induction w with
  | zero => rfl
  | succ w ih => simp [natBits, ih]

theorem bitsNat_foldl (l : List Bool) (n : Nat) : l.foldl (fun n b => 2 * n + b.toNat) n = n * 2 ^ l.length + bitsNat l := by
  induction l generalizing n with
  | nil => simp [bitsNat]
  | cons b l ih =>
    unfold bitsNat at *
    simp only [List.foldl_cons, List.length_cons]
    rw [ih, ih (2 * 0 + b.toNat), Nat.pow_succ, Nat.add_mul, Nat.add_mul]
    have : 2 * n * 2 ^ l.length = n * (2 ^ l.length * 2) := by rw [Nat.mul_comm 2 n, Nat.mul_assoc, Nat.mul_comm 2]
    omega

theorem bitsNat_cons (b : Bool) (l : List Bool) : bitsNat (b :: l) = b.toNat * 2 ^ l.length + bitsNat l := by
  show List.foldl _ (2 * 0 + b.toNat) l = _
  rw [bitsNat_foldl]; simp

/-- The bits of a number read back as its low bits. -/
theorem bitsNat_natBits (w n : Nat) : bitsNat (natBits w n) = n % 2 ^ w := by
  induction w with
  | zero => simp [natBits, bitsNat, Nat.mod_one]
  | succ w ih =>
    rw [natBits, bitsNat_cons, natBits_length, ih, Nat.toNat_testBit, Nat.pow_succ, Nat.mod_mul, Nat.mul_comm, Nat.add_comm]

/-- A field of a number that fits is read back, with what follows it. -/
theorem readField_natBits {w n : Nat} (h : n < 2 ^ w) (l : List Bool) : readField w (natBits w n ++ l) = some (n, l) := by
  unfold readField
  rw [if_pos (by simp)]
  simp [List.take_left', List.drop_left', bitsNat_natBits, Nat.mod_eq_of_lt h]

/-- Fields of numbers that fit are read back, with what follows them. -/
theorem readFields_fieldBits (fs : List Field) (h : ∀ f ∈ fs, f.2 < 2 ^ f.1) (l : List Bool) :
    readFields (fs.map (·.1)) (fs.flatMap fieldBits ++ l) = some (fs.map (·.2), l) := by
  induction fs with
  | nil => rfl
  | cons f fs ih =>
    simp only [List.map_cons, List.flatMap_cons, List.append_assoc, readFields, fieldBits]
    rw [readField_natBits (h f (by simp))]
    dsimp only
    rw [ih (fun g hg => h g (by simp [hg]))]

/-- The key of a frame, split into its class, its urgency and its station (R66). -/
theorem natBits_key (c u k : Nat) (hu : u < 8) (hk : k < 16) : natBits 10 (c * 128 + u * 16 + k) = natBits 3 c ++ natBits 3 u ++ natBits 4 k := by
  have hb : ∀ i, (c * 128 + u * 16 + k).testBit i = if i < 4 then k.testBit i else if i < 7 then u.testBit (i - 4) else c.testBit (i - 7) := by
    intro i
    have h1 : c * 128 + u * 16 + k = 2 ^ 7 * c + (u * 16 + k) := by omega
    have h2 : u * 16 + k = 2 ^ 4 * u + k := by omega
    rw [h1, Nat.testBit_two_pow_mul_add _ (by omega : u * 16 + k < 2 ^ 7)]
    by_cases h7 : i < 7
    · rw [if_pos h7, h2, Nat.testBit_two_pow_mul_add _ (by omega : k < 2 ^ 4)]
      by_cases h4 : i < 4 <;> simp [h4, h7]
    · rw [if_neg h7, if_neg (by omega), if_neg h7]
  simp [natBits, hb]

/-! Payloads. -/

theorem tagByte_lt (t : Tag) : tagByte t < 256 := by have := t.station.isLt; have := t.seq.isLt; unfold tagByte; omega
theorem tagOfByte_tagByte (t : Tag) : tagOfByte (tagByte t) = t := by
  cases t with | mk a b =>
  have := a.isLt; have := b.isLt
  simp only [tagOfByte, tagByte, Tag.mk.injEq]
  constructor <;> apply Fin.ext <;> simp [Fin.ofNat] <;> omega

/-- Every payload field of a frame in range fits its width (R189). -/
theorem payloadFields_fit (f : PeerFrame) (h : payloadInRange f = true) : ∀ x ∈ payloadFields f, x.2 < 2 ^ x.1 := by
  cases f with
  | join p =>
    simp only [payloadInRange, Banked.all, inRange, Bool.and_eq_true, decide_eq_true_eq, List.all_eq_true] at h
    intro x hx
    simp only [payloadFields, List.mem_append, List.mem_cons, List.mem_map, List.not_mem_nil, or_false] at hx
    have ha := p.map.a.isLt; have hb := p.map.b.isLt; have hc := p.map.c.isLt; have hs := p.serial.isLt
    rcases hx with h1 | ⟨g, hg, rfl⟩
    · rcases h1 with rfl|rfl|rfl|rfl|rfl|rfl|rfl|rfl|rfl|rfl|rfl|rfl <;> simp only <;> first | exact hs | (unfold bitAt; split <;> decide) | omega
    · have := h.2 g hg; simp only; omega
  | status p =>
    simp only [payloadInRange, statusBankInRange, inRange, Bool.and_eq_true, decide_eq_true_eq] at h
    intro x hx
    simp only [payloadFields, List.mem_cons, List.not_mem_nil, or_false] at hx
    rcases hx with rfl|rfl|rfl|rfl|rfl|rfl|rfl|rfl|rfl|rfl|rfl|rfl <;> simp only <;> first | omega | (unfold bankFlagsByte bitAt; split <;> split <;> decide)
  | claim p =>
    simp only [payloadInRange, inRange, Bool.and_eq_true, decide_eq_true_eq] at h
    intro x hx
    simp only [payloadFields, List.mem_cons, List.not_mem_nil, or_false] at hx
    have := p.outlet.isLt; have := p.branch.isLt
    rcases hx with rfl|rfl|rfl|rfl <;> simp only [outletNo] <;> first | omega | (cases p.bank <;> decide)
  | forget k => intro x hx; simp only [payloadFields, List.mem_cons, List.not_mem_nil, or_false] at hx; subst hx; have := k.isLt; simp only; omega
  | openGroup p =>
    simp only [payloadInRange, inRange, Bool.and_eq_true, decide_eq_true_eq] at h
    intro x hx
    simp only [payloadFields, List.mem_cons, List.not_mem_nil, or_false] at hx
    have := tagByte_lt p.tag
    rcases hx with rfl|rfl|rfl|rfl <;> simp only <;> first | omega | (cases p.policy <;> decide)
  | groupOff p =>
    simp only [payloadInRange, inRange, Bool.and_eq_true, decide_eq_true_eq] at h
    intro x hx
    simp only [payloadFields, List.mem_cons, List.not_mem_nil, or_false] at hx
    have := tagByte_lt p.tag
    rcases hx with rfl|rfl|rfl|rfl <;> simp only <;> omega
  | groupOn p =>
    simp only [payloadInRange, inRange, Bool.and_eq_true, decide_eq_true_eq] at h
    intro x hx
    simp only [payloadFields, List.mem_cons, List.not_mem_nil, or_false] at hx
    have := tagByte_lt p.tag
    rcases hx with rfl|rfl|rfl|rfl <;> simp only <;> omega
  | groupAbort p =>
    simp only [payloadInRange, inRange, Bool.and_eq_true, decide_eq_true_eq] at h
    intro x hx
    simp only [payloadFields, List.mem_cons, List.not_mem_nil, or_false] at hx
    have := tagByte_lt p.tag
    rcases hx with rfl|rfl|rfl <;> simp only <;> first | omega | (cases p.reason <;> decide)

/-- A receiver reads the widths that were sent. -/
theorem payloadWidths_eq (f : PeerFrame) (h : payloadInRange f = true) : payloadWidths (frameKind f) (payloadLength f) = (payloadFields f).map (·.1) := by
  cases f <;> try rfl
  rename_i p
  simp only [frameKind, payloadLength, payloadWidths, payloadFields, List.map_append, List.map_cons, List.map_nil, List.map_map]
  congr 1
  rw [show 23 + p.groups.length - 23 = p.groups.length by omega]
  induction p.groups <;> simp_all [List.replicate_succ]

/-- The field values of a frame spell the frame (11.4). -/
theorem payloadOf_fields (f : PeerFrame) (h : payloadInRange f = true) : payloadOf (frameKind f) ((payloadFields f).map (·.2)) = some f := by
  cases f with
  | join p =>
    have e : (p.groups.map ((fun x : Field => x.2) ∘ fun g => ((8, g) : Field))) = p.groups := by induction p.groups <;> simp_all
    simp only [payloadFields, frameKind, List.map_append, List.map_cons, List.map_nil, List.map_map, payloadOf, List.cons_append, List.nil_append]
    rw [e]
    have n (x : Fin 16) : numberOf x.val = some x := by unfold numberOf; rw [dif_pos x.isLt]
    rw [n, n, n]
    have : BitVec.ofNat 48 p.serial.toNat = p.serial := by simp
    rw [this]
    have : (bitAt 7 p.replyRequested).testBit 7 = p.replyRequested := by cases p.replyRequested <;> rfl
    rw [this]
  | status p =>
    have b (x : StatusBank) : statusBankOf x.load x.held x.rank (bankFlagsByte x.sag x.recovering) = x := by
      cases x with | mk l h r s q => cases s <;> cases q <;> simp [statusBankOf, bankFlagsByte, bitAt, Nat.testBit]
    simp only [payloadFields, frameKind, List.map_cons, List.map_nil, payloadOf, b]
  | claim p =>
    cases p with | mk b n o a =>
    have hb : bankOfCode (bankNo b) = some b := by cases b <;> rfl
    have hn : numberOf n.val = some n := by unfold numberOf; rw [dif_pos n.isLt]
    have ho : outletOfNo (outletNo o) = some o := by unfold outletOfNo outletNo; have := o.isLt; rw [dif_pos (by omega)]; simp
    simp only [payloadFields, frameKind, List.map_cons, List.map_nil, payloadOf, hb, hn, ho]
  | forget k =>
    have hn : numberOf k.val = some k := by unfold numberOf; rw [dif_pos k.isLt]
    simp only [payloadFields, frameKind, List.map_cons, List.map_nil, payloadOf, hn]; rfl
  | openGroup p =>
    have hp : policyOfCode (policyCode p.policy) = some p.policy := by cases p.policy <;> rfl
    simp only [payloadFields, frameKind, List.map_cons, List.map_nil, payloadOf, hp, tagOfByte_tagByte]; rfl
  | groupOff p => simp only [payloadFields, frameKind, List.map_cons, List.map_nil, payloadOf, tagOfByte_tagByte]
  | groupOn p => simp only [payloadFields, frameKind, List.map_cons, List.map_nil, payloadOf, tagOfByte_tagByte]
  | groupAbort p =>
    have hp : abortReasonOfCode (abortReasonCode p.reason) = some p.reason := by cases p.reason <;> rfl
    simp only [payloadFields, frameKind, List.map_cons, List.map_nil, payloadOf, hp, tagOfByte_tagByte]; rfl

theorem payloadBits_length (f : PeerFrame) (h : payloadInRange f = true): (payloadBits f).length = 8 * payloadLength f := by
  cases f <;> try rfl
  all_goals simp [payloadBits, payloadFields, fieldBits, payloadLength, List.flatMap_append, List.length_flatMap]
  rename_i p
  have : (p.groups.map (fun x => 8 : Nat → Nat)).sum = 8 * p.groups.length := by induction p.groups <;> simp_all <;> omega
  simp [List.map_map, Function.comp_def] at *
  omega

end Sys2Proof.Machine
end

