-- ==== Sys2Proof/Tests/Slice0.lean ====
section
/-! SUPPORT. Tests of the model's own: ill-formed commands that the check refuses, small steps, and states that meet the hypotheses of the statements. -/

set_option Elab.async false

namespace Sys2Proof.Tests
open Sys2Proof Sys2Proof.Machine

/-! Ill-formed commands, one for each check. -/

def half8 : HalfMeasure := ⟨2300, List.replicate 8 0, List.replicate 8 0⟩
def window8 : WindowMeasure := ⟨2300, List.replicate 8 0, List.replicate 8 0⟩

theorem test_refuses_direction_zero_in_switch_on : wellFormed (.switchOn 24 1 0) = false := by decide
theorem test_refuses_valid_frame_as_invalid : wellFormed (.invalidHostFrame 8 0x01) = false := by decide
theorem test_refuses_empty_invalid_frame : wellFormed (.invalidHostFrame 0 0xFF) = false := by decide
theorem test_refuses_short_half_measure : wellFormed (.halfCycleTimeout .bankA ⟨2300, [0], List.replicate 8 0⟩) = false := by decide
theorem test_refuses_short_peaks : wellFormed (.voltageZeroCrossing .bankA .rising 0 ⟨2300, List.replicate 8 0, []⟩ window8) = false := by decide
theorem test_refuses_short_window : wellFormed (.windowTimeout .bankA ⟨2300, List.replicate 8 0, []⟩) = false := by decide
theorem test_refuses_small_instant_trip : wellFormed (.instantTrip 0 6000) = false := by decide
theorem test_refuses_wide_rival_key : wellFormed (.busIdleOffer [640]) = false := by decide
theorem test_refuses_carried_as_failed : wellFormed (.failedFrame ⟨(queuedFrame 7 3 (.forget 5)).bits, false, false⟩) = false := by decide +kernel
theorem test_refuses_group_zero : wellFormed (.offGatherExpiry 0) = false ∧ wellFormed (.dwellExpiry 256) = false ∧ wellFormed (.onGatherExpiry 0) = false := by decide
theorem test_refuses_payload_out_of_range : wellFormed (.claimApply 1 ⟨.bankA, 0, 0, 0⟩) = false := by decide
theorem test_accepts_each_measure :
    wellFormed (.voltageZeroCrossing .bankB .falling 999 half8 window8) = true ∧ wellFormed (.switchOn 24 24 1) = true ∧
      wellFormed (.instantTrip 23 6001) = true ∧ wellFormed (.busIdleOffer [639]) = true := by decide

/-! No row of the table gives bits. -/

theorem test_no_word_spells_a_command : ∀ nbits w, decodeTableWord nbits w = none := fun _ _ => rfl
theorem test_no_word_changes_the_queue : ∀ s nbits w, State.withFetchWord s nbits w = s := fun _ _ _ => rfl

/-! Boards to start from. -/

/-- A running board in ACTIVE, alone on its branches. -/
def board : State := { State.reset with phase := .running, link := { Link.reset with state := .active } }

/-- The board with outlet 1 in a state, its timer at 5 ms. -/
def inState (st : OutletState) (sub : Option SubPhase) : State :=
  board.setOutlet 0 { Outlet.place st sub Outlet.reset with stateTimer := some 5 }

/-- The board with outlet 1's record rewritten. -/
def tweak (s : State) (f : Outlet → Outlet) : State := s.modOutlet 0 f

/-- The board with bank A's line record in a state. -/
def inLine (st : LineState) : State := board.modLine .bankA (fun l => { l with state := st, recovery := some 1, sagStart := some 0 })

/-- The board in a link state. -/
def inLink (st : LinkState) : State := { board with link := { Link.reset with state := st, joining := some 1, quiet := some 1 } }

/-- A cycle record of group 9 in a phase, with outlet 1 as its member. -/
def cycleIn (ph : CyclePhase) (st : MemberStatus) : CycleRecord :=
  { group := 9, tag := ⟨2, 1⟩, dwell := 10, policy := .strict, phase := ph, awaited := 0x1, early := 0, gOpened := 0, gHeld := 0, gRestored := 0,
    gFailed := 0, offTimer := some 1, dwellTimer := some 1, onTimer := some 1, abortOffered := false, offOffered := false, onOffered := false,
    members := [⟨0, st, false⟩], outcome := none }

/-- The board with group 9 and such a record. -/
def inCycle (ph : CyclePhase) (st : MemberStatus) : State :=
  { board.modOutlet 0 (fun x => { x with cfg := { x.cfg with group := 9 } }) with
    groups := [⟨9, 10, .strict, none, 0x1⟩], records := [cycleIn ph st] }

/-- Every place of an outlet in the table of R2. -/
def places : List (OutletState × Option SubPhase) :=
  [(.off, none), (.claiming, none), (.closing, some .align), (.closing, some .coil), (.closing, some .settle), (.on, none),
    (.opening, some .align), (.opening, some .settle), (.dwell, none), (.shed, none), (.tripped, none)]

/-- In every place the board is out of reset and running, the outlet's record is consistent, unprotected and in no group cycle. -/
theorem test_every_place_is_reached : ∀ p ∈ places,
    (inState p.1 p.2).inReset = false ∧ (inState p.1 p.2).phase = .running ∧ ((inState p.1 p.2).outlet 0).state = p.1 ∧
      ((inState p.1 p.2).outlet 0).sub = p.2 ∧ ((inState p.1 p.2).outlet 0).consistent ∧ ((inState p.1 p.2).outlet 0).isProtected = false ∧
      ((inState p.1 p.2).outlet 0).cycle ≠ .group ∧ ((inState p.1 p.2).outlet 0).stateTimer = some 5 := by decide


/-! Small steps. -/

/-- The state a command leaves. -/
def after (c : Instr) (s : State) : State :=
  match exec c s with
  | .next t => t
  | _ => s

theorem test_power_on_reset_is_reset : after (.powerOnReset jumpersRemoved false) board = State.reset := by decide +kernel
theorem test_reset_has_empty_queue : State.reset.pending = [] := rfl
theorem test_jumpers_give_the_station : (State.reset.sampleInputs ⟨true, false, true, true, false, false⟩ false).station = 11 := by decide
theorem test_tick_moves_board_time : step board = .next (board.passTime 1) := rfl
theorem test_read_status_reports_running : board.statusByte = 1 := by decide
theorem test_status_reply_is_21_bytes : board.statusReply.length = 21 := by decide
theorem test_switch_on_claims :
    (((after (.switchOn 24 1 1) board).outlet 0).state = .claiming ∧ (after (.switchOn 24 1 1) board).link.queue.length = 1) := by
  decide +kernel
theorem test_protected_outlet_is_refused :
    ((after (.switchOff 24 1) (tweak board (fun x => { x with isProtected := true }))).port.slot = ⟨.protectedSet, 0⟩) := by decide +kernel
theorem test_short_frame_sets_rej :
    ((after (.switchOff 23 1) board).port.rej = true ∧ (after (.switchOff 23 1) board).port.res = false) := by decide +kernel
theorem test_instant_trip_opens :
    (((after (.instantTrip 0 6001) (inState .on none)).outlet 0).state = .tripped ∧ ((after (.instantTrip 0 6001) (inState .on none)).outlet 0).relay = .opened ∧ (after (.instantTrip 0 6001) (inState .on none)).port.events.length = 1) := by decide +kernel
theorem test_coil_pulse_ends_in_settle :
    ((after (.coilPulseEnd 0) (inState .closing (some .coil))).boardTime = 5 ∧ ((after (.coilPulseEnd 0) (inState .closing (some .coil))).outlet 0).sub = some .settle ∧ ((after (.coilPulseEnd 0) (inState .closing (some .coil))).outlet 0).stateTimer = some 100) := by decide +kernel
theorem test_strict_key_order_on_the_bus :
    frameKey 7 3 .groupAbort < frameKey 7 0 .status ∧ frameKey 7 15 .status < frameKey 0 0 .claim ∧ frameKey 6 15 .claim < frameKey 7 0 .claim := by
  decide

/-! States that meet the hypotheses of the statements. -/

theorem test_meets_time_passes :
    board.pending = [] ∧ board.inReset = false ∧ ({ board with inReset := true } : State).inReset = true ∧
      (board.outlet 0).stateTimer = none ∧ (board.outlet 0).state ≠ .claiming ∧ (board.line .bankA).recovery = none ∧
      board.link.joining = none ∧ board.cycle? 9 = none ∧ (inCycle .dwell .opened).cycle? 9 = some (cycleIn .dwell .opened) := by decide +kernel

theorem test_meets_configuration_fixed : board.phase = .running ∧ after (.instantTrip 0 0) board = board := by decide +kernel

theorem test_meets_switch_invariant :
    (inState .claiming none).inReset = false ∧ ¬(inState .claiming none).switchesConsistent ∧ State.switchInvariant { board with inReset := true } ∧
      ∃ t, step { board with inReset := true } = .next t := by
  refine ⟨rfl, fun h => ?_, fun h => ?_, _, rfl⟩
  · have := (h.2.1 0).2 (by decide)
    revert this; decide
  · cases h

/-- A claiming outlet in its queue: the invariant holds out of reset, and a step runs. -/
theorem test_meets_switch_invariant_out_of_reset :
    State.switchInvariant ((inState .claiming none).setQueue .bankA [0]) ∧
      ∃ t, step ((inState .claiming none).setQueue .bankA [0]) = .next t := by
  refine ⟨fun _ => ⟨by decide +kernel, by decide +kernel, fun b => ?_, fun b o ho => ?_⟩, _, rfl⟩
  · cases b <;> decide
  · cases b
    · have h : o ∈ [0] := ho
      have : o = 0 := by simpa using h
      subst this; rfl
    · cases ho
    · cases ho

/-- The board sending a frame, with failures counted so far. -/
def sendingFrame (f : PeerFrame) (removeAfter : Bool) (replacement : Option PeerFrame) (failures : Nat) : State :=
  { board with
    link := { board.link with
      sending := some ⟨queuedFrame 7 0 f, removeAfter, replacement⟩, queue := [queuedFrame 7 0 f], failures := failures } }

theorem test_meets_queue_bounds :
    board.eventsBounded ∧ board.queueBounded ∧ step board = .next (board.passTime 1) ∧
      (sendingFrame (board.composeJoin true) false (some (board.composeJoin false)) 0).queueBounded ∧ (inCycle .dwell .opened).membersInOrder ∧
      (∃ r ∈ (inCycle .dwell .opened).records, r.members.length = 1) := by
  refine ⟨by decide, ⟨by decide, by decide, by decide, fun a h => absurd ((show board.link.sending = none by decide).symm.trans h) (by simp)⟩, rfl, ⟨by decide +kernel, by decide +kernel, by decide +kernel, fun a ha => ?_⟩, ?_,
    _, List.mem_singleton_self _, rfl⟩
  · obtain rfl := Option.some.inj ha
    refine ⟨?_, fun f hf => ?_⟩
    · show queuedFrame 7 0 (board.composeJoin true) ∈ [queuedFrame 7 0 (board.composeJoin true)]
      exact List.mem_cons_self
    · obtain rfl := Option.some.inj hf
      decide +kernel
  · intro r hr
    rw [List.mem_singleton.1 hr]
    decide

theorem test_meets_frame_read_back :
    payloadInRange (.forget 15) = true ∧ payloadInRange (.claim ⟨.bankC, 15, 23, 600⟩) = true ∧ payloadInRange (.claim ⟨.bankA, 0, 0, 1⟩) = true ∧
      payloadInRange (.openGroup ⟨⟨15, 15⟩, 255, 600, .lenient⟩) = true ∧ payloadInRange (.groupOff ⟨⟨0, 0⟩, 1, 24, 24⟩) = true ∧
      payloadInRange (.status ⟨⟨5200, 600, 255, true, true⟩, ⟨0, 0, 1, false, false⟩, ⟨0, 0, 1, false, false⟩⟩) = true ∧
      payloadInRange (board.composeJoin true) = true := by decide +kernel

/-- The board with select where it stands in a frame, the status byte captured at its fall being 0x11. -/
def inFrame (x : SelectLine) : State := board.modPort (fun p => { p with select := x, statusOut := 0x11 })

theorem test_meets_resets :
    (∃ t, exec (.powerOnReset jumpersRemoved true) board = .next t) ∧ ({ board with inReset := true } : State).inReset = true ∧
      (∃ t, exec (.warmResetRelease jumpersRemoved) { board with inReset := true } = .next t) ∧ actsInReset (.readStatus 8) = false ∧
      ∃ a, exec .warmResetAssert board = .next a := by
  refine ⟨⟨_, rfl⟩, rfl, ⟨_, rfl⟩, rfl, ⟨_, rfl⟩⟩

theorem test_meets_warm_reset : board.switchesConsistent := by
  refine ⟨by decide +kernel, by decide +kernel, fun b => ?_, fun b o ho => ?_⟩
  · cases b <;> exact List.nodup_nil
  · cases b <;> cases ho

theorem test_meets_lock :
    ({ board with lke := true, lockSample := true } : State).lke = true ∧ ({ board with lke := true, lockSample := true } : State).lockSample = true ∧
      board.lke = false ∧ (∃ t, exec (.setProtect 32 0) board = .next t) ∧ actsInReset (.start 8) = false := by
  refine ⟨rfl, rfl, rfl, ⟨_, rfl⟩, rfl⟩

theorem test_meets_frames_rejected :
    hostFrame (.readStatus 9) = some (9, false) ∧ hostFrame (.invalidHostFrame 8 0) = some (8, false) ∧ hostFrame (.start 0) = some (0, false) ∧
      hostFrame .scheduledStatus = none ∧ actsInReset .scheduledStatus = false ∧ (∃ t, exec .scheduledStatus board = .next t) ∧
      board.takesHostFrames = true ∧ ({ board with inReset := true } : State).takesHostFrames = false ∧
      (inFrame .discarded).takesHostFrames = false ∧ (inFrame .discarded).inReset = false ∧ hostFrame (.start 8) = some (8, true) := by
  refine ⟨by decide, by decide, by decide, rfl, rfl, ⟨_, rfl⟩, by decide, by decide, by decide, by decide, by decide⟩

theorem test_meets_commands_refused :
    hostFrame (.clearTrip 16 0) = some (16, true) ∧ readOf (.clearTrip 16 0) = none ∧
      ((after (.clearTrip 16 0) board).port.slot.code ≠ .ok) ∧
      hostFrame (.readBank 728 3) = some (728, true) ∧ board.port.capture = none ∧
      ((after (.readBank 728 3) board).port.slot.code ≠ .ok) := by decide +kernel

theorem test_meets_reads :
    readOf (.readOutlet 320 24 1) = some (.outlet 24 1) ∧ hostFrame (.readOutlet 320 24 1) = some (320, true) ∧
      (∃ a, exec (.hostReplyCapture (.reply (.outlet 24 1))) board = .next a ∧ a.port.capture = some ⟨.outlet 24 1, ⟨.ok, 0⟩, false, false, 0⟩) ∧
      readLengthOk 176 .status = true ∧ readLengthOk 320 (.outlet 1 0) = true ∧ readLengthOk 728 (.bank 2) = true ∧
      readLengthOk 472 (.peer 15) = true ∧ readLengthOk 576 (.group 255) = true ∧ readLengthOk 104 .event = true ∧
      readLengthOk 32 .result = true ∧ outletArg 24 = some 23 ∧ outletArg 0 = none ∧ outletArg 25 = none := by
  refine ⟨rfl, by decide, ⟨_, rfl, by decide +kernel⟩, by decide, by decide, by decide, by decide, by decide, by decide, by decide, by decide,
    by decide, by decide⟩

/-- A frame between its edges: the status byte stays as it was at the fall of select, two zero bytes go out while the arguments come in, and the row ends
the frame; a frame that a reset meets is discarded with no flag changed. -/
theorem test_frame_between_its_edges :
    (after (.hostReplyCapture (.reply (.outlet 1 0))) (inFrame .low)).port.byteOut 0 = 0x11 ∧
      (after (.hostReplyCapture (.reply (.outlet 1 0))) (inFrame .low)).port.byteOut 2 = 0 ∧
      (after (.hostReplyCapture (.reply (.outlet 1 0))) (inFrame .low)).port.byteOut 3 = 1 ∧
      (after (.readOutlet 320 1 0) (after (.hostReplyCapture (.reply (.outlet 1 0))) (inFrame .low))).port.select = .high ∧
      (after (.readStatus 176) (after (.warmResetRelease jumpersRemoved) (after .warmResetAssert (inFrame .low)))).port.res = false := by
  decide +kernel

/-- Bits that spell commands, and the read whose reply they capture. -/
theorem test_bits_spell_commands :
    commandOfBits (natBits 8 0x11 ++ natBits 8 24 ++ natBits 16 600) = .cycleOutlet 32 24 600 ∧
      commandOfBits (natBits 8 0x10 ++ natBits 8 3 ++ natBits 8 0) = .switchOff 24 3 ∧ commandOfBits (natBits 8 0x26) = .invalidHostFrame 8 0x26 ∧
      commandOfBits (natBits 4 1) = .invalidHostFrame 4 0 ∧ bytesOfBits (natBits 8 0x25) = [0x25] ∧
      captureOfBits (natBits 8 0x02 ++ natBits 8 24 ++ natBits 8 1) = some (.reply (.outlet 24 1)) ∧
      captureOfBits (natBits 8 0x02 ++ natBits 8 24) = none ∧ readOf (commandOfBits (natBits 8 0x06)) = some .event := by decide +kernel

theorem test_warm_reset_keeps_reverse_power :
    ((after (.warmResetRelease jumpersRemoved) (after .warmResetAssert (board.modMeter 0 (fun m => { m with reversePower := true })))).meter
      0).reversePower = true := by decide +kernel

theorem test_lock_is_sampled_in_reset : (after (.lockChange true) { board with inReset := true }).lockSample = true := by decide +kernel

/-- A JOIN that asks for replies keeps asking when another replaces it after its attempt failed. -/
theorem test_failed_join_keeps_its_request :
    (after (.attemptFailed false) (sendingFrame (board.composeJoin true) false (some (board.composeJoin false)) 0)).link.queue =
      [queuedFrame 7 0 (board.composeJoin true)] := by decide +kernel

/-- Board time wraps to 0, a multiple of 250 ms, 46 ms after 4 294 967 250. -/
theorem test_status_is_due_at_the_wrap :
    ({ board with boardTime := 4294967250 } : State).statusDue = 0 ∧ ({ board with boardTime := 4294967251 } : State).statusDue = 45 ∧
      ({ board with boardTime := 251 } : State).statusDue = 249 ∧
      (after .scheduledStatus { board with boardTime := 4294967290 }).boardTime = 0 := by decide +kernel

/-- The link as a reset leaves it, and a step that leaves the board CONFIGURING. -/
theorem test_meets_dormant_link :
    State.reset.phase = .configuring ∧ State.reset.link.state = .silent ∧ State.reset.link.sending = none ∧ State.reset.link.queue = [] ∧
      ∃ t, step State.reset = .next t ∧ t.phase = .configuring := ⟨rfl, rfl, rfl, rfl, _, rfl, rfl⟩

theorem test_meets_indicators :
    (inFrame .low).inReset = false ∧ (inFrame .low).port.events = [] ∧ readLengthOk 104 .event = true ∧
      (∃ c, (after (.hostReplyCapture (.reply .event)) (board.post .trip 1 1 0)).port.capture = some c ∧ c.request = .event ∧ c.hadEvent = true) ∧
      (board.post .trip 1 1 0).port.events = [⟨.trip, 0, 1, 1, 0⟩] ∧ ({ board with inReset := true } : State).inReset = true := by
  refine ⟨by decide, by decide, by decide, ⟨_, rfl, rfl, by decide +kernel⟩, by decide +kernel, rfl⟩

theorem test_meets_replies :
    board.port.events = [] ∧ (∃ e rest, (board.post .trip 1 1 0).port.events = e :: rest) ∧ (2 : Byte).toNat = bankNo .bankC ∧
      (∃ c, (after (.hostReplyCapture (.reply (.outlet 1 0))) board).port.capture = some c ∧ c.request = .outlet 1 0 ∧
        (1 : Byte).toNat = (0 : OutletId).val + 1) := by
  refine ⟨by decide, ⟨_, _, rfl⟩, by decide, ⟨_, rfl, rfl, by decide⟩⟩

theorem test_meets_events :
    maskEnables board.cfg.eventMask .trip = true ∧ board.port.events.length < 64 ∧
      maskEnables ({ board.cfg with eventMask := 0 } : BoardConfig).eventMask .trip = false ∧
      64 ≤ (List.replicate 64 (⟨.trip, 0, 1, 1, 0⟩ : Event)).length := by decide

/-- SWITCH and CYCLE OUTLET: the argument bytes at their bounds; the states are those of `test_every_place_is_reached`. -/
theorem test_meets_switch :
    (1 : Byte).toNat = (0 : OutletId).val + 1 ∧ (24 : Byte).toNat = (23 : OutletId).val + 1 ∧ 24 < (25 : Byte).toNat ∧ (0 : Byte).toNat < 1 ∧
      State.reset.phase ≠ .running ∧ 1 < (2 : Byte).toNat ∧ 600 < (601 : BitVec 16).toNat ∧ (600 : BitVec 16).toNat ≤ 600 ∧
      ((tweak board (fun x => { x with isProtected := true })).outlet 0).isProtected = true ∧
      ((tweak board (fun x => { x with cycle := .group })).outlet 0).cycle = .group ∧
      ((tweak (inState .closing (some .coil)) (fun x => { x with pendingOff := true })).outlet 0).pendingOff = true := by decide +kernel

theorem test_meets_group_commands :
    board.group? 9 = none ∧ ((inCycle .dwell .opened).group? 9).isSome = true ∧ ((inCycle .dwell .opened).cycle? 9).isSome = true ∧
      (inCycle .done .opened).cycle? 9 = none ∧ ((inCycle .done .opened).group? 9).isSome = true ∧
      (∀ k, hasNumber 0x1 k = true → (board.peer k).state ≠ .lost) ∧ hasNumber 0x1 0 = true ∧
      ((board.modPeer 0 (fun p => { p with state := .lost })).peer 0).state = .lost ∧ ordinaryCount board.link.queue < 30 ∧
      30 ≤ ordinaryCount (List.replicate 30 (queuedFrame 7 0 (.forget 1))) ∧ (inLink .joining).link.state ≠ .active ∧
      (∀ ph ∈ [CyclePhase.offPhase, .dwell, .onPhase, .restoringAbort],
        (inCycle ph .opened).cycle? 9 = some (cycleIn ph .opened) ∧ (cycleIn ph .opened).abortOffered = false) := by decide +kernel

theorem test_meets_other_actions :
    ((tweak (inState .off none) (fun x => { x with cycle := .group })).outlet 0).cycle = .group ∧ (24 : Byte).toNat ≤ 24 ∧ (0 : Byte).toNat = 0 ∧
      hasOutlet 1 0 = true ∧ (board.outlet 0).isProtected = false ∧
      ((tweak board (fun x => { x with target := .on })).outlet 0).target ≠ .none ∧ (15 : Byte).toNat = (15 : StationId).val ∧
      (15 : StationId) ≠ board.station ∧ (board.peer 15).state ≠ .live ∧
      ((board.modPeer 15 (fun p => { p with state := .live })).peer 15).state = .live := by decide +kernel

/-- Arguments of the configuration commands at both ends of their ranges, and the first value out of one. -/
theorem test_meets_configuration :
    State.reset.phase = .configuring ∧
      (∀ f ∈ ((configFields (.setBoard 112 ⟨1000, 60, 5, 5, 30, 10, 0⟩)).getD ((0, 0, 0), [])).2, lies f) ∧
      (∀ f ∈ ((configFields (.setBoard 112 ⟨2500, 90, 300, 120, 900, 600, 0xFFFFFF⟩)).getD ((0, 0, 0), [])).2, lies f) ∧
      (∀ f ∈ ((configFields (.setBank 48 ⟨2, 15, 800, 1⟩)).getD ((0, 0, 0), [])).2, lies f) ∧ bankNo .bankC = (2 : Byte).toNat ∧
      (∀ f ∈ ((configFields (.setProfile 80 ⟨3, 2, 8, 100, 500, 600, 4⟩)).getD ((0, 0, 0), [])).2, lies f) ∧
      (∀ f ∈ ((configFields (.setOutlet 72 ⟨24, 3, 255, 200, 1, 255, 255⟩)).getD ((0, 0, 0), [])).2, lies f) ∧
      (∀ f ∈ ((configFields (.setGroup 40 ⟨255, 600, 1⟩)).getD ((0, 0, 0), [])).2, lies f) ∧ ¬lies (1, 255, (0 : Byte).toNat) ∧
      ¬lies (0, 2, (3 : Byte).toNat) ∧ hostFrame (.setGroup 40 ⟨0, 0, 0⟩) = some (40, true) ∧
      16 ≤ (List.replicate 16 (⟨9, 10, .strict, none, 0⟩ : GroupEntry)).length ∧ State.reset.group? 255 = none ∧
      State.reset.groups.length < 16 := by decide +kernel

theorem test_meets_start :
    (∀ o, ¬(State.reset.bank (bankOf o)).limit < (State.reset.profile o).inrush) ∧
      (∀ n : BranchId, ∀ b ∈ allBanks, ∀ c ∈ allBanks,
        ¬((State.reset.bank b).branch = n ∧ (State.reset.bank c).branch = n ∧ (State.reset.bank b).limit ≠ (State.reset.bank c).limit)) ∧
      ({ State.reset with banks := ⟨⟨0, 160, true⟩, ⟨0, 161, true⟩, ⟨0, 160, true⟩⟩ } : State).bank .bankB = ⟨0, 161, true⟩ ∧
      ({ State.reset with banks := .fill ⟨0, 10, true⟩ } : State).bank .bankA = ⟨0, 10, true⟩ := by decide +kernel

/-! The outlet timers: `inState` runs the timer at 5 ms in every place. -/

theorem test_meets_alignment :
    ((tweak board id).profile 0).alignment ≠ .none ∧ ({ board with profiles := .fill 4 { board.profile 0 with alignment := .none } } : State).profile 0 =
      { board.profile 0 with alignment := .none } ∧ (board.window .bankA).line = none ∧
      (∃ r, ((board.endWindow .bankA window8 (some ⟨200, 0⟩)).window .bankA).line = some r ∧ r.noLine = true) ∧
      (∃ r, ((({ board with windows := .fill { board.window .bankA with riseStart := some ⟨0, 0⟩ } } : State).endWindow .bankA window8
        (some ⟨200, 0⟩)).window .bankA).line = some r ∧ r.noLine = false) ∧
      ((tweak (inState .on none) (fun x => { x with target := .on })).outlet 0).target = .on ∧
      ((tweak (inState .off none) (fun x => { x with target := .off })).outlet 0).target = .off := by
  refine ⟨by decide, by decide +kernel, rfl, ⟨_, rfl, by decide +kernel⟩, ⟨_, rfl, by decide +kernel⟩, by decide +kernel, by decide +kernel⟩

/-- Closing: the profiles that are not STRICT and STRICT, and each pending-off and restore-intent. -/
theorem test_meets_closing :
    ∀ p ∈ [false, true], ∀ r ∈ [false, true], ∀ sub ∈ [SubPhase.align, .coil, .settle], ∀ al ∈ [Alignment.zero, .strict],
      ∃ s : State, s = { tweak (inState .closing (some sub)) (fun x => { x with pendingOff := p, restoreIntent := r }) with
          profiles := .fill 4 { board.profile 0 with alignment := al } } ∧
        s.inReset = false ∧ (s.outlet 0).consistent ∧ (s.outlet 0).stateTimer = some 5 ∧ ((s.passTime 5).profile 0).alignment = al ∧
        ((s.passTime 5).outlet 0).pendingOff = p ∧ ((s.passTime 5).outlet 0).restoreIntent = r ∧ ((s.passTime 5).outlet 0).sub = some sub := by
  intro p hp r hr sub hs al ha
  refine ⟨_, rfl, ?_⟩
  revert p r sub al
  decide +kernel

theorem test_meets_opening_and_dwell :
    (∀ r ∈ [false, true], ∀ sub ∈ [SubPhase.align, .settle],
      ((tweak (inState .opening (some sub)) (fun x => { x with restoreIntent := r })).outlet 0).consistent ∧
        (((tweak (inState .opening (some sub)) (fun x => { x with restoreIntent := r })).passTime 5).outlet 0).restoreIntent = r) ∧
      ((tweak (inState .dwell none) (fun x => { x with cycle := .localCycle 5 })).outlet 0).cycle = .localCycle 5 ∧
      (inState .dwell none).isHeld .bankA = false ∧ (inLine .sag).isHeld .bankA = true := by decide +kernel

theorem test_meets_claim_wait :
    ((inState .claiming none).outlet 0).claimWait = some 0 ∧ ((inState .claiming none).line .bankA).state = .normal ∧
      ((inLine .sag).line .bankA).state ≠ .normal ∧ hasNumber board.conflicts (board.bank .bankA).branch = false ∧
      hasNumber (1#16) 0 = true ∧ (inLink .linkDown).link.state ≠ .active := by decide +kernel

/-! Claims. -/

/-- The board with outlet 1 claiming at the head of its queue and its claim in a state. -/
def claimIn (st : ClaimState) (mark : EndingMark) (withdrawn : Bool) : State :=
  { (inState .claiming none).setQueue .bankA [0] with
    claims := .fill { board.claim .bankA with state := st, outlet := some 0, ending := mark, withdrawn := withdrawn, absorbTarget := 2 } }

/-- The board sending outlet 1's claim. -/
def sendingClaim : State :=
  { claimIn .sent .none false with
    link := { board.link with sending := some ⟨queuedFrame 7 0 (.claim ⟨.bankA, 0, 0, 80⟩), false, none⟩, queue := [queuedFrame 7 0 (.claim ⟨.bankA, 0, 0, 80⟩)] } }

theorem test_meets_claims_leave :
    ((claimIn .sent .none false).sendingClaim .bankA = false ∧ ((claimIn .sent .none false).claim .bankA).state = .sent) ∧
      (∃ x, sendingClaim.link.sending = some x ∧ isClaimOf .bankA x.frame.frame = true) ∧
      ((claimIn .granted .none false).claim .bankA).absorbCount + 1 < ((claimIn .granted .none false).claim .bankA).absorbTarget ∧
      ((board.claim .bankA).absorbTarget ≤ (board.claim .bankA).absorbCount + 1) ∧ ((inState .on none).outlet 0).state = .on ∧
      ((claimIn .granted .dropped false).claim .bankA).ending ≠ .none := by
  refine ⟨by decide +kernel, ⟨_, rfl, by decide +kernel⟩, by decide +kernel, by decide +kernel, by decide +kernel, by decide +kernel⟩

theorem test_meets_claims_issued :
    (claimIn .none .none false).queue .bankA = [0] ∧ (claimIn .none .none false).phase = .running ∧ (claimIn .none .none false).link.state = .active ∧
      ((claimIn .none .none false).claim .bankA).state = .none ∧ ((claimIn .none .none false).line .bankA).state = .normal ∧
      ((claimIn .none .none false).claim .bankA).retryWait ≠ some 0 ∧ ordinaryCount (claimIn .none .none false).link.queue < 30 ∧
      30 ≤ ordinaryCount (List.replicate 30 (queuedFrame 7 0 (.forget 1))) ∧
      [(0 : OutletId)].Pairwise (fun x y => board.restoreOrder x ≤ board.restoreOrder y) ∧
      (List.replicate 30 (queuedFrame 7 0 (.forget 1))).Pairwise (fun y z => y.key ≤ z.key) := by decide +kernel

/-- A claim of the own board is granted when the station's entry maps the bank to the branch, and denied while it is ABSENT. -/
theorem test_meets_claims_judged :
    ((board.applyJoin 0 ⟨0, .fill 0, .fill 160, .fill 0, false, []⟩).peer 0).info = some ⟨0, .fill 0, .fill 160⟩ ∧
      ((board.applyJoin 0 ⟨0, .fill 0, .fill 160, .fill 0, false, []⟩).peer 0).state ≠ .absent ∧ (board.peer 0).state = .absent ∧
      board.uses 0 = true ∧ board.uses 15 = false ∧ (0 : StationId) = board.station ∧ board.branchTotal 0 = 0 ∧
      ((claimIn .sent .none true).claim .bankA).withdrawn = true ∧ ((claimIn .sent .none false).outlet 0).state = .claiming ∧
      ((inState .on none).outlet 0).state ≠ .claiming ∧ board.link.queue = [] := by
  decide +kernel

/-! Mains. -/

/-- The board at 1 s, its crossings last seen at 998 ms and 0 µs. -/
def crossed (s : State) : State :=
  { s with
    boardTime := 1000, lines := s.lines.map (fun l => { l with lastCross := some ⟨998, 0⟩ }),
    meters := s.meters.set 0 { s.meter 0 with lastCross := some ⟨998, 0⟩ } }

theorem test_meets_crossings :
    (∀ p ∈ places, (crossed (inState p.1 p.2)).inReset = false ∧ ((crossed (inState p.1 p.2)).line .bankA).lastCross = some ⟨998, 0⟩ ∧
      ((crossed (inState p.1 p.2)).meter 0).lastCross = some ⟨998, 0⟩) ∧
      ((1000 : BoardTime) - 998).toNat * 1000 + 0 - 0 = 2000 ∧ ((999 : BoardTime) - 998).toNat * 1000 + 999 - 0 = 1999 ∧
      (board.line .bankA).lastCross = none ∧ (board.meter 0).lastCross = none ∧
      ((inState .opening (some .align)).outlet 0).alignPeak ≤ 10 ∧
      10 < ((tweak (inState .opening (some .align)) (fun x => { x with alignPeak := 11 })).outlet 0).alignPeak := by decide +kernel

theorem test_meets_consistent_outlets : ∀ p ∈ places, (crossed (inState p.1 p.2)).outletsConsistent := by decide +kernel

/-- The thresholds at reset: 80 % and 85 % of 230.0 V; the counters at their bounds; the currents about the trip threshold of 16.0 A. -/
theorem test_meets_half_cycles :
    ((inLine .normal).line .bankA).state ≠ .sag ∧ ((inLine .sag).line .bankA).state = .sag ∧ (board.line .bankA).low < 2 ∧
      2 ≤ ((board.modLine .bankA (fun l => { l with low := 2 })).line .bankA).low ∧ (board.line .bankA).good < 2 ∧
      2 ≤ ((board.modLine .bankA (fun l => { l with good := 2 })).line .bankA).good ∧ board.sagThreshold ≤ 1840 ∧ 1839 < board.sagThreshold ∧
      board.recoveryLevel ≤ 1955 ∧ 1954 < board.recoveryLevel ∧ ((inState .on none).outlet 0).coil ≠ .off ∧ ((inState .off none).outlet 0).coil = .off ∧
      ((inState .on none).meter 0).overCount = 0 ∧ ((inState .on none).outlet 0).cfg.tripThreshold * 10 < 1601 ∧
      1600 ≤ ((inState .on none).outlet 0).cfg.tripThreshold * 10 := by decide +kernel

theorem test_meets_sag :
    (∀ st ∈ [LineState.normal, .sag, .recovering], ((inLine st).line .bankA).state = st ∧ ((inLine st).line .bankA).recovery = some 1) ∧
      (∀ shed ∈ [false, true], ((board.modLine .bankA (fun l => { l with shedInUse := shed })).line .bankA).shedInUse = shed) ∧
      ((tweak (inState .closing (some .coil)) (fun x => { x with pendingOff := true })).outlet 0).pendingOff = true ∧ bankOf 0 = .bankA ∧
      (inLine .recovering).phase = .running ∧ (inLine .recovering).inReset = false ∧
      ({ inLine .recovering with phase := .configuring } : State).phase = .configuring := by decide +kernel

theorem test_meets_windows :
    (board.window .bankA).riseStart = none ∧ (board.window .bankA).halves ≤ 255 ∧
      ((board.countRise .bankA window8 ⟨0, 0⟩).window .bankA).riseStart = some ⟨0, 0⟩ ∧
      ((board.countRise .bankA window8 ⟨0, 0⟩).window .bankA).rises + 1 < ((board.countRise .bankA window8 ⟨0, 0⟩).window .bankA).cycles ∧
      ((200 : BoardTime) - 0).toNat * 1000 + 0 - 0 = 200000 ∧ 10 * 100000000 < 9999 * 200000 ∧
      36000 * (2 ^ 48 - 1) + 35999 + 1 = 36000 * 2 ^ 48 ∧ window8.watts.getD 7 1 = 0 ∧ ((-200000 : Int)).natAbs ≤ 200000 ∧ (200000 : Int).natAbs ≤ 200000 := by
  decide +kernel

/-! The peer link. -/

theorem test_meets_link_states :
    (∀ st ∈ [LinkState.silent, .joining, .active, .linkDown, .isolated],
      (inLink st).link.state = st ∧ (inLink st).link.joining = some 1 ∧ (inLink st).link.quiet = some 1 ∧ (inLink st).inReset = false) ∧
      (250 - (249 : Nat) % 250) % 250 = 1 ∧ (250 - (250 : Nat) % 250) % 250 = 0 ∧ board.link.sending = none ∧
      ({ board with startRestored := true } : State).startRestored = true ∧ board.startRestored = false := by decide +kernel

theorem test_meets_attempts :
    (sendingFrame (.forget 1) false none 14).link.failures + 1 < 16 ∧ 16 ≤ (sendingFrame (.forget 1) false none 15).link.failures + 1 ∧
      (sendingFrame (board.composeJoin true) false (some (board.composeJoin false)) 0).link.sending.isSome = true ∧
      (∃ p, (queuedFrame 7 0 (.claim ⟨.bankA, 0, 0, 80⟩)).frame = .claim p ∧ ((claimIn .sent .none true).claim p.bank).state = .sent ∧
        ((claimIn .sent .none true).claim p.bank).withdrawn = true) ∧
      (∃ x rest, sendingClaim.link.queue = x :: rest ∧ (∀ k ∈ [x.key], x.key ≤ k) ∧ ∃ k ∈ [x.key - 1], k < x.key) := by
  refine ⟨by decide +kernel, by decide +kernel, by decide +kernel, ⟨_, rfl, by decide +kernel, by decide +kernel⟩, _, _, rfl, ?_⟩
  decide +kernel

theorem test_meets_failed_frames :
    judge (queuedFrame 7 3 (.forget 5)).bits = .good 3 (.forget 5) ∧ (∀ k f, judge [] ≠ .good k f) := by
  refine ⟨by decide +kernel, fun k f h => ?_⟩
  revert h
  have : judge [] = .framingError := by decide +kernel
  rw [this]; intro h; cases h

theorem test_meets_carried :
    (Instr.forgetApply 3 5).carried = some (3, .forget 5) ∧ (Instr.claimApply 3 ⟨.bankA, 0, 0, 0⟩).carried = some (3, .claim ⟨.bankA, 0, 0, 0⟩) ∧
      payloadInRange (.forget 5) = true ∧ payloadInRange (.claim ⟨.bankA, 0, 0, 0⟩) = false ∧ (3 : StationId) ≠ board.station ∧
      (∃ a, (sendingFrame (.forget 5) false none 0).link.sending = some a ∧ a.frame.frame = .forget 5) ∧
      (∃ p, board.composeJoin true = .join p ∧ p.serial = board.serial) ∧ (1 : Serial) ≠ board.serial := by
  refine ⟨rfl, rfl, by decide, by decide, by decide, ⟨_, rfl, rfl⟩, ⟨_, rfl, rfl⟩, by decide⟩

/-! Peers and overload. -/

/-- The board with station 5 live or lost after a JOIN that maps its banks to branch 0 at 16.0 A. -/
def withPeer (st : EntryState) : State :=
  (board.applyJoin 5 ⟨7, .fill 0, .fill 160, .fill 0, false, [9]⟩).modPeer 5 (fun p => { p with state := st })

theorem test_meets_entries :
    (board.peer 5).state = .absent ∧ ((withPeer .live).peer 5).state = .live ∧ ((withPeer .live).peer 5).lastHeard = some 0 ∧
      ((withPeer .lost).peer 5).state = .lost ∧ ((withPeer .lost).peer 5).info.isSome = true ∧ (5 : StationId) ≠ board.station ∧
      (withPeer .live).link.state ≠ .silent ∧ (inLink .linkDown).link.state ≠ .joining := by
  decide +kernel

/-- The board with branch 0 in an overload state held for station 5, and station 5's load at a value in amperes tenths. -/
def overIn (st : OverloadState) (load : Nat) : State :=
  { (withPeer .live).modPeer 5 (fun p => { p with loads := ⟨load, 0, 0⟩, ranks := .fill 3 }) with
    overload := board.overload.set 0 { board.over 0 with state := st, shedder := some 5 } }

theorem test_meets_overload :
    (∀ st ∈ [OverloadState.clear, .overOnce, .hold], ((overIn st 161).over 0).state = st) ∧ (overIn .clear 160).branchLoad 0 ≤ (overIn .clear 160).ownLimit 0 ∧
      (overIn .clear 161).ownLimit 0 < (overIn .clear 161).branchLoad 0 ∧ (overIn .clear 161).uses 0 = true ∧
      ((overIn .clear 161).peer 5).info = some ⟨7, .fill 0, .fill 160⟩ ∧ (overIn .overOnce 161).designated 0 = some 5 ∧
      board.designated 0 = none ∧ ((inState .on none).outlet 0).cfg.shedRank ≤ 255 ∧ ((overIn .clear 161).over 0).shedder = some 5 := by
  decide +kernel

/-- The own station is designated when no other rank is lower, and then it has an outlet to shed. -/
theorem test_meets_own_shed :
    ((tweak (inState .on none) (fun x => { x with cfg := { x.cfg with shedRank := 254 } })).outlet 0).cfg.shedRank = 254 ∧
      ((((board.applyJoin 0 ⟨0, .fill 0, .fill 160, .fill 0, false, []⟩).modPeer 0 (fun p => { p with ranks := .fill 254 })).designated 0) = some 0) := by
  decide +kernel

/-! Group cycles. -/

theorem test_meets_cycles :
    (∀ ph ∈ [CyclePhase.offPhase, .dwell, .onPhase, .restoringAbort],
      ∀ st ∈ [MemberStatus.held, .opening, .opened, .off, .restoring, .restored, .failed],
        (inCycle ph st).cycle? 9 = some (cycleIn ph st) ∧ (cycleIn ph st).phase = ph ∧ (cycleIn ph st).members = [⟨0, st, false⟩] ∧
          (inCycle ph st).queueHasRoom = true ∧ ((inCycle ph st).outlet 0).cfg.group = 9 ∧ hasNumber (cycleIn ph st).awaited 0 = true ∧
          hasNumber ((inCycle ph st).roster 9) 0 = true ∧ (cycleIn ph st).offTimer = some 1 ∧ (cycleIn ph st).dwellTimer = some 1 ∧
          (cycleIn ph st).onTimer = some 1 ∧ (cycleIn ph st).abortOffered = false ∧ (cycleIn ph st).offOffered = false ∧
          (cycleIn ph st).onOffered = false ∧ ((inCycle ph st).line .bankA).state = .normal ∧ ((inCycle ph st).outlet 0).state = .off) ∧
      hasNumber (cycleIn .dwell .opened).awaited 1 = false ∧ hasNumber (3#16) 1 = true ∧
      ({ inCycle .onPhase .restored with link := { board.link with queue := List.replicate 30 (queuedFrame 7 0 (.forget 1)) } } : State).queueHasRoom = false ∧
      ((inCycle .dwell .opened).modLine .bankA (fun l => { l with state := .sag })).isHeld .bankA = true := by decide +kernel

/-- A member in DWELL, the offers that a cycle makes, and an abort that is queued. -/
theorem test_meets_cycle_offers :
    (((inCycle .dwell .opened).place 0 .dwell none).outlet 0).state = .dwell ∧
      (∃ t, (inCycle .offPhase .opened).offer 7 (.groupOff ⟨⟨2, 1⟩, 9, 0, 0⟩) = some t) ∧
      (∃ t, (inCycle .onPhase .restored).offer 7 (.groupOn ⟨⟨2, 1⟩, 9, 1, 0⟩) = some t) ∧
      (∃ t, (inCycle .dwell .opened).queueAbort (cycleIn .dwell .opened) .offTimeout = some t) ∧
      ({ inCycle .dwell .opened with link := { board.link with queue := List.replicate 30 (queuedFrame 7 0 (.forget 1)) } } : State).queueAbort (cycleIn .dwell .opened) .offTimeout = none := by
  refine ⟨by decide +kernel, ⟨_, rfl⟩, ⟨_, rfl⟩, ⟨_, rfl⟩, by decide +kernel⟩

theorem test_meets_open_group :
    (board.group? 9 = none ∧ ((inCycle .done .opened).group? 9).isSome = true ∧ (inCycle .done .opened).cycle? 9 = none ∧
      (inCycle .done .opened).link.state ≠ .linkDown ∧ ((inCycle .dwell .opened).cycle? 9).isSome = true ∧
      (∀ j, hasNumber ((inCycle .done .opened).roster 9) j = true → ((inCycle .done .opened).peer j).state ≠ .lost) ∧
      (∀ p ∈ places, ((inState p.1 p.2).outlet 0).isProtected = false)) := by decide +kernel

/-- The commands that end a cycle's timers complete there. -/
theorem test_meets_cycle_timers :
    (after (.offGatherExpiry 9) (inCycle .offPhase .opening)).boardTime = 1 ∧ (after (.dwellExpiry 9) (inCycle .dwell .opened)).boardTime = 1 ∧
      ((after (.onGatherExpiry 9) (inCycle .onPhase .restoring)).cycle? 9 = none) := by decide +kernel

/-- An abort at OPEN-GROUP that is not taken, a JOIN of a roster station that asks for replies, a LIVE entry with another serial, and members that stand
in outlet order. -/
theorem test_meets_aborts :
    State.queueAbort ({ inCycle .done .opened with link := { board.link with queue := List.replicate 30 (queuedFrame 7 0 (.forget 1)) } } : State)
        (cycleIn .offPhase .opened) .rosterLost = none ∧
      ((cycleIn .dwell .opened).members.map (·.outlet)).Pairwise (· < ·) ∧
      (let s := { inCycle .dwell .opened with groups := [⟨9, 10, .strict, none, 0x21⟩], peers := (withPeer .live).peers }
       hasNumber (s.roster 9) 5 = true ∧ s.cycle? 9 = some (cycleIn .dwell .opened) ∧ (5 : StationId) ≠ s.station ∧ (s.peer 5).state = .live ∧
         (s.peer 5).info = some ⟨7, .fill 0, .fill 160⟩ ∧ (7 : Serial) ≠ 8 ∧ s.roster 7 = 0 ∧
         (State.groupJoin s 5 ⟨8, .fill 0, .fill 160, .fill 0, true, []⟩ s 9).link.queue.length = 1) := by
  decide +kernel

/-- FORGET of this station, of another, and of one that is unknown. -/
theorem test_meets_forget :
    (board.applyForget 5 0).link.queue.length = 1 ∧ ((withPeer .live).applyForget 5 3).port.events.length = ((withPeer .live).port.events.length) + 1 ∧
      ((withPeer .live).peer 5).state ≠ .absent ∧ (inLink .linkDown).link.state ≠ .active ∧ (3 : StationId) ≠ board.station := by decide +kernel

/-- The board with a record of group 9 in DONE that still awaits stations 0 and 5 (R155, R160). -/
def doneAwaiting : State :=
  { inCycle .done .opened with
    records := [{ cycleIn .done .opened with awaited := 0x21 }], groups := [⟨9, 10, .strict, none, 0x21⟩], peers := (withPeer .live).peers }

theorem test_awaited_is_left_in_done :
    doneAwaiting.cycle? 9 = none ∧ (doneAwaiting.record? 9).map (·.awaited) = some 0x21 ∧
      ((doneAwaiting.applyForget 3 5).record? 9).map (·.awaited) = some 0x1 ∧
      ((doneAwaiting.applyJoin 5 ⟨7, .fill 0, .fill 160, .fill 0, false, []⟩).record? 9).map (·.awaited) = some 0x1 := by decide +kernel

/-- A member that the cycle held is released with the others (R136, R157). -/
theorem test_held_member_is_released :
    (((tweak (inCycle .dwell .held) (fun x => { x with restoreIntent := true, cycle := .localCycle 5 })).finishCycle 9 .complete).outlet
      0).restoreIntent = false := by decide +kernel

/-- The group of a record is still found after a JOIN and after a FORGET. -/
theorem test_meets_tables :
    (((inCycle .done .opened).applyJoin 5 ⟨7, .fill 0, .fill 160, .fill 0, false, [9, 0, 9]⟩).group? 9).isSome = true ∧
      (((inCycle .done .opened).applyForget 5 3).group? 9).isSome = true ∧ hasNumber board.conflicts 0 = false ∧
      hasNumber ((withPeer .live).applyJoin 5 ⟨7, .fill 0, .fill 150, .fill 0, false, []⟩).conflicts 0 = true := by decide +kernel

end Sys2Proof.Tests
end

section
/-! The link before START: every command that leaves the board CONFIGURING leaves a SILENT, idle and empty link so (R26, R75, R83). -/

namespace Sys2Proof.Machine
open Sys2Proof

/-- While the board is CONFIGURING its link is SILENT, idle and empty: what the commands before START keep. -/
def State.DormantTillStart (s : State) : Prop := s.phase = .configuring → s.Dormant

theorem State.Dormant.tillStart {s : State} (hs : s.Dormant) : s.DormantTillStart := fun _ => hs

theorem dormantTillStart_of_running {s : State} (h : s.phase = .running) : s.DormantTillStart := fun hp => by
  rw [h] at hp
  cases hp

/-- Dormancy is a fact about the link alone. -/
theorem State.Dormant.of_link {s t : State} (hs : s.Dormant) (h : t.link = s.link) : t.Dormant := by
  unfold State.Dormant
  rw [h]
  exact hs

theorem State.Dormant.of_eq {s t : State} (hs : s.Dormant) (h : t = s) : t.Dormant := hs.of_link (congrArg State.link h)

theorem dormant_reset : State.reset.Dormant := ⟨rfl, rfl, rfl⟩

/-- The LINK LED is dark while the link is SILENT (R26). -/
theorem linkLedLit_of_dormant {s : State} (hs : s.Dormant) : s.linkLedLit = false := by
  obtain ⟨hsilent, -, -⟩ := hs
  simp [State.linkLedLit, hsilent, LinkState.led, Led.litAt]

/-! The resets. -/

theorem dormant_assertReset {s : State} (hs : s.Dormant) : s.assertReset.Dormant := by
  obtain ⟨hsilent, -, hqueue⟩ := hs
  exact ⟨hsilent, rfl, hqueue⟩

theorem dormant_releaseReset (s : State) (j : Jumpers) : (s.releaseReset j).Dormant := dormant_reset.of_link rfl

/-! Events that wait for a timer, and none that comes while RST is asserted. -/

theorem dormant_unlessReset {s : State} {f : State → State} (hs : s.Dormant) (h : (f s).Dormant) : (s.unlessReset f).Dormant :=
  dormant_ite _ _ hs h

theorem dormant_expire {s : State} (due : Option Nat) {fire : State → State} (h : ∀ t, t.Dormant → (fire t).Dormant) (hs : s.Dormant) :
    (s.expire due fire).Dormant := by
  unfold State.expire
  split
  · exact hs
  · exact h _ (dormant_passTime _ _ hs)

/-- A timer of the board whose expiry keeps the link dormant. -/
theorem dormant_timer {s : State} (due : State → Option Nat) {fire : State → State} (h : ∀ t, t.Dormant → (fire t).Dormant) (hs : s.Dormant) :
    (s.unlessReset (fun s => s.expire (due s) fire)).Dormant :=
  dormant_unlessReset hs (dormant_expire _ h hs)

/-- A timer of the board whose expiry is followed by the claims it makes issuable (R107). -/
theorem dormant_issuingTimer {s : State} (due : State → Option Nat) {fire : State → State} (h : ∀ t, t.Dormant → (fire t).Dormant)
    (hs : s.Dormant) : (s.unlessReset (fun s => s.expire (due s) (fun s => (fire s).issueClaims))).Dormant :=
  dormant_timer due (fun t ht => dormant_issueClaims _ (h t ht)) hs

/-- A timer that does not run on a dormant link. -/
theorem dormant_stoppedTimer {s : State} {due : Option Nat} (fire : State → State) (hdue : due = none) (hs : s.Dormant) :
    (s.unlessReset (fun s => s.expire due fire)).Dormant := by
  subst hdue
  exact dormant_unlessReset hs hs

theorem joiningDue_of_dormant {s : State} (hs : s.Dormant) : s.joiningDue = none := by simp [State.joiningDue, hs.1]

theorem quietDue_of_dormant {s : State} (hs : s.Dormant) : s.quietDue = none := by simp [State.quietDue, hs.1]

theorem livenessDue_of_dormant {s : State} (hs : s.Dormant) (k : StationId) : s.livenessDue k = none := by
  simp [State.livenessDue, hs.1, LinkState.timesPeers]

/-- A frame carried on the link does not reach a station whose link is SILENT (R72, R83). -/
theorem dormant_carried {s : State} (k : StationId) (f : PeerFrame) (act : State → State) (hs : s.Dormant) :
    (s.unlessReset (fun s => s.receive k f act)).Dormant :=
  dormant_unlessReset hs (hs.of_eq (dormant_receive s k f act hs))

/-! Host frames. -/

theorem dormantTillStart_atRising {s : State} {f : State → State} (hs : s.Dormant) (h : (f s).DormantTillStart) :
    (s.atRising f).DormantTillStart :=
  ite_keeps h ((portOnly_closeFrame s).dormant hs).tillStart

theorem dormantTillStart_writeResult {s : State} (r : ResultSlot) (hs : s.DormantTillStart) : (s.writeResult r).DormantTillStart :=
  fun hp => (portOnly_writeResult s r).dormant (hs hp)

/-- A frame of a read (R179). -/
theorem dormantTillStart_read {s : State} (bits : Nat) (r : ReadRequest) (hs : s.Dormant) :
    (s.atRising (fun s => s.runRead bits r)).DormantTillStart :=
  dormantTillStart_atRising hs (dormant_runRead s bits r hs).tillStart

/-- A frame of a command that is not a read does what its run does in the opened frame, or nothing but close it (R175). -/
theorem dormantTillStart_frame {s : State} (bits args : Nat) {run : State → Answer}
    (h : ∀ t, t.phase = .configuring → t.Dormant → (run t).1.DormantTillStart) (hp : s.phase = .configuring) (hs : s.Dormant) :
    (s.atRising (fun s => s.runFrame bits args run)).DormantTillStart := by
  have hopen : s.openFrame.Dormant := (portOnly_openFrame s).dormant hs
  refine dormantTillStart_atRising hs (ite_keeps ?noEdge (ite_keeps ?runs ?rejected))
  case noEdge => exact ((portOnly_closeFrame s).dormant hs).tillStart
  case runs => exact dormantTillStart_writeResult _ (h _ hp hopen)
  case rejected => exact ((portOnly_rejectFrame _).dormant hopen).tillStart

/-- What is taken in RUNNING only is refused in CONFIGURING, with no effect (R16, R177). -/
theorem whenRunning_of_configuring {s : State} (run : State → Answer) (hp : s.phase = .configuring) : (whenRunning run s).1 = s := by
  simp [whenRunning, hp, refuse]

theorem whenConfiguring_of_configuring {s : State} (run : State → Answer) (hp : s.phase = .configuring) : whenConfiguring run s = run s :=
  if_pos hp

/-- A frame of a command that is taken in RUNNING only. -/
theorem dormantTillStart_runningOnly {s : State} (bits args : Nat) (run : State → Answer) (hp : s.phase = .configuring) (hs : s.Dormant) :
    (s.atRising (fun s => s.runFrame bits args (whenRunning run))).DormantTillStart :=
  dormantTillStart_frame bits args (fun _ hpt ht => (ht.of_eq (whenRunning_of_configuring run hpt)).tillStart) hp hs

/-- A frame of a command whose run leaves the link alone. -/
theorem dormantTillStart_linkKept {s : State} (bits args : Nat) {run : State → Answer} (h : ∀ t, (run t).1.link = t.link)
    (hp : s.phase = .configuring) (hs : s.Dormant) : (s.atRising (fun s => s.runFrame bits args run)).DormantTillStart :=
  dormantTillStart_frame bits args (fun t _ ht => (ht.of_link (h t)).tillStart) hp hs

/-! The commands that leave the link alone (R23, R40, R48, R163 to R168). -/

theorem runClearTrip_link (x : Byte) (s : State) : (runClearTrip x s).1.link = s.link := by
  unfold runClearTrip
  split
  · rfl
  · split
    · rfl
    · unfold State.clearTripped
      split <;> rfl

theorem runResetEnergy_link (x : Byte) (s : State) : (runResetEnergy x s).1.link = s.link := by
  unfold runResetEnergy
  split
  · rfl
  · split <;> rfl

theorem runSetProtect_link (set : OutletSet) (s : State) : (runSetProtect set s).1.link = s.link := by
  unfold runSetProtect
  (repeat' split) <;> rfl

theorem whenConfiguring_link {s : State} {run : State → Answer} (h : (run s).1.link = s.link) : (whenConfiguring run s).1.link = s.link := by
  unfold whenConfiguring
  split
  · exact h
  · rfl

theorem whenInRange_link {s : State} (checks : List Bool) {run : State → Answer} (h : (run s).1.link = s.link) :
    (whenInRange checks s run).1.link = s.link := by
  unfold whenInRange
  split
  · rfl
  · exact h

theorem runSetBoard_link (x : BoardArgs) (s : State) : (runSetBoard x s).1.link = s.link :=
  whenConfiguring_link (whenInRange_link _ rfl)

theorem runSetBank_link (x : BankArgs) (s : State) : (runSetBank x s).1.link = s.link := by
  refine whenConfiguring_link ?_
  split
  · rfl
  · exact whenInRange_link _ rfl

theorem runSetProfile_link (x : ProfileArgs) (s : State) : (runSetProfile x s).1.link = s.link := by
  refine whenConfiguring_link ?_
  split
  · rfl
  · exact whenInRange_link _ rfl

theorem nameGroup_link (s : State) (g : Nat) : (s.nameGroup g).link = s.link := by
  unfold State.nameGroup
  split <;> rfl

theorem runSetOutlet_link (x : OutletArgs) (s : State) : (runSetOutlet x s).1.link = s.link := by
  refine whenConfiguring_link ?_
  split
  · rfl
  · refine whenInRange_link _ ?_
    split
    · rfl
    · exact nameGroup_link s _

theorem runSetGroup_link (x : GroupArgs) (s : State) : (runSetGroup x s).1.link = s.link := by
  refine whenConfiguring_link ?_
  split
  · rfl
  · refine whenInRange_link _ ?_
    split <;> rfl

/-! START (R169, R170). -/

theorem startBoard_phase (s : State) : s.startBoard.phase = .running := congrArg Board.phase (board_enterJoining _)

/-- A START that is refused changes nothing, and one that is accepted ends CONFIGURING. -/
theorem dormantTillStart_runStart {s : State} (hp : s.phase = .configuring) (hs : s.Dormant) : (runStart s).1.DormantTillStart := by
  unfold runStart
  rw [whenConfiguring_of_configuring _ hp]
  split
  · exact hs.tillStart
  · split
    · exact hs.tillStart
    · exact dormantTillStart_of_running (startBoard_phase s)

/-! Every command. -/

theorem next_of_dormant {c : Instr} {s t : State} (h : exec c s = .next t) (ht : t.Dormant) : ∃ t, exec c s = .next t ∧ t.DormantTillStart :=
  ⟨t, h, ht.tillStart⟩

/-- A command taken in CONFIGURING with a dormant link leaves it dormant, unless it ends CONFIGURING. -/
theorem exec_dormantTillStart (c : Instr) {s : State} (hp : s.phase = .configuring) (hs : s.Dormant) :
    ∃ t, exec c s = .next t ∧ t.DormantTillStart := by
  cases c with
  | powerOnReset j l => exact next_of_dormant rfl (dormant_reset.of_link rfl)
  | warmResetAssert => exact next_of_dormant rfl (dormant_assertReset hs)
  | warmResetRelease j => exact next_of_dormant rfl (dormant_ite _ _ (dormant_releaseReset s j) hs)
  | lockChange asserted => exact next_of_dormant rfl (hs.of_link rfl)
  | readStatus bits => exact ⟨_, rfl, dormantTillStart_read bits _ hs⟩
  | readOutlet bits x clear => exact ⟨_, rfl, dormantTillStart_read bits _ hs⟩
  | readBank bits x => exact ⟨_, rfl, dormantTillStart_read bits _ hs⟩
  | readPeer bits x => exact ⟨_, rfl, dormantTillStart_read bits _ hs⟩
  | readGroup bits x => exact ⟨_, rfl, dormantTillStart_read bits _ hs⟩
  | readEvent bits => exact ⟨_, rfl, dormantTillStart_read bits _ hs⟩
  | readResult bits => exact ⟨_, rfl, dormantTillStart_read bits _ hs⟩
  | switchOn bits x d => exact ⟨_, rfl, dormantTillStart_runningOnly bits 2 _ hp hs⟩
  | switchOff bits x => exact ⟨_, rfl, dormantTillStart_runningOnly bits 2 _ hp hs⟩
  | cycleOutlet bits x w => exact ⟨_, rfl, dormantTillStart_runningOnly bits 3 _ hp hs⟩
  | cycleGroup bits g w => exact ⟨_, rfl, dormantTillStart_runningOnly bits 3 _ hp hs⟩
  | abortGroup bits g => exact ⟨_, rfl, dormantTillStart_runningOnly bits 1 _ hp hs⟩
  | clearTrip bits x => exact ⟨_, rfl, dormantTillStart_linkKept bits 1 (runClearTrip_link x) hp hs⟩
  | resetEnergy bits x => exact ⟨_, rfl, dormantTillStart_linkKept bits 1 (runResetEnergy_link x) hp hs⟩
  | setProtect bits x => exact ⟨_, rfl, dormantTillStart_linkKept bits 3 (runSetProtect_link x) hp hs⟩
  | forgetPeer bits x => exact ⟨_, rfl, dormantTillStart_runningOnly bits 1 _ hp hs⟩
  | setBoard bits a => exact ⟨_, rfl, dormantTillStart_linkKept bits 13 (runSetBoard_link a) hp hs⟩
  | setBank bits a => exact ⟨_, rfl, dormantTillStart_linkKept bits 5 (runSetBank_link a) hp hs⟩
  | setProfile bits a => exact ⟨_, rfl, dormantTillStart_linkKept bits 9 (runSetProfile_link a) hp hs⟩
  | setOutlet bits a => exact ⟨_, rfl, dormantTillStart_linkKept bits 8 (runSetOutlet_link a) hp hs⟩
  | setGroup bits a => exact ⟨_, rfl, dormantTillStart_linkKept bits 4 (runSetGroup_link a) hp hs⟩
  | start bits => exact ⟨_, rfl, dormantTillStart_frame bits 0 (fun _ => dormantTillStart_runStart) hp hs⟩
  | voltageZeroCrossing b edge micros h w =>
    have hpeaks := dormant_notePeaks s b h.peaks hs
    exact next_of_dormant rfl (dormant_unlessReset hs (dormant_ite _ _ hpeaks
      (dormant_issueClaims _ (dormant_takeVoltageCrossing _ b edge _ h w hpeaks))))
  | currentZeroCrossing o micros peak =>
    have hpeak := dormant_notePeak s o peak hs
    exact next_of_dormant rfl (dormant_unlessReset hs (dormant_ite _ _ hpeak (dormant_takeCurrentCrossing _ o _ hpeak)))
  | halfCycleTimeout b h =>
    exact next_of_dormant rfl (dormant_unlessReset hs (dormant_expire _ (fun t ht =>
      dormant_issueClaims _ (dormant_closeHalf _ b h false _ (dormant_notePeaks t b _ ht))) hs))
  | instantTrip o n =>
    exact next_of_dormant rfl (dormant_unlessReset hs (dormant_ite _ _ (dormant_issueClaims _ (dormant_trip s o .instant n hs)) hs))
  | windowTimeout b w => exact next_of_dormant rfl (dormant_timer _ (fun t ht => dormant_endWindow t b w none ht) hs)
  | noCrossingTimeout b => exact next_of_dormant rfl (dormant_issuingTimer _ (fun t ht => dormant_sagCondition t b _ ht) hs)
  | recoveryTimerExpiry b => exact next_of_dormant rfl (dormant_issuingTimer _ (fun t ht => dormant_enterNormal t b ht) hs)
  | closingAlignExpiry o => exact next_of_dormant rfl (dormant_issuingTimer _ (fun t ht => dormant_closingAlignEnds t o ht) hs)
  | openingAlignExpiry o => exact next_of_dormant rfl (dormant_timer _ (fun t ht => dormant_alignOpening t o true ht) hs)
  | coilPulseEnd o => exact next_of_dormant rfl (dormant_timer _ (fun t ht => dormant_startClosingSettle t o ht) hs)
  | closingSettleEnd o => exact next_of_dormant rfl (dormant_timer _ (fun t ht => dormant_endClosing t o ht) hs)
  | openingSettleEnd o => exact next_of_dormant rfl (dormant_issuingTimer _ (fun t ht => dormant_endOpening t o ht) hs)
  | localDwellExpiry o => exact next_of_dormant rfl (dormant_issuingTimer _ (fun t ht => dormant_leaveDwell t o ht) hs)
  | claimWaitExpiry o => exact next_of_dormant rfl (dormant_issuingTimer _ (fun t ht => dormant_expireClaim t o ht) hs)
  | scheduledStatus => exact next_of_dormant rfl (dormant_timer _ (fun t ht => ht.of_eq (dormant_scheduleStatus t ht)) hs)
  | busIdleOffer rivals => exact next_of_dormant rfl (dormant_unlessReset hs (hs.of_eq (dormant_offerOnBus s rivals hs)))
  | attemptFailed m =>
    exact next_of_dormant rfl (dormant_unlessReset hs (dormant_issueClaims _ (hs.of_eq (dormant_attemptFails s m hs))))
  | failedFrame r => exact next_of_dormant rfl (dormant_unlessReset hs (hs.of_eq (dormant_frameFails s r hs)))
  | joinApply k p => exact next_of_dormant rfl (dormant_carried k _ _ hs)
  | statusApply k p => exact next_of_dormant rfl (dormant_carried k _ _ hs)
  | forgetApply k n => exact next_of_dormant rfl (dormant_carried k _ _ hs)
  | claimApply k p => exact next_of_dormant rfl (dormant_carried k _ _ hs)
  | openGroupApply k p => exact next_of_dormant rfl (dormant_carried k _ _ hs)
  | groupOffApply k p => exact next_of_dormant rfl (dormant_carried k _ _ hs)
  | groupOnApply k p => exact next_of_dormant rfl (dormant_carried k _ _ hs)
  | groupAbortApply k p => exact next_of_dormant rfl (dormant_carried k _ _ hs)
  | offGatherExpiry g => exact next_of_dormant rfl (dormant_issuingTimer _ (fun t ht => dormant_endOffGather t g ht) hs)
  | dwellExpiry g => exact next_of_dormant rfl (dormant_issuingTimer _ (fun t ht => dormant_endDwell t g ht) hs)
  | onGatherExpiry g => exact next_of_dormant rfl (dormant_timer _ (fun t ht => dormant_finishCycle t g .incomplete ht) hs)
  | peerLivenessExpiry k => exact next_of_dormant rfl (dormant_stoppedTimer _ (livenessDue_of_dormant hs k) hs)
  | joiningTimerExpiry => exact next_of_dormant rfl (dormant_stoppedTimer _ (joiningDue_of_dormant hs) hs)
  | quietTimerExpiry => exact next_of_dormant rfl (dormant_stoppedTimer _ (quietDue_of_dormant hs) hs)
  | hostReplyCapture what => exact next_of_dormant rfl ((portOnly_capturePort s what).dormant hs)
  | invalidHostFrame bits command =>
    refine ⟨_, rfl, ite_keeps (dormantTillStart_atRising hs (ite_keeps ?noEdge ?rejected)) hs.tillStart⟩
    case noEdge => exact ((portOnly_closeFrame s).dormant hs).tillStart
    case rejected => exact (((portOnly_joinFrame s).trans (portOnly_rejectFrame _)).dormant hs).tillStart

/-- A step taken in CONFIGURING with a dormant link leaves it dormant, unless it ends CONFIGURING. -/
theorem step_dormantTillStart {s t : State} (hp : s.phase = .configuring) (hs : s.Dormant) (h : step s = .next t) : t.DormantTillStart := by
  unfold step at h
  split at h
  · cases h
    exact (dormant_passTime s 1 hs).tillStart
  · next c rest _ =>
    obtain ⟨u, hu, hdormant⟩ := exec_dormantTillStart c (s := { s with pending := rest }) hp (hs.of_link rfl)
    rw [hu] at h
    cases h
    exact hdormant

end Sys2Proof.Machine
end

section
/-! The indicators and ALERT (R25, R26, R186). -/

namespace Sys2Proof.Machine
open Sys2Proof

/-- Out of reset an LED is lit as its indication says (R25). -/
theorem outletLedLit_of_running {s : State} (hr : s.inReset = false) (o : OutletId) :
    s.outletLedLit o = (s.outlet o).state.led.litAt s.boardTime := by simp [State.outletLedLit, hr]

theorem linkLedLit_of_running {s : State} (hr : s.inReset = false) : s.linkLedLit = s.link.state.led.litAt s.boardTime := by
  simp [State.linkLedLit, hr]

/-- ALERT is asserted out of reset exactly while a record is queued (R186). -/
theorem alert_iff (s : State) : s.alert = true ↔ s.inReset = false ∧ s.port.events ≠ [] := by
  simp [State.alert, Port.evt]

theorem alert_eq_false_of_empty {s : State} (h : s.port.events = []) : s.alert = false := by simp [State.alert, Port.evt, h]

/-- Everything is dark and ALERT is negated while RST is asserted (R28, R186). -/
theorem indicators_dark_in_reset {s : State} (hr : s.inReset = true) : (∀ o, s.outletLedLit o = false) ∧ s.linkLedLit = false ∧ s.alert = false := by
  simp [State.outletLedLit, State.linkLedLit, State.alert, hr]

/-- An enabled event that finds the queue empty is queued, and ALERT is asserted (R184, R186). -/
theorem alert_of_post {s : State} {k : EventKind} (subject detail value : Nat) (hr : s.inReset = false)
    (hmask : maskEnables s.cfg.eventMask k = true) (hempty : s.port.events = []) : (s.post k subject detail value).alert = true := by
  rw [alert_iff]
  simp [State.post, hmask, hempty, eventCapacity, hr]

/-- A read that was captured before the rising of select and passes the length check is executed (R175, R179). -/
theorem runRead_captured {s : State} {bits : Nat} {r : ReadRequest} {c : Capture} (hcap : s.port.capture = some c) (hreq : c.request = r)
    (hlen : readLengthOk bits r = true) : s.runRead bits r = (s.readEffect c).finishRead c := by
  have hbits : 8 * (1 + readArgBytes r + readReplyBytes r) ≤ bits := by
    unfold readLengthOk at hlen
    exact of_decide_eq_true (Bool.and_eq_true_iff.mp hlen).2
  have hedge : bits ≠ 0 := by omega
  have hcaptures : readCaptures bits r = true := decide_eq_true (by omega)
  have hkept : s.withCapture r = s := by simp [State.withCapture, hcap, hreq]
  simp [State.runRead, State.onFrame, hedge, hcaptures, hkept, State.endRead, hcap, hlen]

/-- An executed read keeps the queued records but for what its side effect takes (R177, R180). -/
theorem finishRead_events (s : State) (c : Capture) : (s.finishRead c).port.events = s.port.events := by
  unfold State.finishRead
  split <;> rfl

/-- A READ EVENT of a record removes the oldest one (R180). -/
theorem readEffect_event {s : State} {c : Capture} (hreq : c.request = .event) (hev : c.hadEvent = true) :
    (s.readEffect c).port.events = s.port.events.tail := by
  simp [State.readEffect, hreq, hev]

/-- The READ EVENT that removes the last record negates ALERT (R180, R186). -/
theorem readEvent_last_negates_alert {s : State} {bits : Nat} {c : Capture} {e : Event} (hframe : s.takesHostFrames = true)
    (hcap : s.port.capture = some c) (hreq : c.request = .event) (hev : c.hadEvent = true) (hlen : readLengthOk bits .event = true)
    (hlast : s.port.events = [e]) : ∃ t, exec (.readEvent bits) s = .next t ∧ t.alert = false := by
  refine ⟨_, rfl, ?_⟩
  rw [atRising_taken hframe, runRead_captured hcap hreq hlen]
  apply alert_eq_false_of_empty
  rw [finishRead_events, readEffect_event hreq hev, hlast]
  rfl

/-- After either reset the board is CONFIGURING with a dormant link and no record queued (R83, R172, R173, R188). -/
theorem after_either_reset {j : Jumpers} {l : Bool} {s t : State}
    (h : exec (.powerOnReset j l) s = .next t ∨ s.inReset = true ∧ exec (.warmResetRelease j) s = .next t) :
    t.phase = .configuring ∧ t.Dormant ∧ t.port.events = [] := by
  rcases h with h | ⟨hr, h⟩
  · cases h
    exact ⟨rfl, dormant_reset.of_link rfl, rfl⟩
  · have hrelease : exec (.warmResetRelease j) s = .next (s.releaseReset j) := by
      simp [exec, execWarmResetRelease, hr]
    rw [hrelease] at h
    cases h
    exact ⟨rfl, dormant_releaseReset s j, rfl⟩

/-- Settles O22. Each indicator is its function of the state; what START finds of the link is kept by `step_dormantTillStart`. -/
theorem indicatorsFollowTheStates : Obligations.IndicatorsFollowTheStates := by
  unfold Obligations.IndicatorsFollowTheStates
  intro s
  refine ⟨fun hr => ⟨fun o => ?outletLed, ?linkLed, ?alert, ?posted, ?read⟩, indicators_dark_in_reset, ?reset, ?configuring⟩
  case outletLed =>
    rw [outletLedLit_of_running hr]
    cases (s.outlet o).state <;> rfl
  case linkLed =>
    rw [linkLedLit_of_running hr]
    cases s.link.state <;> rfl
  case alert => simp [alert_iff, hr]
  case posted => exact fun k subject detail value hmask hempty => alert_of_post subject detail value hr hmask hempty
  case read => exact fun bits c e hframe hcap hreq hev hlen hlast => readEvent_last_negates_alert hframe hcap hreq hev hlen hlast
  case reset =>
    intro j l t h
    obtain ⟨hphase, hdormant, hempty⟩ := after_either_reset h
    have ⟨hsilent, hidle, hqueue⟩ := hdormant
    exact ⟨hphase, hsilent, hidle, hqueue, linkLedLit_of_dormant hdormant, alert_eq_false_of_empty hempty⟩
  case configuring =>
    intro t hp hsilent hidle hqueue hstep hpt
    have hdormant : t.Dormant := step_dormantTillStart hp ⟨hsilent, hidle, hqueue⟩ hstep hpt
    have ⟨hsilent', hidle', hqueue'⟩ := hdormant
    exact ⟨hsilent', hidle', hqueue', linkLedLit_of_dormant hdormant⟩

end Sys2Proof.Machine
end

section
/-! The state after a power-on reset, record by record (R27, R49). -/

namespace Sys2Proof.Machine
open Sys2Proof

/-- What POWER_ON_RESET leaves: `State.reset` but for the sampled inputs, the serial, the commands that wait and the select line. -/
def State.poweredOn (s : State) (j : Jumpers) (lock : Bool) : State :=
  { State.reset with pending := s.pending, serial := s.serial, port := s.port.afterReset }.sampleInputs j lock

theorem exec_powerOnReset (s : State) (j : Jumpers) (lock : Bool) : exec (.powerOnReset j lock) s = .next (s.poweredOn j lock) := rfl

section
variable (s : State) (j : Jumpers) (lock : Bool)

@[simp] theorem poweredOn_inReset : (s.poweredOn j lock).inReset = false := rfl
@[simp] theorem poweredOn_boardTime : (s.poweredOn j lock).boardTime = 0 := rfl
@[simp] theorem poweredOn_lke : (s.poweredOn j lock).lke = j.lke := rfl
@[simp] theorem poweredOn_lockSample : (s.poweredOn j lock).lockSample = lock := rfl
@[simp] theorem poweredOn_outlet (o : OutletId) : (s.poweredOn j lock).outlet o = Outlet.reset := Tab.get_fill _ _
@[simp] theorem poweredOn_meter (o : OutletId) : (s.poweredOn j lock).meter o = Meter.reset := Tab.get_fill _ _
@[simp] theorem poweredOn_window (b : Bank) : (s.poweredOn j lock).window b = BankWindow.reset := Banked.get_fill _ _
@[simp] theorem poweredOn_line (b : Bank) : (s.poweredOn j lock).line b = Line.reset := Banked.get_fill _ _
@[simp] theorem poweredOn_profile (k : Fin 4) : (s.poweredOn j lock).profiles.get k = Profile.default := Tab.get_fill _ _

/-- No outlet adds to its bank load after a power-on reset (R36, R49). -/
theorem poweredOn_bankLoad (b : Bank) : (s.poweredOn j lock).bankLoad b = 0 := by
  simp only [State.bankLoad, poweredOn_meter]
  cases b <;> rfl

/-- Every outlet is OFF after a power-on reset, so that its LED is dark (R25, R27). -/
theorem poweredOn_outletLedLit (o : OutletId) : (s.poweredOn j lock).outletLedLit o = false := by
  rw [outletLedLit_of_running (poweredOn_inReset s j lock), poweredOn_outlet]
  rfl

end

/-- Settles O10: each record that the outlet switch unit and the metering engine read is the reset one, whatever the state before. -/
theorem powerOnResetSetsTheOutletsAndTheMeters : Obligations.PowerOnResetSetsTheOutletsAndTheMeters := by
  unfold Obligations.PowerOnResetSetsTheOutletsAndTheMeters
  intro j l s
  refine ⟨s.poweredOn j l, exec_powerOnReset s j l, ?outlets, poweredOn_profile s j l, poweredOn_lke s j l, poweredOn_lockSample s j l,
    poweredOn_outletLedLit s j l, ?meters, ?banks, poweredOn_boardTime s j l⟩
  case outlets => simp [Outlet.reset, OutletConfig.default]
  case meters => simp [Meter.reset]
  case banks => simp [BankWindow.reset, Line.reset, poweredOn_bankLoad]

end Sys2Proof.Machine
end

section
/-! CLEAR TRIP and RESET ENERGY (R40, R48). -/

namespace Sys2Proof.Machine
open Sys2Proof

/-- A frame of a command that is not a read, of exactly its length, runs the command in the opened frame and writes its result (R175, R177). -/
theorem atRising_runFrame {s : State} (hframe : s.takesHostFrames = true) (args : Nat) (run : State → Answer) :
    s.atRising (fun s => s.runFrame (8 * (1 + args)) args run) = (run s.openFrame).1.writeResult (run s.openFrame).2 := by
  have hedge : 8 * (1 + args) ≠ 0 := by omega
  have hlength : actionLengthOk (8 * (1 + args)) args = true := decide_eq_true rfl
  rw [atRising_taken hframe, State.runFrame, State.onFrame, if_neg hedge, if_pos hlength]

/-! CLEAR TRIP (R48). -/

theorem exec_clearTrip {s : State} (hframe : s.takesHostFrames = true) (n : Byte) :
    exec (.clearTrip 16 n) s = .next ((runClearTrip n s.openFrame).1.writeResult (runClearTrip n s.openFrame).2) :=
  congrArg Host.Outcome.next (atRising_runFrame hframe 1 (runClearTrip n))

theorem runClearTrip_out_of_range {n : Byte} (hn : n.toNat < 1 ∨ 24 < n.toNat) (s : State) : runClearTrip n s = refuse s .badArg 1 := by
  rw [runClearTrip, outletArg_out_of_range hn]

section
variable {n : Byte} {o : OutletId} {s : State}

theorem runClearTrip_of_member (hn : n.toNat = o.val + 1) (hmember : (s.outlet o).cycle = .group) :
    runClearTrip n s = refuse s .inCycle 0 := by simp [runClearTrip, outletArg_of_number hn, hmember]

theorem runClearTrip_of_not_member (hn : n.toNat = o.val + 1) (hfree : (s.outlet o).cycle ≠ .group) :
    runClearTrip n s = accept (s.clearTripped o) := by simp [runClearTrip, outletArg_of_number hn, hfree]

end

/-- An outlet that enters OFF is at rest there; its over-count is 0, and the move disturbs no window (R2, R35, R42). -/
theorem place_off (s : State) (o : OutletId) :
    s.place o .off none = s.withOutlet o ((s.outlet o).idle .off) { s.meter o with overCount := 0 } := by
  have houtlet : (s.outlet o).place .off none = (s.outlet o).idle .off := by simp [Outlet.place, Outlet.idle, relayFor, coilFor]
  have hmeter (wasLive : Bool) : (s.meter o).follow wasLive ((s.outlet o).idle .off).live .off = { s.meter o with overCount := 0 } := by
    simp [Meter.follow, Outlet.live, Outlet.idle]
  rw [← hmeter, ← houtlet]
  rfl

theorem setTarget_withOutlet (s : State) (o : OutletId) (x : Outlet) (m : Meter) (t : HostTarget) :
    (s.withOutlet o x m).setTarget o t = s.withOutlet o { x with target := t } m := by
  simp [State.withOutlet, State.setTarget, State.modOutlet, State.setOutlet, State.outlet]

theorem clearTripped_of_tripped {s : State} {o : OutletId} (h : (s.outlet o).state = .tripped) :
    s.clearTripped o = s.withOutlet o { (s.outlet o).idle .off with target := .none } { s.meter o with overCount := 0 } := by
  rw [State.clearTripped, if_pos h, place_off, setTarget_withOutlet]

theorem clearTripped_of_not_tripped {s : State} {o : OutletId} (h : (s.outlet o).state ≠ .tripped) : s.clearTripped o = s := if_neg h

/-! RESET ENERGY (R40). -/

theorem exec_resetEnergy {s : State} (hframe : s.takesHostFrames = true) (n : Byte) :
    exec (.resetEnergy 16 n) s = .next ((runResetEnergy n s.openFrame).1.writeResult (runResetEnergy n s.openFrame).2) :=
  congrArg Host.Outcome.next (atRising_runFrame hframe 1 (runResetEnergy n))

theorem runResetEnergy_out_of_range {n : Byte} (hn : 24 < n.toNat) (s : State) : runResetEnergy n s = refuse s .badArg 1 := by
  have hnonzero : n ≠ 0 := by bv_omega
  rw [runResetEnergy, if_neg hnonzero, outletArg_out_of_range (.inr hn)]

theorem runResetEnergy_zero (s : State) : runResetEnergy 0 s = accept { s with meters := s.meters.mapIdx (fun _ m => m.resetEnergy) } := if_pos rfl

theorem runResetEnergy_of_number {n : Byte} {o : OutletId} (hn : n.toNat = o.val + 1) (s : State) :
    runResetEnergy n s = accept (s.modMeter o Meter.resetEnergy) := by
  have hnonzero : n ≠ 0 := by bv_omega
  rw [runResetEnergy, if_neg hnonzero, outletArg_of_number hn]

/-- A number up to 24 is 0 or the number of an outlet (R189). -/
theorem outlet_of_number {n : Nat} (h : n ≤ 24) : n = 0 ∨ ∃ o : OutletId, n = o.val + 1 := by
  rcases n with _ | k
  · exact .inl rfl
  · exact .inr ⟨⟨k, h⟩, rfl⟩

/-- In its range RESET ENERGY writes the meter values alone: the energy values of the outlets it names are zeroed, the others kept. -/
theorem runResetEnergy_in_range {n : Byte} (hn : n.toNat ≤ 24) (s : State) :
    ∃ meters, runResetEnergy n s = accept { s with meters := meters } ∧
      ∀ o, meters.get o = if n.toNat = 0 ∨ n.toNat = o.val + 1 then (s.meter o).resetEnergy else s.meter o := by
  rcases outlet_of_number hn with hzero | ⟨k, hk⟩
  · obtain rfl : n = 0 := BitVec.eq_of_toNat_eq hzero
    exact ⟨_, runResetEnergy_zero s, fun o => by simp [State.meter]⟩
  · refine ⟨_, runResetEnergy_of_number hk s, fun o => ?_⟩
    have hnames : n.toNat = 0 ∨ n.toNat = o.val + 1 ↔ o = k := by omega
    rw [Tab.get_set]
    simp only [hnames]
    split
    · next h => rw [h]
    · rfl

/-- Settles O29, by the cases of each command's run in the opened frame; neither run reads the phase. -/
theorem clearTripAndResetEnergyActAtOnce : Obligations.ClearTripAndResetEnergyActAtOnce := by
  unfold Obligations.ClearTripAndResetEnergyActAtOnce
  refine ⟨fun n s hframe => ?clearTrip, fun n s hframe => ?resetEnergy⟩
  case clearTrip =>
    rw [exec_clearTrip hframe]
    refine ⟨fun hn => ?outOfRange, fun o hn => ⟨fun hmember => ?member, fun hfree htripped => ?tripped, fun hfree hother => ?other⟩⟩
    case outOfRange => rw [runClearTrip_out_of_range hn]; rfl
    case member => rw [runClearTrip_of_member (s := s.openFrame) hn hmember]; rfl
    case tripped => rw [runClearTrip_of_not_member (s := s.openFrame) hn hfree, clearTripped_of_tripped (s := s.openFrame) htripped]; rfl
    case other => rw [runClearTrip_of_not_member (s := s.openFrame) hn hfree, clearTripped_of_not_tripped (s := s.openFrame) hother]; rfl
  case resetEnergy =>
    rw [exec_resetEnergy hframe]
    refine ⟨fun hn => ?outOfRange, fun hn => ?inRange⟩
    case outOfRange => rw [runResetEnergy_out_of_range hn]; rfl
    case inRange =>
      obtain ⟨meters, hrun, hmeters⟩ := runResetEnergy_in_range hn s.openFrame
      rw [hrun]
      exact ⟨{ s.answered .ok 0 with meters := meters }, rfl, rfl, hmeters⟩

end Sys2Proof.Machine
end

section
/-! The host port after either reset (R164, R176, R186, R188). -/

namespace Sys2Proof.Machine
open Sys2Proof

/-- Releasing RST while a warm reset is in progress ends it (R173). -/
theorem exec_warmResetRelease_of_inReset {s : State} (hr : s.inReset = true) (j : Jumpers) :
    exec (.warmResetRelease j) s = .next (s.releaseReset j) := by simp [exec, execWarmResetRelease, hr]

/-- A reset ends in the state that a power-on reset leaves or in the one that the release of RST leaves (R172, R173). -/
theorem either_reset_cases {j : Jumpers} {l : Bool} {s t : State}
    (h : exec (.powerOnReset j l) s = .next t ∨ s.inReset = true ∧ exec (.warmResetRelease j) s = .next t) :
    t = s.poweredOn j l ∨ t = s.releaseReset j := by
  rcases h with h | ⟨hr, h⟩
  · rw [exec_powerOnReset] at h
    cases h
    exact .inl rfl
  · rw [exec_warmResetRelease_of_inReset hr] at h
    cases h
    exact .inr rfl

/-- What either reset leaves of the state that the host port works on (R164, R188). -/
theorem either_reset_port {j : Jumpers} {l : Bool} {s t : State} (h : t = s.poweredOn j l ∨ t = s.releaseReset j) :
    t.port = s.port.afterReset ∧ t.cfg = .default ∧ t.phase = .configuring ∧ t.boardTime = 0 := by
  rcases h with rfl | rfl
  case inl => exact ⟨rfl, rfl, rfl, rfl⟩
  case inr => exact ⟨rfl, rfl, rfl, rfl⟩

section
variable (p : Port)

@[simp] theorem afterReset_events : p.afterReset.events = [] := rfl
@[simp] theorem afterReset_res : p.afterReset.res = false := rfl
@[simp] theorem afterReset_evt : p.afterReset.evt = false := rfl
@[simp] theorem afterReset_lost : p.afterReset.lost = false := rfl
@[simp] theorem afterReset_rej : p.afterReset.rej = false := rfl
@[simp] theorem afterReset_slot : p.afterReset.slot = ⟨.ok, 0⟩ := rfl

end

/-- The default event mask enables every kind (R164). -/
theorem maskEnables_default (k : EventKind) : maskEnables BoardConfig.default.eventMask k = true := by
  cases k <;> rfl

/-- The status byte of a port just reset shows CONFIGURING alone (R176). -/
theorem statusByte_of_afterReset {s : State} {p : Port} (hport : s.port = p.afterReset) (hphase : s.phase = .configuring) : s.statusByte = 0 := by
  simp [State.statusByte, hport, hphase, bitAt, Phase.code]

/-- Settles O12: either reset leaves a reset port and the default mask, in CONFIGURING, at board time 0. -/
theorem eitherResetLeavesThePortEmpty : Obligations.EitherResetLeavesThePortEmpty := by
  unfold Obligations.EitherResetLeavesThePortEmpty
  intro j l s t h
  obtain ⟨hport, hcfg, hphase, htime⟩ := either_reset_port (either_reset_cases h)
  have hempty : t.port.events = [] := by rw [hport, afterReset_events]
  have halert : t.alert = false := alert_eq_false_of_empty hempty
  have hmask (k : EventKind) : maskEnables t.cfg.eventMask k = true := by rw [hcfg, maskEnables_default]
  have hstatus : t.statusByte = 0 := statusByte_of_afterReset hport hphase
  refine ⟨hempty, halert, ?res, ?evt, ?lost, ?rej, ?slot, hmask, hstatus, htime⟩
  case res => rw [hport, afterReset_res]
  case evt => rw [hport, afterReset_evt]
  case lost => rw [hport, afterReset_lost]
  case rej => rw [hport, afterReset_rej]
  case slot => rw [hport, afterReset_slot]

end Sys2Proof.Machine
end

section
/-! The course of each command: what kind of thing its row does, so that a statement about every command is proved kind by kind. -/

namespace Sys2Proof.Machine
open Sys2Proof

/-- The kinds of command: resets and LOCK; host frames that read, that act, or that are rejected whole; captures; timers; crossings, trips and
attempts on the bus; and carried frames. -/
inductive Course where
  | control (f : State → State)
  | read (bits : Nat) (r : ReadRequest)
  | action (bits args : Nat) (run : State → Answer)
  | invalid (bits : Nat) (command : Byte)
  | capture (what : PortCapture)
  | timer (due : State → Option Nat) (fire : State → State)
  | event (f : State → State)
  | carried (source : StationId) (f : PeerFrame)

/-- What a command of each kind does. -/
def Course.run (s : State) : Course → State
  | .control f => f s
  | .read bits r => s.atRising (fun s => s.runRead bits r)
  | .action bits args run => s.atRising (fun s => s.runFrame bits args run)
  | .invalid bits command =>
    if isInvalidFrame bits command then s.atRising (fun s => s.onFrame bits (fun s => s.joinFrame.rejectFrame)) else s
  | .capture what => s.capturePort what
  | .timer due fire => s.unlessReset (fun s => s.expire (due s) fire)
  | .event f => s.unlessReset f
  | .carried source f => s.unlessReset (fun s => s.receive source f (fun s => (s.applies source f).issueClaims))

/-- The course of each command. -/
def course : Instr → Course
  | .powerOnReset j lock => .control (fun s => s.poweredOn j lock)
  | .warmResetAssert => .control State.assertReset
  | .warmResetRelease j => .control (fun s => if s.inReset then s.releaseReset j else s)
  | .lockChange v => .control (fun s => { s with lockPin := v, lockSample := v })
  | .readStatus bits => .read bits .status
  | .readOutlet bits x clear => .read bits (.outlet x clear)
  | .readBank bits x => .read bits (.bank x)
  | .readPeer bits x => .read bits (.peer x)
  | .readGroup bits x => .read bits (.group x)
  | .readEvent bits => .read bits .event
  | .readResult bits => .read bits .result
  | .switchOn bits x d => .action bits 2 (runSwitch x d)
  | .switchOff bits x => .action bits 2 (runSwitch x 0)
  | .cycleOutlet bits x w => .action bits 3 (runCycleOutlet x w)
  | .cycleGroup bits g w => .action bits 3 (runCycleGroup g w)
  | .abortGroup bits g => .action bits 1 (runAbortGroup g)
  | .clearTrip bits x => .action bits 1 (runClearTrip x)
  | .resetEnergy bits x => .action bits 1 (runResetEnergy x)
  | .setProtect bits set => .action bits 3 (runSetProtect set)
  | .forgetPeer bits x => .action bits 1 (runForgetPeer x)
  | .setBoard bits a => .action bits 13 (runSetBoard a)
  | .setBank bits a => .action bits 5 (runSetBank a)
  | .setProfile bits a => .action bits 9 (runSetProfile a)
  | .setOutlet bits a => .action bits 8 (runSetOutlet a)
  | .setGroup bits a => .action bits 4 (runSetGroup a)
  | .start bits => .action bits 0 runStart
  | .voltageZeroCrossing b edge micros h w =>
    .event (fun s =>
      let s1 := s.notePeaks b h.peaks
      if heldOff (s.line b).lastCross (s.now micros) then s1 else (s1.takeVoltageCrossing b edge (s.now micros) h w).issueClaims)
  | .currentZeroCrossing o micros peak =>
    .event (fun s =>
      let s1 := s.notePeak o peak
      if heldOff (s.meter o).lastCross (s.now micros) then s1 else s1.takeCurrentCrossing o (s.now micros))
  | .halfCycleTimeout b h =>
    .timer (fun s => s.halfDue b) (fun s => ((s.notePeaks b h.peaks).closeHalf b h false (s.window b).nextHalf).issueClaims)
  | .instantTrip o n => .event (fun s => if instantLimit < n then (s.trip o .instant n).issueClaims else s)
  | .windowTimeout b w => .timer (fun s => s.windowDue b) (fun s => s.endWindow b w none)
  | .noCrossingTimeout b => .timer (fun s => s.noCrossingDue b) (fun s => (s.sagCondition b .noCrossing).issueClaims)
  | .recoveryTimerExpiry b => .timer (fun s => s.recoveryDue b) (fun s => (s.enterNormal b).issueClaims)
  | .closingAlignExpiry o => .timer (fun s => s.phaseDue o .closing .align) (fun s => (s.closingAlignEnds o).issueClaims)
  | .openingAlignExpiry o => .timer (fun s => s.phaseDue o .opening .align) (fun s => s.alignOpening o true)
  | .coilPulseEnd o => .timer (fun s => s.phaseDue o .closing .coil) (fun s => s.startClosingSettle o)
  | .closingSettleEnd o => .timer (fun s => s.phaseDue o .closing .settle) (fun s => s.endClosing o)
  | .openingSettleEnd o => .timer (fun s => s.phaseDue o .opening .settle) (fun s => (s.endOpening o).issueClaims)
  | .localDwellExpiry o => .timer (fun s => s.localDwellDue o) (fun s => (s.leaveDwell o).issueClaims)
  | .claimWaitExpiry o => .timer (fun s => s.claimWaitDue o) (fun s => (s.expireClaim o).issueClaims)
  | .scheduledStatus => .timer (fun s => some s.statusDue) State.scheduleStatus
  | .busIdleOffer rivals => .event (fun s => s.offerOnBus rivals)
  | .attemptFailed mismatch => .event (fun s => (s.attemptFails mismatch).issueClaims)
  | .failedFrame r => .event (fun s => s.frameFails r)
  | .joinApply k p => .carried k (.join p)
  | .statusApply k p => .carried k (.status p)
  | .forgetApply k n => .carried k (.forget n)
  | .claimApply k p => .carried k (.claim p)
  | .openGroupApply k p => .carried k (.openGroup p)
  | .groupOffApply k p => .carried k (.groupOff p)
  | .groupOnApply k p => .carried k (.groupOn p)
  | .groupAbortApply k p => .carried k (.groupAbort p)
  | .offGatherExpiry g => .timer (fun s => s.offGatherDue g) (fun s => (s.endOffGather g).issueClaims)
  | .dwellExpiry g => .timer (fun s => s.dwellDue g) (fun s => (s.endDwell g).issueClaims)
  | .onGatherExpiry g => .timer (fun s => s.onGatherDue g) (fun s => s.finishCycle g .incomplete)
  | .peerLivenessExpiry k => .timer (fun s => s.livenessDue k) (fun s => (s.losePeer k).issueClaims)
  | .joiningTimerExpiry => .timer State.joiningDue (fun s => s.enterActive.issueClaims)
  | .quietTimerExpiry => .timer State.quietDue State.enterJoining
  | .hostReplyCapture what => .capture what
  | .invalidHostFrame bits command => .invalid bits command

/-- Every command does what its course says, and completes. -/
theorem exec_course (c : Instr) (s : State) : exec c s = .next ((course c).run s) := by
  cases c <;> rfl

theorem eq_run_of_exec {c : Instr} {s t : State} (h : exec c s = .next t) : t = (course c).run s := by
  rw [exec_course] at h
  exact (Host.Outcome.next.inj h).symm

/-- Which commands are host frames, with the check of R175, read off the course. -/
def Course.frame : Course → Option (Nat × Bool)
  | .read bits r => some (bits, readLengthOk bits r)
  | .action bits args _ => some (bits, actionLengthOk bits args)
  | .invalid bits command => if isInvalidFrame bits command then some (bits, false) else none
  | _ => none

theorem hostFrame_eq (c : Instr) : hostFrame c = (course c).frame := by
  cases c <;> rfl

def Course.request : Course → Option ReadRequest
  | .read _ r => some r
  | _ => none

theorem readOf_eq (c : Instr) : readOf c = (course c).request := by
  cases c <;> rfl

def Course.isControl : Course → Bool
  | .control _ => true
  | _ => false

theorem actsInReset_eq (c : Instr) : actsInReset c = (course c).isControl := by
  cases c <;> rfl

def Course.captures : Course → Option PortCapture
  | .capture what => some what
  | _ => none

theorem captures_eq_some {c : Instr} {what : PortCapture} : (course c).captures = some what ↔ c = .hostReplyCapture what := by
  cases c <;> simp [course, Course.captures]

/-- Settles O1. -/
theorem stepRunsTheFrontCommand : Obligations.StepRunsTheFrontCommand := fun _ _ => rfl

/-! A step is 1 ms that passes, or the front command. -/

theorem step_cases {s t : State} (h : step s = .next t) :
    t = s.passTime 1 ∨ ∃ c rest, s.pending = c :: rest ∧ t = (course c).run { s with pending := rest } := by
  unfold step at h
  split at h
  · cases h
    exact .inl rfl
  · next c rest hp => exact .inr ⟨c, rest, hp, eq_run_of_exec h⟩

end Sys2Proof.Machine
end

section
/-! What an action command answers: a refusal with no effect, or one of the effects listed here (R16 to R19, R23, R40, R48, R100, R139, R152,
R163 to R171, R177). -/

namespace Sys2Proof.Machine
open Sys2Proof

/-- The effect of an accepted action command on the state in which its frame is open. -/
inductive Effect (s : State) : State → Prop
  | onFromOff (o : OutletId) (hst : (s.outlet o).state = .off) : Effect s ((((s.takeInHand o).setTarget o .on).enterClaiming o).issueClaims)
  | onKept (o : OutletId) : Effect s (((s.takeInHand o).setTarget o .on).issueClaims)
  | onMet (o : OutletId) : Effect s ((((s.takeInHand o).setTarget o .on).meetTarget o).issueClaims)
  | onFromDwell (o : OutletId) : Effect s ((((s.takeInHand o).setTarget o .on).leaveDwell o).issueClaims)
  | offMet (o : OutletId) : Effect s ((((s.takeInHand o).setTarget o .off).meetTarget o).issueClaims)
  | offFromClaiming (o : OutletId) :
    Effect s (((((((s.takeInHand o).leaveClaiming o).setCycle o .none).setRestore o false).setTarget o .off).enterOff o).issueClaims)
  | offPending (o : OutletId) (hst : (s.outlet o).state = .closing) :
    Effect s ((((((s.takeInHand o).setPendingOff o).setRestore o false).endLocal o).setTarget o .off).issueClaims)
  | offFromOn (o : OutletId) (hst : (s.outlet o).state = .on) : Effect s ((((s.takeInHand o).setTarget o .off).enterOpening o).issueClaims)
  | offFromOpening (o : OutletId) : Effect s (((((s.takeInHand o).setRestore o false).endLocal o).setTarget o .off).issueClaims)
  | offFromDwell (o : OutletId) (hst : (s.outlet o).state = .dwell) :
    Effect s ((((((s.takeInHand o).setCycle o .none).setRestore o false).setTarget o .off).enterOff o).issueClaims)
  | offFromShed (o : OutletId) (hst : (s.outlet o).state = .shed) : Effect s ((((s.takeInHand o).setTarget o .off).enterOff o).issueClaims)
  | offTripped (o : OutletId) : Effect s ((s.takeInHand o).issueClaims)
  | cycled (o : OutletId) (dwell : Nat) (hst : (s.outlet o).state = .on) :
    Effect s (((((s.takeInHand o).setCycle o (.localCycle dwell)).setRestore o true).setTarget o .on).enterOpening o)
  | originated (e : GroupEntry) (p : OpenGroupPayload) (tag : Tag) {t : State} (ht : s.offer plainUrgency (.openGroup p) = some t) :
    Effect s (t.originated e tag)
  | aborted (g : Nat) : Effect s ((s.offerAbort g .host).issueClaims)
  | alreadyAborted : Effect s s.issueClaims
  | cleared (o : OutletId) : Effect s (s.clearTripped o)
  | energyReset : Effect s { s with meters := s.meters.mapIdx (fun _ m => m.resetEnergy) }
  | energyResetOf (o : OutletId) : Effect s (s.modMeter o Meter.resetEnergy)
  | protectionSet (set : OutletSet) : Effect s (s.protect set)
  | forgetting (k : StationId) {t : State} (ht : s.offer plainUrgency (.forget k) = some t) : Effect s t
  | boardSet (x : BoardArgs) (hp : s.phase = .configuring) : Effect s { s with cfg := boardOf x }
  | bankSet (b : Bank) (x : BankConfig) (hp : s.phase = .configuring) : Effect s (s.setBankConfig b x)
  | profileSet (k : Fin 4) (x : Profile) (hp : s.phase = .configuring) : Effect s { s with profiles := s.profiles.set k x }
  | outletSet (g : Nat) (o : OutletId) (x : OutletConfig) (hp : s.phase = .configuring) :
    Effect s ((s.nameGroup g).modOutlet o (fun r => { r with cfg := x }))
  | groupSet (g dwell : Nat) (policy : Policy) (hp : s.phase = .configuring) : Effect s (s.putGroup g dwell policy)
  | started (hp : s.phase = .configuring) : Effect s s.startBoard

/-- The answer refuses and changes nothing, or accepts with an effect that satisfies `E`. -/
def Answer.Of (s : State) (E : State → Prop) (a : Answer) : Prop :=
  (∃ code detail, code ≠ ResultCode.ok ∧ a = refuse s code detail) ∨ ∃ t, E t ∧ a = accept t

section
variable {s : State} {E : State → Prop}

theorem answer_refuse {code : ResultCode} (detail : Nat) (h : code ≠ .ok) : (refuse s code detail).Of s E := .inl ⟨code, detail, h, rfl⟩

theorem answer_accept {t : State} (h : E t) : (accept t).Of s E := .inr ⟨t, h, rfl⟩

theorem answer_ite {c : Prop} [Decidable c] {a b : Answer} (ha : c → a.Of s E) (hb : ¬ c → b.Of s E) : (if c then a else b).Of s E := by
  split
  · next h => exact ha h
  · next h => exact hb h

theorem answer_whenRunning {run : State → Answer} (h : s.phase = .running → (run s).Of s E) : (whenRunning run s).Of s E :=
  answer_ite h (fun _ => answer_refuse 0 nofun)

theorem answer_whenConfiguring {run : State → Answer} (h : s.phase = .configuring → (run s).Of s E) : (whenConfiguring run s).Of s E :=
  answer_ite h (fun _ => answer_refuse 0 nofun)

theorem answer_whenInRange {checks : List Bool} {run : State → Answer} (h : (run s).Of s E) : (whenInRange checks s run).Of s E := by
  unfold whenInRange
  split
  · exact answer_refuse _ nofun
  · exact h

theorem answer_checkOutlet {o : OutletId} {run : State → Answer} (h : (run s).Of s E) : (s.checkOutlet o run).Of s E :=
  answer_ite (fun _ => answer_refuse 0 nofun) (fun _ => answer_ite (fun _ => answer_refuse 0 nofun) (fun _ => h))

/-- Accepted effects are followed by the claims they make issuable; a refusal is not (R107). -/
theorem answer_issuing {a : Answer} (h : a.Of s (fun t => E t.issueClaims)) : a.issuing.Of s E := by
  rcases h with ⟨code, detail, hcode, rfl⟩ | ⟨t, ht, rfl⟩
  · have hne : (⟨code, detail⟩ : ResultSlot) ≠ okSlot := fun h => hcode (congrArg ResultSlot.code h)
    have hsame : (refuse s code detail).issuing = refuse s code detail := if_neg hne
    rw [hsame]
    exact answer_refuse detail hcode
  · exact .inr ⟨t.issueClaims, ht, rfl⟩

end

/-! The answers of each command. -/

variable (s : State)

theorem switchOn_answers (o : OutletId) : (State.switchOn o s).Of s (fun t => Effect s t.issueClaims) := by
  unfold State.switchOn
  split
  case h_1 hst => exact answer_accept (.onFromOff o hst)
  case h_2 => exact answer_accept (.onKept o)
  case h_3 => exact answer_accept (.onKept o)
  case h_4 => exact answer_ite (fun _ => answer_refuse 0 nofun) (fun _ => answer_accept (.onKept o))
  case h_5 => exact answer_accept (.onMet o)
  case h_6 => exact answer_refuse 0 nofun
  case h_7 => exact answer_accept (.onFromDwell o)
  case h_8 => exact answer_refuse 0 nofun

theorem switchOff_answers (o : OutletId) : (State.switchOff o s).Of s (fun t => Effect s t.issueClaims) := by
  unfold State.switchOff
  split
  case h_1 => exact answer_accept (.offMet o)
  case h_2 => exact answer_accept (.offFromClaiming o)
  case h_3 hst => exact answer_accept (.offPending o hst)
  case h_4 hst => exact answer_accept (.offFromOn o hst)
  case h_5 => exact answer_accept (.offFromOpening o)
  case h_6 hst => exact answer_accept (.offFromDwell o hst)
  case h_7 hst => exact answer_accept (.offFromShed o hst)
  case h_8 => exact answer_accept (.offTripped o)

theorem runSwitch_answers (x d : Byte) : (runSwitch x d s).Of s (Effect s) := by
  refine answer_whenRunning (fun _ => ?_)
  split
  · exact answer_refuse 1 nofun
  · next o _ =>
    exact answer_ite (fun _ => answer_issuing (answer_checkOutlet (switchOn_answers s o)))
      (fun _ => answer_ite (fun _ => answer_issuing (answer_checkOutlet (switchOff_answers s o))) (fun _ => answer_refuse 2 nofun))

theorem cycleOutlet_answers (o : OutletId) (w : Nat) : (State.cycleOutlet o w s).Of s (Effect s) := by
  unfold State.cycleOutlet
  split
  case h_1 hst => exact answer_accept (.cycled o w hst)
  all_goals exact answer_refuse 0 nofun

theorem runCycleOutlet_answers (x : Byte) (w : BitVec 16) : (runCycleOutlet x w s).Of s (Effect s) := by
  refine answer_whenRunning (fun _ => ?_)
  split
  · exact answer_refuse 1 nofun
  · next o _ => exact answer_ite (fun _ => answer_checkOutlet (cycleOutlet_answers s o _)) (fun _ => answer_refuse 2 nofun)

theorem notTakenCode_ne_ok : s.notTakenCode ≠ .ok := by
  unfold State.notTakenCode
  split <;> nofun

theorem originate_answers (e : GroupEntry) (w : Nat) : (s.originate e w).Of s (Effect s) := by
  refine answer_ite (fun _ => answer_refuse 0 nofun) (fun _ => ?_)
  split
  · exact answer_refuse _ nofun
  · refine answer_ite (fun _ => answer_refuse 0 nofun) (fun _ => ?_)
    split
    · exact answer_refuse 0 (notTakenCode_ne_ok s)
    · next ht => exact answer_accept (.originated e _ _ ht)

theorem runCycleGroup_answers (g : Byte) (w : BitVec 16) : (runCycleGroup g w s).Of s (Effect s) := by
  refine answer_whenRunning (fun _ => answer_ite (fun _ => answer_refuse 1 nofun) (fun _ => answer_ite (fun _ => answer_refuse 2 nofun) (fun _ => ?_)))
  split
  · exact answer_refuse 0 nofun
  · exact originate_answers s _ _

theorem hostAbort_answers (g : Nat) : (s.hostAbort g).Of s (fun t => Effect s t.issueClaims) := by
  unfold State.hostAbort
  split
  · exact answer_refuse 0 nofun
  · split
    case h_1 | h_2 => exact answer_accept (.aborted g)
    case h_3 => exact answer_refuse 0 nofun
    case h_4 | h_5 => exact answer_accept .alreadyAborted

theorem runAbortGroup_answers (g : Byte) : (runAbortGroup g s).Of s (Effect s) := by
  refine answer_whenRunning (fun _ => answer_ite (fun _ => answer_refuse 1 nofun) (fun _ => ?_))
  split
  · exact answer_refuse 0 nofun
  · exact answer_issuing (hostAbort_answers s _)

theorem runClearTrip_answers (x : Byte) : (runClearTrip x s).Of s (Effect s) := by
  unfold runClearTrip
  split
  · exact answer_refuse 1 nofun
  · exact answer_ite (fun _ => answer_refuse 0 nofun) (fun _ => answer_accept (.cleared _))

theorem runResetEnergy_answers (x : Byte) : (runResetEnergy x s).Of s (Effect s) := by
  refine answer_ite (fun _ => answer_accept .energyReset) (fun _ => ?_)
  split
  · exact answer_refuse 1 nofun
  · exact answer_accept (.energyResetOf _)

theorem runSetProtect_answers (set : OutletSet) : (runSetProtect set s).Of s (Effect s) := by
  refine answer_ite (fun _ => answer_refuse 0 nofun) (fun _ => ?_)
  split
  · exact answer_refuse _ nofun
  · split
    · exact answer_refuse _ nofun
    · exact answer_accept (.protectionSet set)

theorem runForgetPeer_answers (x : Byte) : (runForgetPeer x s).Of s (Effect s) := by
  refine answer_whenRunning (fun _ => ?_)
  split
  · exact answer_refuse 1 nofun
  · refine answer_ite (fun _ => answer_refuse 1 nofun) (fun _ => answer_ite (fun _ => answer_refuse 0 nofun) (fun _ => ?_))
    split
    · exact answer_refuse 0 (notTakenCode_ne_ok s)
    · next ht => exact answer_accept (.forgetting _ ht)

theorem runSetBoard_answers (x : BoardArgs) : (runSetBoard x s).Of s (Effect s) :=
  answer_whenConfiguring (fun hp => answer_whenInRange (answer_accept (.boardSet x hp)))

theorem runSetBank_answers (x : BankArgs) : (runSetBank x s).Of s (Effect s) := by
  refine answer_whenConfiguring (fun hp => ?_)
  split
  · exact answer_refuse 0 nofun
  · exact answer_whenInRange (answer_accept (.bankSet _ _ hp))

theorem runSetProfile_answers (x : ProfileArgs) : (runSetProfile x s).Of s (Effect s) := by
  refine answer_whenConfiguring (fun hp => ?_)
  split
  · exact answer_refuse 0 nofun
  · exact answer_whenInRange (answer_accept (.profileSet _ _ hp))

theorem runSetOutlet_answers (x : OutletArgs) : (runSetOutlet x s).Of s (Effect s) := by
  refine answer_whenConfiguring (fun hp => ?_)
  split
  · exact answer_refuse 0 nofun
  · exact answer_whenInRange (answer_ite (fun _ => answer_refuse _ nofun) (fun _ => answer_accept (.outletSet _ _ _ hp)))

theorem runSetGroup_answers (x : GroupArgs) : (runSetGroup x s).Of s (Effect s) :=
  answer_whenConfiguring (fun hp => answer_ite (fun _ => answer_refuse 0 nofun) (fun _ =>
    answer_whenInRange (answer_ite (fun _ => answer_refuse _ nofun) (fun _ => answer_accept (.groupSet _ _ _ hp)))))

theorem runStart_answers : (runStart s).Of s (Effect s) := by
  refine answer_whenConfiguring (fun hp => ?_)
  split
  · exact answer_refuse _ nofun
  · split
    · exact answer_refuse _ nofun
    · exact answer_accept (.started hp)

/-- Every action command refuses with no effect, or accepts with an effect of the list. -/
theorem action_answers {c : Instr} {bits args : Nat} {run : State → Answer} (h : course c = .action bits args run) : (run s).Of s (Effect s) := by
  cases c with
  | switchOn _ x d => cases h; exact runSwitch_answers s x d
  | switchOff _ x => cases h; exact runSwitch_answers s x 0
  | cycleOutlet _ x w => cases h; exact runCycleOutlet_answers s x w
  | cycleGroup _ g w => cases h; exact runCycleGroup_answers s g w
  | abortGroup _ g => cases h; exact runAbortGroup_answers s g
  | clearTrip _ x => cases h; exact runClearTrip_answers s x
  | resetEnergy _ x => cases h; exact runResetEnergy_answers s x
  | setProtect _ set => cases h; exact runSetProtect_answers s set
  | forgetPeer _ x => cases h; exact runForgetPeer_answers s x
  | setBoard _ x => cases h; exact runSetBoard_answers s x
  | setBank _ x => cases h; exact runSetBank_answers s x
  | setProfile _ x => cases h; exact runSetProfile_answers s x
  | setOutlet _ x => cases h; exact runSetOutlet_answers s x
  | setGroup _ x => cases h; exact runSetGroup_answers s x
  | start _ => cases h; exact runStart_answers s
  | _ => cases h

/-- What an action's effects keep, the action keeps. -/
theorem action_keeps {P : State → Prop} {s : State} {c : Instr} {bits args : Nat} {run : State → Answer} (h : course c = .action bits args run)
    (hs : P s) (heffect : ∀ t, Effect s t → P t) : P (run s).1 := by
  rcases action_answers s h with ⟨code, detail, -, hrun⟩ | ⟨t, ht, hrun⟩
  · rw [hrun]
    exact hs
  · rw [hrun]
    exact heffect t ht

end Sys2Proof.Machine
end

section
/-! What every command keeps: the parts of a command's course that a proof about one property has to look at. -/

namespace Sys2Proof.Machine
open Sys2Proof

/-- Nothing but the host port differs, and no record enters or leaves the event queue. -/
def FrameOnly (s t : State) : Prop := PortOnly s t ∧ t.port.events = s.port.events

section
variable {s t u : State}

theorem FrameOnly.trans (h : FrameOnly s t) (k : FrameOnly t u) : FrameOnly s u := ⟨h.1.trans k.1, k.2.trans h.2⟩

theorem FrameOnly.ite {c : Prop} [Decidable c] (h : FrameOnly s t) (k : FrameOnly s u) : FrameOnly s (if c then t else u) := by
  split
  · exact h
  · exact k

end

theorem frameOnly_refl (s : State) : FrameOnly s s := ⟨rfl, rfl⟩
theorem frameOnly_beginFrame (s : State) : FrameOnly s s.beginFrame := ⟨rfl, rfl⟩
theorem frameOnly_openFrame (s : State) : FrameOnly s s.openFrame := ⟨rfl, rfl⟩
theorem frameOnly_closeFrame (s : State) : FrameOnly s s.closeFrame := ⟨rfl, rfl⟩
theorem frameOnly_discardFrame (s : State) : FrameOnly s s.discardFrame := ⟨rfl, rfl⟩
theorem frameOnly_rejectFrame (s : State) : FrameOnly s s.rejectFrame := ⟨rfl, rfl⟩
theorem frameOnly_joinFrame (s : State) : FrameOnly s s.joinFrame := .ite (frameOnly_refl s) (frameOnly_openFrame s)
theorem frameOnly_writeResult (s : State) (r : ResultSlot) : FrameOnly s (s.writeResult r) := ⟨rfl, rfl⟩
theorem frameOnly_captureReply (s : State) (r : ReadRequest) : FrameOnly s (s.captureReply r) := ⟨rfl, rfl⟩
theorem frameOnly_finishRead (s : State) (c : Capture) : FrameOnly s (s.finishRead c) := ⟨portOnly_finishRead s c, finishRead_events s c⟩

theorem frameOnly_withCapture (s : State) (r : ReadRequest) : FrameOnly s (s.withCapture r) := by
  unfold State.withCapture
  split
  · exact .ite (frameOnly_refl s) (frameOnly_captureReply s r)
  · exact frameOnly_captureReply s r

theorem frameOnly_capturePort (s : State) (what : PortCapture) : FrameOnly s (s.capturePort what) := by
  unfold State.capturePort
  split
  · exact .ite (frameOnly_discardFrame s) (frameOnly_beginFrame s)
  · exact .ite (frameOnly_captureReply s _) (frameOnly_discardFrame s)

/-- What keeps `P` when command `c` runs in `s`: each part that a course is made of. -/
structure KeptBy (P : State → Prop) (c : Instr) (s : State) : Prop where
  start : P s
  control : ∀ f, course c = .control f → P (f s)
  frame : ∀ {t u}, FrameOnly t u → P t → P u
  readEffect : ∀ t r, P t → P (t.readEffect r)
  action : ∀ bits args run, course c = .action bits args run → ∀ t, Effect s.openFrame t → P t
  timer : ∀ due fire, course c = .timer due fire → ∀ d, due s = some d → P (fire (s.passTime d))
  event : ∀ f, course c = .event f → P (f s)
  carried : ∀ k f, course c = .carried k f → P (s.receive k f (fun s => (s.applies k f).issueClaims))

namespace KeptBy
variable {P : State → Prop} {c : Instr} {s : State} (h : KeptBy P c s)
include h

theorem closed : P s.closeFrame := h.frame (frameOnly_closeFrame s) h.start

theorem opened : P s.openFrame := h.frame (frameOnly_openFrame s) h.start

theorem endRead {t : State} (ht : P t) (bits : Nat) (r : ReadRequest) : P (t.endRead bits r) := by
  have hreject : P t.rejectFrame := h.frame (frameOnly_rejectFrame t) ht
  unfold State.endRead
  split
  · exact hreject
  · exact ite_keeps (h.frame (frameOnly_finishRead _ _) (h.readEffect _ _ ht)) hreject

theorem ofRead (bits : Nat) (r : ReadRequest) : P ((Course.read bits r).run s) := by
  refine ite_keeps (ite_keeps h.closed (ite_keeps ?captured ?rejected)) h.closed
  case captured => exact h.endRead (h.frame (frameOnly_withCapture s r) h.start) bits r
  case rejected => exact h.frame (frameOnly_rejectFrame _) h.opened

theorem ofAction {bits args : Nat} {run : State → Answer} (hc : course c = .action bits args run) : P ((Course.action bits args run).run s) := by
  refine ite_keeps (ite_keeps h.closed (ite_keeps ?executed ?rejected)) h.closed
  case executed => exact h.frame (frameOnly_writeResult _ _) (action_keeps hc h.opened (h.action _ _ _ hc))
  case rejected => exact h.frame (frameOnly_rejectFrame _) h.opened

theorem ofInvalid (bits : Nat) (command : Byte) : P ((Course.invalid bits command).run s) :=
  ite_keeps (ite_keeps (ite_keeps h.closed (h.frame ((frameOnly_joinFrame s).trans (frameOnly_rejectFrame _)) h.start)) h.closed) h.start

theorem ofTimer {due : State → Option Nat} {fire : State → State} (hc : course c = .timer due fire) : P ((Course.timer due fire).run s) := by
  refine ite_keeps h.start ?_
  unfold State.expire
  split
  · exact h.start
  · next d hd => exact h.timer _ _ hc d hd

/-- The command keeps `P`. -/
theorem result : P ((course c).run s) := by
  cases hc : course c with
  | control f => exact h.control f hc
  | read bits r => exact h.ofRead bits r
  | action bits args run => exact h.ofAction hc
  | invalid bits command => exact h.ofInvalid bits command
  | capture what => exact h.frame (frameOnly_capturePort s what) h.start
  | timer due fire => exact h.ofTimer hc
  | event f => exact ite_keeps h.start (h.event f hc)
  | carried k f => exact ite_keeps h.start (h.carried k f hc)

end KeptBy

end Sys2Proof.Machine
end

section
/-! The inputs and the configuration through every command (R24, R163 to R170). -/

namespace Sys2Proof.Machine
open Sys2Proof

/-- The commands that wait, the serial and the samples of LKE and LOCK, which no command but a reset or LOCK changes. -/
def State.inputs (s : State) : List Instr × Serial × Bool × Bool := (s.pending, s.serial, s.lke, s.lockSample)

theorem inputs_of_board {s t : State} (h : t.board = s.board) : t.inputs = s.inputs :=
  congrArg (fun b : Board => (b.pending, b.serial, b.lke, b.lockSample)) h

theorem inputs_startBoard (s : State) : s.startBoard.inputs = s.inputs := (inputs_of_board (board_enterJoining _)).trans rfl

theorem inputs_nameGroup (s : State) (g : Nat) : (s.nameGroup g).inputs = s.inputs := by
  unfold State.nameGroup
  split <;> rfl

/-- Taken out of CONFIGURING an effect leaves the configuration alone. -/
theorem board_effect {s t : State} (h : Effect s t) (hp : s.phase ≠ .configuring) : t.board = s.board := by
  cases h with
  | onFromOff o | onMet o | onFromDwell o => simp
  | onKept o | offFromOpening o | offTripped o => simp
  | offMet o | offFromClaiming o | offPending o | offFromOn o => simp
  | offFromDwell o | offFromShed o | cycled o w => simp
  | originated e p tag ht => rw [board_originated, board_offer ht]
  | aborted g | alreadyAborted => simp
  | cleared o => exact board_clearTripped s o
  | energyReset | energyResetOf o => rfl
  | protectionSet set => simp
  | forgetting k ht => exact board_offer ht
  | boardSet x hc | bankSet b x hc | profileSet k x hc => exact absurd hc hp
  | outletSet g o x hc | groupSet g w p hc | started hc => exact absurd hc hp

theorem inputs_effect {s t : State} (h : Effect s t) : t.inputs = s.inputs := by
  by_cases hp : s.phase = .configuring
  · cases h with
    | boardSet x | bankSet b x | profileSet k x | groupSet g w p => rfl
    | outletSet g o x => exact inputs_nameGroup s g
    | started => exact inputs_startBoard s
    | onFromOff o | onMet o | onFromDwell o => exact inputs_of_board (by simp)
    | onKept o | offFromOpening o | offTripped o => exact inputs_of_board (by simp)
    | offMet o | offFromClaiming o | offPending o | offFromOn o => exact inputs_of_board (by simp)
    | offFromDwell o | offFromShed o | cycled o w => exact inputs_of_board (by simp)
    | originated e p tag ht => exact inputs_of_board ((board_originated _ e tag).trans (board_offer ht))
    | aborted g | alreadyAborted => exact inputs_of_board (by simp)
    | cleared o => exact inputs_of_board (board_clearTripped s o)
    | energyReset | energyResetOf o => rfl
    | protectionSet set => exact inputs_of_board (by simp)
    | forgetting k ht => exact inputs_of_board (board_offer ht)
  · exact inputs_of_board (board_effect h hp)

theorem board_fire {c : Instr} {due : State → Option Nat} {fire : State → State} (h : course c = .timer due fire) (s : State) :
    (fire s).board = s.board := by
  cases c with
  | halfCycleTimeout b m => cases h; simp
  | windowTimeout b w => cases h; simp
  | noCrossingTimeout b => cases h; simp
  | recoveryTimerExpiry b => cases h; simp
  | closingAlignExpiry o => cases h; simp
  | openingAlignExpiry o => cases h; simp
  | coilPulseEnd o => cases h; simp
  | closingSettleEnd o => cases h; simp
  | openingSettleEnd o => cases h; simp
  | localDwellExpiry o => cases h; simp
  | claimWaitExpiry o => cases h; simp
  | scheduledStatus => cases h; simp
  | offGatherExpiry g => cases h; simp
  | dwellExpiry g => cases h; simp
  | onGatherExpiry g => cases h; simp
  | peerLivenessExpiry k => cases h; simp
  | joiningTimerExpiry => cases h; simp
  | quietTimerExpiry => cases h; simp
  | _ => cases h

theorem board_event {c : Instr} {f : State → State} (h : course c = .event f) (s : State) : (f s).board = s.board := by
  cases c with
  | voltageZeroCrossing b edge micros m w => cases h; dsimp only; split <;> simp
  | currentZeroCrossing o micros peak => cases h; dsimp only; split <;> simp
  | instantTrip o n => cases h; dsimp only; split <;> simp
  | busIdleOffer rivals => cases h; simp
  | attemptFailed m => cases h; simp
  | failedFrame r => cases h; simp
  | _ => cases h

theorem board_applies (s : State) (k : StationId) (f : PeerFrame) : (s.applies k f).board = s.board := by
  cases f <;> simp [State.applies]

/-- A command that is no reset, taken out of CONFIGURING or not of the configuration, keeps the board's inputs and configuration. -/
theorem board_run {c : Instr} {s : State} (hcontrol : (course c).isControl = false)
    (haction : ∀ bits args run, course c = .action bits args run → ∀ t, Effect s.openFrame t → t.board = s.board) :
    ((course c).run s).board = s.board := by
  have hkept : KeptBy (fun t => t.board = s.board) c s :=
    { start := rfl
      control := fun f hf => by rw [hf] at hcontrol; cases hcontrol
      frame := fun h ht => h.1.board.trans ht
      readEffect := fun t r ht => (board_readEffect t r).trans ht
      action := haction
      timer := fun due fire hf d _ => (board_fire hf _).trans (board_passTime s d)
      event := fun f hf => board_event hf s
      carried := fun k f _ => board_receive s k f _ (fun t => (board_issueClaims _).trans (board_applies t k f)) }
  exact hkept.result

theorem board_run_of_running {c : Instr} {s : State} (hcontrol : (course c).isControl = false) (hp : s.phase = .running) :
    ((course c).run s).board = s.board :=
  board_run hcontrol (fun _ _ _ _ _ ht => board_effect (s := s.openFrame) ht (by rw [openFrame_phase, hp]; nofun))

/-- No command but a reset or LOCK changes the samples, the serial or the commands that wait (R24). -/
theorem inputs_run {c : Instr} {s : State} (hcontrol : (course c).isControl = false) : ((course c).run s).inputs = s.inputs := by
  have hkept : KeptBy (fun t => t.inputs = s.inputs) c s :=
    { start := rfl
      control := fun f hf => by rw [hf] at hcontrol; cases hcontrol
      frame := fun h ht => (inputs_of_board h.1.board).trans ht
      readEffect := fun t r ht => (inputs_of_board (board_readEffect t r)).trans ht
      action := fun _ _ _ _ _ ht => inputs_effect (s := s.openFrame) ht
      timer := fun due fire hf d _ => inputs_of_board ((board_fire hf _).trans (board_passTime s d))
      event := fun f hf => inputs_of_board (board_event hf s)
      carried := fun k f _ => inputs_of_board (board_receive s k f _ (fun t => (board_issueClaims _).trans (board_applies t k f))) }
  exact hkept.result

/-- Resets and LOCK keep the commands that wait and the serial (logs 15 and 32). -/
theorem control_keeps_queue {c : Instr} {f : State → State} (h : course c = .control f) (s : State) :
    (f s).pending = s.pending ∧ (f s).serial = s.serial := by
  cases c with
  | powerOnReset j l => cases h; exact ⟨rfl, rfl⟩
  | warmResetAssert => cases h; exact ⟨rfl, rfl⟩
  | warmResetRelease j => cases h; dsimp only; split <;> exact ⟨rfl, rfl⟩
  | lockChange v => cases h; exact ⟨rfl, rfl⟩
  | _ => cases h

theorem run_keeps_queue (c : Instr) (s : State) : ((course c).run s).pending = s.pending ∧ ((course c).run s).serial = s.serial := by
  cases hcontrol : (course c).isControl with
  | true =>
    cases hc : course c with
    | control f => exact control_keeps_queue hc s
    | _ => rw [hc] at hcontrol; cases hcontrol
  | false =>
    have h := inputs_run (s := s) hcontrol
    exact ⟨congrArg Prod.fst h, congrArg (fun x => x.2.1) h⟩

/-- Settles O3. -/
theorem everyCommandCompletesAndKeepsTheQueue : Obligations.EveryCommandCompletesAndKeepsTheQueue :=
  fun c s => ⟨_, exec_course c s, run_keeps_queue c s⟩

theorem board_assertReset (s : State) : s.assertReset.board = { s.board with inReset := true } := by
  have houtlet (o : OutletId) : (s.assertReset.outlet o).cfg = (s.outlet o).cfg := by
    show (((s.outlets.mapIdx (fun _ (x : Outlet) => x.hold)).get o).cfg) = _
    rw [Tab.get_mapIdx]
    rfl
  unfold State.board
  simp only [houtlet]
  rfl

/-- The configuration that a board holds. -/
theorem configuration_of_board {s t : State} (h : t.board = s.board) (hp : s.phase = .running) :
    t.phase = .running ∧ t.cfg = s.cfg ∧ t.banks = s.banks ∧ t.profiles = s.profiles ∧ (∀ o, (t.outlet o).cfg = (s.outlet o).cfg) ∧
      t.groups.map (fun e => (e.group, e.dwell, e.policy)) = s.groups.map (fun e => (e.group, e.dwell, e.policy)) :=
  ⟨(congrArg Board.phase h).trans hp, congrArg Board.cfg h, congrArg Board.banks h, congrArg Board.profiles h,
    congrFun (congrArg Board.outlets h), congrArg Board.groups h⟩

/-- Settles O4. Out of CONFIGURING only the two resets touch the configuration. -/
theorem configurationIsFixedWhileRunning : Obligations.ConfigurationIsFixedWhileRunning := by
  unfold Obligations.ConfigurationIsFixedWhileRunning
  intro c s t hp hpower hrelease h
  rw [eq_run_of_exec h]
  cases hcontrol : (course c).isControl with
  | false => exact configuration_of_board (board_run_of_running hcontrol hp) hp
  | true =>
    cases c with
    | powerOnReset j l => exact absurd rfl (hpower j l)
    | warmResetRelease j => exact absurd rfl (hrelease j)
    | warmResetAssert =>
      have hboard : s.assertReset.board = { s.board with inReset := true } := board_assertReset s
      exact ⟨hp, rfl, rfl, rfl, congrFun (congrArg Board.outlets hboard), rfl⟩
    | lockChange v => exact ⟨hp, rfl, rfl, rfl, fun _ => rfl, rfl⟩
    | _ => cases hcontrol

end Sys2Proof.Machine
end

section
/-! The outlet records and the closure queues through every command (R1, R2, R6, R12, R104). -/

namespace Sys2Proof.Machine
open Sys2Proof

/-! Resets. -/

/-- Outlets at rest outside CLAIMING agree with empty queues. -/
theorem consistent_of_rest {s : State} (hq : ∀ b, s.queue b = []) (h : s.outletsConsistent) (hrest : ∀ o, (s.outlet o).state ≠ .claiming) :
    s.switchesConsistent := by
  refine ⟨h, fun o => ?_, fun b => ?_, fun b o ho => ?_⟩
  · rw [hq]
    exact ⟨nofun, fun hc => absurd hc (hrest o)⟩
  · rw [hq]
    exact List.nodup_nil
  · rw [hq] at ho
    cases ho

theorem poweredOn_queue (s : State) (j : Jumpers) (l : Bool) (b : Bank) : (s.poweredOn j l).queue b = [] := Banked.get_fill _ _

theorem poweredOn_consistent (s : State) (j : Jumpers) (l : Bool) : (s.poweredOn j l).switchesConsistent := by
  refine consistent_of_rest (poweredOn_queue s j l) (fun o => ?_) (fun o => ?_)
  · rw [poweredOn_outlet]
    decide
  · rw [poweredOn_outlet]
    decide

theorem releaseReset_outlet (s : State) (j : Jumpers) (o : OutletId) : (s.releaseReset j).outlet o = (s.outlet o).rebuild := Tab.get_mapIdx _ _ _

theorem releaseReset_queue (s : State) (j : Jumpers) (b : Bank) : (s.releaseReset j).queue b = [] := Banked.get_fill _ _

/-- A warm reset brings an outlet back TRIPPED, ON or OFF (R28). -/
theorem stateAfterReset_cases (x : Outlet) : x.stateAfterReset = .tripped ∨ x.stateAfterReset = .on ∨ x.stateAfterReset = .off := by
  unfold Outlet.stateAfterReset
  split
  · exact .inl rfl
  · split
    · exact .inr (.inl rfl)
    · exact .inr (.inr rfl)

theorem rebuild_consistent (x : Outlet) : x.rebuild.consistent := by
  rcases stateAfterReset_cases x with h | h | h <;> simp [Outlet.consistent, Outlet.rebuild, Outlet.reset, h]

theorem releaseReset_consistent (s : State) (j : Jumpers) : (s.releaseReset j).switchesConsistent := by
  refine consistent_of_rest (releaseReset_queue s j) (fun o => ?_) (fun o => ?_)
  · rw [releaseReset_outlet]
    exact rebuild_consistent _
  · rw [releaseReset_outlet]
    show (s.outlet o).stateAfterReset ≠ .claiming
    rcases stateAfterReset_cases (s.outlet o) with h | h | h <;> simp [h]

theorem control_keeps_switchInvariant {c : Instr} {f : State → State} (h : course c = .control f) {s : State} (hs : s.switchInvariant) :
    (f s).switchInvariant := by
  cases c with
  | powerOnReset j l => cases h; exact fun _ => poweredOn_consistent s j l
  | warmResetAssert => cases h; exact fun hr => absurd hr nofun
  | warmResetRelease j => cases h; exact ite_keeps (fun _ => releaseReset_consistent s j) hs
  | lockChange v => cases h; exact hs
  | _ => cases h

/-! The effects of the action commands. -/

theorem clearTripped_consistent {s : State} (o : OutletId) (hs : s.switchesConsistent) : (s.clearTripped o).switchesConsistent := by
  unfold State.clearTripped
  split
  · next hst => exact (same_setTarget _ _ _).consistent ((free_of_not_claiming hs (by rw [hst]; decide)).place (by decide) (by decide))
  · exact hs

theorem same_protect (s : State) (set : OutletSet) : SameSwitches s (s.protect set) := by
  refine ⟨fun o => ?_, rfl⟩
  show ((s.outlets.mapIdx (fun i (x : Outlet) => { x with isProtected := set.getLsbD i })).get o).switchPart = _
  rw [Tab.get_mapIdx]
  rfl

theorem same_nameGroup (s : State) (g : Nat) : SameSwitches s (s.nameGroup g) := by
  unfold State.nameGroup
  split <;> exact .of_eq rfl rfl

theorem same_takeInHand (s : State) (o : OutletId) : SameSwitches s (s.takeInHand o) := .of_eq rfl rfl

theorem same_startBoard (s : State) : SameSwitches s s.startBoard := by
  have hfixed (u : State) (r : OutletSet) : SameSwitches u { u.fixGroups with restoreSet := r, startRestored := false } := .of_eq rfl rfl
  exact SameSwitches.trans (t := { s with phase := .running }) (.of_eq rfl rfl) ((hfixed _ _).trans (same_enterJoining _))

/-- An outlet outside CLAIMING and CLOSING that the command takes in hand may be placed anew once its target is set. -/
theorem free_inHand {s : State} {o : OutletId} (hs : s.switchesConsistent) {st : OutletState} (hst : (s.outlet o).state = st)
    (hne : st ≠ .claiming) (t : HostTarget) : FreeOutlet o ((s.takeInHand o).setTarget o t) :=
  ((same_takeInHand s o).trans (same_setTarget _ o t)).free (free_of_not_claiming hs (by rw [hst]; exact hne))

theorem inHand_consistent {s : State} (o : OutletId) (t : HostTarget) (hs : s.switchesConsistent) :
    ((s.takeInHand o).setTarget o t).switchesConsistent :=
  ((same_takeInHand s o).trans (same_setTarget _ o t)).consistent hs

theorem effect_consistent {s t : State} (h : Effect s t) (hs : s.switchesConsistent) : t.switchesConsistent := by
  have hand (o : OutletId) : SameSwitches s (s.takeInHand o) := same_takeInHand s o
  cases h with
  | onFromOff o => exact (same_issueClaims _).consistent (enterClaiming_consistent o (inHand_consistent o .on hs))
  | onKept o => exact (same_issueClaims _).consistent (inHand_consistent o .on hs)
  | onMet o => exact ((same_meetTarget _ o).trans (same_issueClaims _)).consistent (inHand_consistent o .on hs)
  | onFromDwell o => exact (same_issueClaims _).consistent (leaveDwell_consistent o (inHand_consistent o .on hs))
  | offMet o => exact ((same_meetTarget _ o).trans (same_issueClaims _)).consistent (inHand_consistent o .off hs)
  | offFromClaiming o =>
    have hfree := free_leaveClaiming o ((hand o).consistent hs)
    exact (same_issueClaims _).consistent
      ((((same_setCycle _ o .none).trans (same_setRestore _ o false)).trans (same_setTarget _ o .off)).free hfree).enterOff
  | offPending o hst =>
    have hpending := setPendingOff_consistent ((hand o).consistent hs) hst
    exact ((((same_setRestore _ o false).trans (same_endLocal _ o)).trans (same_setTarget _ o .off)).trans (same_issueClaims _)).consistent hpending
  | offFromOn o hst => exact (same_issueClaims _).consistent (free_inHand hs hst (by decide) .off).enterOpening
  | offFromOpening o =>
    exact (((((hand o).trans (same_setRestore _ o false)).trans (same_endLocal _ o)).trans (same_setTarget _ o .off)).trans
      (same_issueClaims _)).consistent hs
  | offFromDwell o hst =>
    have hfree : FreeOutlet o s := free_of_not_claiming hs (by rw [hst]; decide)
    exact (same_issueClaims _).consistent
      (((((hand o).trans (same_setCycle _ o .none)).trans (same_setRestore _ o false)).trans (same_setTarget _ o .off)).free hfree).enterOff
  | offFromShed o hst => exact (same_issueClaims _).consistent (free_inHand hs hst (by decide) .off).enterOff
  | offTripped o => exact ((hand o).trans (same_issueClaims _)).consistent hs
  | cycled o w hst =>
    have hfree : FreeOutlet o s := free_of_not_claiming hs (by rw [hst]; decide)
    exact ((((hand o).trans (same_setCycle _ o (.localCycle w))).trans (same_setRestore _ o true)).trans
      (same_setTarget _ o .on)).free hfree |>.enterOpening
  | originated e p tag ht => exact ((same_offer ht).trans (.of_eq rfl rfl)).consistent hs
  | aborted g => exact (same_issueClaims _).consistent (offerAbort_consistent g .host hs)
  | alreadyAborted => exact (same_issueClaims _).consistent hs
  | cleared o => exact clearTripped_consistent o hs
  | energyReset => exact SameSwitches.consistent (.of_eq rfl rfl) hs
  | energyResetOf o => exact (same_modMeter _ _ _).consistent hs
  | protectionSet set => exact (same_protect s set).consistent hs
  | forgetting k ht => exact (same_offer ht).consistent hs
  | boardSet x | bankSet b x | profileSet k x | groupSet g w p => exact SameSwitches.consistent (.of_eq rfl rfl) hs
  | outletSet g o x => exact ((same_nameGroup s g).trans (sameSwitches_modOutlet _ o rfl)).consistent hs
  | started => exact (same_startBoard s).consistent hs

/-! Timers, events and carried frames. -/

/-- The state timer of a sub-phase runs in that state only. -/
theorem state_of_phaseDue {s : State} {o : OutletId} {st : OutletState} {sub : SubPhase} {d : Nat} (h : s.phaseDue o st sub = some d) :
    (s.outlet o).state = st := by
  unfold State.phaseDue at h
  split at h
  · next hin => exact State.isIn_state hin
  · cases h

theorem expireClaim_consistent {s : State} (o : OutletId) (hs : s.switchesConsistent) : (s.expireClaim o).switchesConsistent := by
  have hoff : ((s.leaveClaiming o).place o .off none).switchesConsistent := (free_leaveClaiming o hs).place (by decide) (by decide)
  have hrest := (((same_setRestore _ o false).trans (same_endLocal _ o)).trans (same_setTarget _ o .none)).consistent hoff
  exact ((same_noteFailed _ o).trans (same_post _ _ _ _ _)).consistent hrest

theorem same_scheduleStatus (s : State) : SameSwitches s s.scheduleStatus := by
  unfold State.scheduleStatus
  split
  case h_1 | h_2 | h_3 => exact same_offerStatus s
  all_goals exact .refl s

theorem fire_consistent {c : Instr} {due : State → Option Nat} {fire : State → State} (h : course c = .timer due fire) {s t : State} {d : Nat}
    (hdue : due s = some d) (hstate : ∀ o, (t.outlet o).state = (s.outlet o).state) (ht : t.switchesConsistent) :
    (fire t).switchesConsistent := by
  have free {o : OutletId} {st : OutletState} {sub : SubPhase} (hd : s.phaseDue o st sub = some d) (hne : st ≠ .claiming) : FreeOutlet o t :=
    free_of_not_claiming ht (by rw [hstate, state_of_phaseDue hd]; exact hne)
  have stands {o : OutletId} {st : OutletState} {sub : SubPhase} (hd : s.phaseDue o st sub = some d) : (t.outlet o).state = st :=
    (hstate o).trans (state_of_phaseDue hd)
  cases c with
  | halfCycleTimeout b m => cases h; exact (same_issueClaims _).consistent (closeHalf_consistent b m false _ ((same_notePeaks _ b _).consistent ht))
  | windowTimeout b w => cases h; exact (same_endWindow _ b w none).consistent ht
  | noCrossingTimeout b => cases h; exact (same_issueClaims _).consistent (sagCondition_consistent b _ ht)
  | recoveryTimerExpiry b => cases h; exact (same_issueClaims _).consistent (enterNormal_consistent b ht)
  | closingAlignExpiry o => cases h; exact (same_issueClaims _).consistent (closingAlignEnds_consistent ht (stands hdue))
  | openingAlignExpiry o => cases h; exact (free hdue (by decide)).alignOpening true
  | coilPulseEnd o => cases h; exact (free hdue (by decide)).startClosingSettle
  | closingSettleEnd o => cases h; exact endClosing_consistent ht (stands hdue)
  | openingSettleEnd o => cases h; exact (same_issueClaims _).consistent (endOpening_consistent ht (stands hdue))
  | localDwellExpiry o => cases h; exact (same_issueClaims _).consistent (leaveDwell_consistent o ht)
  | claimWaitExpiry o => cases h; exact (same_issueClaims _).consistent (expireClaim_consistent o ht)
  | scheduledStatus => cases h; exact (same_scheduleStatus _).consistent ht
  | offGatherExpiry g => cases h; exact (same_issueClaims _).consistent (offerAbort_consistent g _ ((same_modRecord _ g _).consistent ht))
  | dwellExpiry g => cases h; exact (same_issueClaims _).consistent (endDwell_consistent g ht)
  | onGatherExpiry g => cases h; exact (same_finishCycle _ g _).consistent ht
  | peerLivenessExpiry k => cases h; exact (same_issueClaims _).consistent (losePeer_consistent k ht)
  | joiningTimerExpiry => cases h; exact (same_issueClaims _).consistent (enterActive_consistent ht)
  | quietTimerExpiry => cases h; exact (same_enterJoining _).consistent ht
  | _ => cases h

theorem event_consistent {c : Instr} {f : State → State} (h : course c = .event f) {s : State} (hs : s.switchesConsistent) :
    (f s).switchesConsistent := by
  cases c with
  | voltageZeroCrossing b edge micros m w =>
    cases h
    have hpeaks := (same_notePeaks s b m.peaks).consistent hs
    exact ite_keeps hpeaks ((same_issueClaims _).consistent (takeVoltageCrossing_consistent b edge _ m w hpeaks))
  | currentZeroCrossing o micros peak =>
    cases h
    have hpeak := (same_notePeak s o peak).consistent hs
    exact ite_keeps hpeak (takeCurrentCrossing_consistent o _ hpeak)
  | instantTrip o n => cases h; exact ite_keeps ((same_issueClaims _).consistent (trip_consistent o .instant n hs)) hs
  | busIdleOffer rivals => cases h; exact (same_offerOnBus s rivals).consistent hs
  | attemptFailed m => cases h; exact (same_issueClaims _).consistent (attemptFails_consistent m hs)
  | failedFrame r => cases h; exact (same_frameFails s r).consistent hs
  | _ => cases h

theorem applies_consistent {s : State} (k : StationId) (f : PeerFrame) (hs : s.switchesConsistent) : (s.applies k f).switchesConsistent := by
  cases f with
  | join p => exact applyJoin_consistent k p hs
  | status p => exact applyStatus_consistent k p hs
  | forget n => exact applyForget_consistent k n hs
  | claim p => exact applyClaim_consistent k p hs
  | openGroup p => exact applyOpenGroup_consistent k p hs
  | groupOff p => exact applyGroupOff_consistent k p hs
  | groupOn p => exact (same_applyGroupOn s k p).consistent hs
  | groupAbort p => exact applyGroupAbort_consistent k p hs

theorem run_consistent {c : Instr} {s : State} (hcontrol : (course c).isControl = false) (hs : s.switchesConsistent) :
    ((course c).run s).switchesConsistent := by
  have hkept : KeptBy State.switchesConsistent c s :=
    { start := hs
      control := fun f hf => by rw [hf] at hcontrol; cases hcontrol
      frame := fun h ht => h.1.same.consistent ht
      readEffect := fun t r ht => (same_readEffect t r).consistent ht
      action := fun _ _ _ _ t ht => effect_consistent ht ((portOnly_openFrame s).same.consistent hs)
      timer := fun due fire hf d hd => fire_consistent hf hd (passTime_state s d) ((same_passTime s d).consistent hs)
      event := fun f hf => event_consistent hf hs
      carried := fun k f _ => receive_consistent k f (fun t ht => (same_issueClaims _).consistent (applies_consistent k f ht)) hs }
  exact hkept.result

/-- While RST is asserted a command that is no reset, nor LOCK, can only end a host frame. -/
theorem portOnly_run_of_inReset {c : Instr} {s : State} (hcontrol : (course c).isControl = false) (hr : s.inReset = true) :
    PortOnly s ((course c).run s) := by
  have htakes : s.takesHostFrames = false := by simp [State.takesHostFrames, hr]
  have hframe (f : State → State) : PortOnly s (s.atRising f) := by
    rw [atRising_discarded htakes]
    exact portOnly_closeFrame s
  have hidle (f : State → State) : PortOnly s (s.unlessReset f) := by simp [State.unlessReset, hr, PortOnly.refl]
  cases hc : course c with
  | control f => rw [hc] at hcontrol; cases hcontrol
  | read bits r => exact hframe (fun s => s.runRead bits r)
  | action bits args run => exact hframe (fun s => s.runFrame bits args run)
  | invalid bits command => exact .ite (hframe _) (.refl s)
  | capture what => exact portOnly_capturePort s what
  | timer due fire => exact hidle (fun s => s.expire (due s) fire)
  | event f => exact hidle f
  | carried k f => exact hidle (fun s => s.receive k f (fun s => (s.applies k f).issueClaims))

theorem run_keeps_switchInvariant (c : Instr) {s : State} (hs : s.switchInvariant) : ((course c).run s).switchInvariant := by
  cases hcontrol : (course c).isControl with
  | true =>
    cases hc : course c with
    | control f => exact control_keeps_switchInvariant hc hs
    | _ => rw [hc] at hcontrol; cases hcontrol
  | false =>
    cases hr : s.inReset with
    | false => exact fun _ => run_consistent hcontrol (hs hr)
    | true =>
      have hstill : ((course c).run s).inReset = true := (congrArg Board.inReset (portOnly_run_of_inReset hcontrol hr).board).trans hr
      exact fun hout => absurd hout (by rw [hstill]; nofun)

/-- Settles O5, by the kinds of command. -/
theorem everyStepKeepsTheSwitchesConsistent : Obligations.EveryStepKeepsTheSwitchesConsistent := by
  unfold Obligations.EveryStepKeepsTheSwitchesConsistent
  intro s t hs h
  rcases step_cases h with rfl | ⟨c, rest, -, rfl⟩
  · exact fun hr => (same_passTime s 1).consistent (hs ((passTime_inReset s 1).symm.trans hr))
  · exact run_keeps_switchInvariant c hs

theorem reset_outlet (o : OutletId) : State.reset.outlet o = Outlet.reset := Tab.get_fill _ _

theorem reset_queue (b : Bank) : State.reset.queue b = [] := Banked.get_fill _ _

theorem reset_consistent : State.reset.switchesConsistent := by
  refine consistent_of_rest reset_queue (fun o => ?_) (fun o => ?_)
  · rw [reset_outlet]
    decide
  · rw [reset_outlet]
    decide

/-- Settles O6: the records of the reset state are at rest and nothing is queued. -/
theorem resetMeetsTheInvariants : Obligations.ResetMeetsTheInvariants := by
  unfold Obligations.ResetMeetsTheInvariants
  refine ⟨reset_consistent, Nat.zero_le eventCapacity, ⟨Nat.zero_le _, Nat.zero_le _, Nat.zero_le _, fun a ha => ?sending⟩, fun r hr => ?members⟩
  case sending => cases ha
  case members => cases hr

end Sys2Proof.Machine
end

section
/-! What the operations on the transmit queue and on the cycle records keep, every operation of the running board keeps. The laws of `State.Fits` keep
the queue's capacity and the members' order together; here each is kept without the other (R75, R137). -/

namespace Sys2Proof.Machine
open Sys2Proof

/-- `P` of a state, as a goal that `simp` can recognise. -/
def Has (P : State → Prop) (s : State) : Prop := P s

/-- A property of the transmit queue and the cycle records that each operation on them keeps. -/
structure LinkKept (P : State → Prop) : Prop where
  same : ∀ {s t : State}, Has P s → t.link.queue = s.link.queue → t.link.sending = s.link.sending →
    (∀ r ∈ t.records, ∃ r' ∈ s.records, r.members.map (·.outlet) = r'.members.map (·.outlet)) → Has P t
  stopped : ∀ {s t : State}, Has P s → t.link.queue = s.link.queue ∨ t.link.queue = [] → t.link.sending = none →
    t.records = s.records ∨ t.records = [] → Has P t
  offer : ∀ {s t : State} {u : Nat} {f : PeerFrame}, s.offer u f = some t → isReserved f = false → Has P s → Has P t
  offerReserved : ∀ (s : State) (f : PeerFrame), isReserved f = true → Has P s → Has P (s.offerReserved f)
  removeFrames : ∀ (s : State) (p : PeerFrame → Bool), Has P s → Has P (s.removeFrames p)
  offerOnBus : ∀ (s : State) (rivals : List Nat), Has P s → Has P (s.offerOnBus rivals)
  attemptCarried : ∀ s : State, Has P s → Has P s.attemptCarried
  attemptSettled : ∀ (s : State) (a : Sending) (m : Bool), s.link.sending = some a → Has P s →
    Has P ((s.modLink (fun l => { l with sending := none, failures := l.failures + 1, rejectDriven := m })).settleAttempt a)
  insertRecord : ∀ (s : State) (p : OpenGroupPayload), Has P s → Has P { s with records := insertRecord (s.newRecord p) s.records }

section
variable {P : State → Prop} {s t : State}

@[simp] theorem has_ite {c : Prop} [Decidable c] (hs : Has P s) (ht : Has P t) : Has P (if c then s else t) := ite_keeps (P := Has P) hs ht

theorem has_foldl {α : Type} {f : State → α → State} (h : ∀ t x, Has P t → Has P (f t x)) (l : List α) (s : State) (hs : Has P s) :
    Has P (l.foldl f s) :=
  foldl_keeps (P := Has P) h l s hs

end

section
variable {P : State → Prop} (hk : LinkKept P)
include hk

/-! Operations that leave the queue, the frame being sent and the records alone. -/

theorem kept_of_same {s t : State} (hs : Has P s) (hq : t.link.queue = s.link.queue) (ha : t.link.sending = s.link.sending)
    (hr : t.records = s.records) : Has P t :=
  hk.same hs hq ha (fun r h => ⟨r, hr ▸ h, rfl⟩)

@[simp] theorem kept_modMeter (s : State) o f (hs : Has P s) : Has P (s.modMeter o f) := kept_of_same hk hs rfl rfl rfl
@[simp] theorem kept_modLine (s : State) b f (hs : Has P s) : Has P (s.modLine b f) := kept_of_same hk hs rfl rfl rfl
@[simp] theorem kept_modWindow (s : State) b f (hs : Has P s) : Has P (s.modWindow b f) := kept_of_same hk hs rfl rfl rfl
@[simp] theorem kept_setQueue (s : State) b q (hs : Has P s) : Has P (s.setQueue b q) := kept_of_same hk hs rfl rfl rfl
@[simp] theorem kept_modClaim (s : State) b f (hs : Has P s) : Has P (s.modClaim b f) := kept_of_same hk hs rfl rfl rfl
@[simp] theorem kept_modPeer (s : State) k f (hs : Has P s) : Has P (s.modPeer k f) := kept_of_same hk hs rfl rfl rfl
@[simp] theorem kept_modOver (s : State) n f (hs : Has P s) : Has P (s.modOver n f) := kept_of_same hk hs rfl rfl rfl
@[simp] theorem kept_modGroup (s : State) g f (hs : Has P s) : Has P (s.modGroup g f) := kept_of_same hk hs rfl rfl rfl
@[simp] theorem kept_modPort (s : State) f (hs : Has P s) : Has P (s.modPort f) := kept_of_same hk hs rfl rfl rfl
@[simp] theorem kept_modOutlet (s : State) o f (hs : Has P s) : Has P (s.modOutlet o f) := kept_of_same hk hs rfl rfl rfl
@[simp] theorem kept_loadTimer (s : State) o ms (hs : Has P s) : Has P (s.loadTimer o ms) := kept_of_same hk hs rfl rfl rfl
@[simp] theorem kept_setUnaligned (s : State) o v (hs : Has P s) : Has P (s.setUnaligned o v) := kept_of_same hk hs rfl rfl rfl
@[simp] theorem kept_setTarget (s : State) o t (hs : Has P s) : Has P (s.setTarget o t) := kept_of_same hk hs rfl rfl rfl
@[simp] theorem kept_setRestore (s : State) o v (hs : Has P s) : Has P (s.setRestore o v) := kept_of_same hk hs rfl rfl rfl
@[simp] theorem kept_setCycle (s : State) o c (hs : Has P s) : Has P (s.setCycle o c) := kept_of_same hk hs rfl rfl rfl
@[simp] theorem kept_setPendingOff (s : State) o (hs : Has P s) : Has P (s.setPendingOff o) := kept_of_same hk hs rfl rfl rfl
@[simp] theorem kept_joinCycle (s : State) o (hs : Has P s) : Has P (s.joinCycle o) := kept_of_same hk hs rfl rfl rfl
@[simp] theorem kept_place (s : State) o st sub (hs : Has P s) : Has P (s.place o st sub) := kept_of_same hk hs rfl rfl rfl
@[simp] theorem kept_startAlign (s : State) o st (hs : Has P s) : Has P (s.startAlign o st) := kept_of_same hk hs rfl rfl rfl
@[simp] theorem kept_endLocal (s : State) o (hs : Has P s) : Has P (s.endLocal o) := kept_of_same hk hs rfl rfl rfl
@[simp] theorem kept_protect (s : State) set (hs : Has P s) : Has P (s.protect set) := kept_of_same hk hs rfl rfl rfl
@[simp] theorem kept_groups (s : State) l (hs : Has P s) : Has P ({ s with groups := l } : State) := kept_of_same hk hs rfl rfl rfl
@[simp] theorem kept_conflicts (s : State) l (hs : Has P s) : Has P ({ s with conflicts := l } : State) := kept_of_same hk hs rfl rfl rfl
@[simp] theorem kept_overload (s : State) l (hs : Has P s) : Has P ({ s with overload := l } : State) := kept_of_same hk hs rfl rfl rfl
@[simp] theorem kept_restored (s : State) r v (hs : Has P s) : Has P ({ s with restoreSet := r, startRestored := v } : State) :=
  kept_of_same hk hs rfl rfl rfl
@[simp] theorem kept_clearRetry (s : State) (n : BranchId) (hs : Has P s) : Has P (s.clearRetry n) := kept_of_same hk hs rfl rfl rfl
@[simp] theorem kept_endClaims (s : State) (p : Banked StatusBank) (hs : Has P s) : Has P (s.endClaims p) := kept_of_same hk hs rfl rfl rfl
@[simp] theorem kept_withdrawAllSent (s : State) (hs : Has P s) : Has P s.withdrawAllSent := kept_of_same hk hs rfl rfl rfl
@[simp] theorem kept_endHolds (s : State) (k : StationId) (hs : Has P s) : Has P (s.endHolds k) := kept_of_same hk hs rfl rfl rfl
@[simp] theorem kept_rebuildRosters (s : State) (hs : Has P s) : Has P s.rebuildRosters := kept_of_same hk hs rfl rfl rfl
@[simp] theorem kept_leaveSlot (s : State) (hs : Has P s) : Has P s.leaveSlot := kept_of_same hk hs rfl rfl rfl
@[simp] theorem kept_takeInHand (s : State) (o : OutletId) (hs : Has P s) : Has P (s.takeInHand o) := kept_of_same hk hs rfl rfl rfl
@[simp] theorem kept_originated (s : State) (e : GroupEntry) (tag : Tag) (hs : Has P s) : Has P (s.originated e tag) :=
  kept_of_same hk hs rfl rfl rfl

@[simp] theorem kept_passTime (s : State) dt (hs : Has P s) : Has P (s.passTime dt) := by
  refine ite_keeps (P := Has P) hs (hk.same hs rfl rfl (fun r hr => ?_))
  obtain ⟨r', hr', rfl⟩ := List.mem_map.1 hr
  exact ⟨r', hr', rfl⟩

@[simp] theorem kept_post (s : State) k a b c (hs : Has P s) : Has P (s.post k a b c) := by
  unfold State.post
  exact has_ite (has_ite (kept_modPort hk _ _ hs) (kept_modPort hk _ _ hs)) hs

/-! Operations on the records of cycles. -/

@[simp] theorem kept_modRecord (s : State) g f (hf : ∀ r : CycleRecord, (f r).members = r.members) (hs : Has P s) : Has P (s.modRecord g f) := by
  refine hk.same hs rfl rfl (fun r hr => ?_)
  obtain ⟨r', hr', rfl⟩ := List.mem_map.1 hr
  refine ⟨r', hr', ?_⟩
  split
  · rw [hf]
  · rfl

@[simp] theorem kept_setStatus (s : State) (g : Nat) (o : OutletId) (st : MemberStatus) (hs : Has P s) : Has P (s.setStatus g o st) := by
  refine hk.same hs rfl rfl (fun r hr => ?_)
  obtain ⟨r', hr', rfl⟩ := List.mem_map.1 hr
  refine ⟨r', hr', ?_⟩
  split
  · rw [List.map_map]
    refine List.map_congr_left (fun m _ => ?_)
    dsimp only [Function.comp]
    split <;> rfl
  · rfl

/-! Operations on the transmit queue. -/

@[simp] theorem kept_offerStatus (s : State) (hs : Has P s) : Has P s.offerStatus := hk.offerReserved s _ rfl hs
@[simp] theorem kept_offerJoin (s : State) r (hs : Has P s) : Has P (s.offerJoin r) := hk.offerReserved s _ rfl hs
@[simp] theorem kept_removeFrames (s : State) p (hs : Has P s) : Has P (s.removeFrames p) := hk.removeFrames s p hs
@[simp] theorem kept_offerOnBus (s : State) l (hs : Has P s) : Has P (s.offerOnBus l) := hk.offerOnBus s l hs
@[simp] theorem kept_attemptCarried (s : State) (hs : Has P s) : Has P s.attemptCarried := hk.attemptCarried s hs

/-! The rest of the board is made of these. -/

@[simp] theorem kept_recompose (s : State) (hs : Has P s) : Has P (State.recompose s) := by
  unfold State.recompose
  simp (maxDischargeDepth := 30) [hk, hs]
@[simp] theorem kept_joinQueue (s : State) (o : OutletId) (hs : Has P s) : Has P (State.joinQueue s o) := by
  unfold State.joinQueue
  simp (maxDischargeDepth := 30) [hk, hs]
@[simp] theorem kept_leaveQueue (s : State) (o : OutletId) (hs : Has P s) : Has P (State.leaveQueue s o) := by
  unfold State.leaveQueue
  simp (maxDischargeDepth := 30) [hk, hs]
@[simp] theorem kept_withdrawClaim (s : State) (b : Bank) (hs : Has P s) : Has P (State.withdrawClaim s b) := by
  unfold State.withdrawClaim
  simp (maxDischargeDepth := 30) [hk, hs]
@[simp] theorem kept_leaveClaiming (s : State) (o : OutletId) (hs : Has P s) : Has P (State.leaveClaiming s o) := by
  unfold State.leaveClaiming
  simp (maxDischargeDepth := 30) [hk, hs]
@[simp] theorem kept_markDropped (s : State) (o : OutletId) (hs : Has P s) : Has P (State.markDropped s o) := by
  unfold State.markDropped
  simp (maxDischargeDepth := 30) [hk, hs]
@[simp] theorem kept_dropClaim (s : State) (o : OutletId) (hs : Has P s) : Has P (State.dropClaim s o) := by
  unfold State.dropClaim
  simp (maxDischargeDepth := 30) [hk, hs]
@[simp] theorem kept_issueClaim (s : State) (b : Bank) (hs : Has P s) : Has P (State.issueClaim s b) := by
  unfold State.issueClaim
  split
  · exact hs
  · refine has_ite ?_ hs
    split
    · next hh => exact kept_modClaim hk _ _ _ (hk.offer hh rfl hs)
    · exact kept_modClaim hk _ _ _ hs
@[simp] theorem kept_issueClaims (s : State) (hs : Has P s) : Has P (State.issueClaims s) := by
  unfold State.issueClaims
  simp (maxDischargeDepth := 30) [hk, hs]
@[simp] theorem kept_fold_clearRetry {p : BranchId → Bool} {l : List _} {s : State} (hs : Has P s) : Has P (l.foldl (fun (t : State) (n : BranchId) => if t.uses n && p n then t.clearRetry n else t) s) :=
  has_foldl (fun t x h => by split <;> simp [hk, h]) l s hs
@[simp] theorem kept_triggerRetries (s : State) (p : BranchId → Bool) (hs : Has P s) : Has P (State.triggerRetries s p) := kept_fold_clearRetry hk hs
@[simp] theorem kept_setHeld (s : State) (k : StationId) (b : Bank) (amount : Nat) (hs : Has P s) : Has P (State.setHeld s k b amount) := by
  unfold State.setHeld
  simp (maxDischargeDepth := 30) [hk, hs]
@[simp] theorem kept_recordClaim (s : State) (source : StationId) (p : ClaimPayload) (hs : Has P s) : Has P (State.recordClaim s source p) := by
  unfold State.recordClaim
  simp (maxDischargeDepth := 30) [hk, hs]
@[simp] theorem kept_absorbWindow (s : State) (b : Bank) (clean : OutletId → Bool) (hs : Has P s) : Has P (State.absorbWindow s b clean) := by
  unfold State.absorbWindow
  (repeat' split) <;> simp (maxDischargeDepth := 30) [hk, hs]
@[simp] theorem kept_meetTarget (s : State) (o : OutletId) (hs : Has P s) : Has P (State.meetTarget s o) := by
  unfold State.meetTarget
  (repeat' split) <;> simp (maxDischargeDepth := 30) [hk, hs]
@[simp] theorem kept_enterOff (s : State) (o : OutletId) (hs : Has P s) : Has P (State.enterOff s o) := by
  unfold State.enterOff
  simp (maxDischargeDepth := 30) [hk, hs]
@[simp] theorem kept_enterClaiming (s : State) (o : OutletId) (hs : Has P s) : Has P (State.enterClaiming s o) := by
  unfold State.enterClaiming
  simp (maxDischargeDepth := 30) [hk, hs]
@[simp] theorem kept_startCoil (s : State) (o : OutletId) (hs : Has P s) : Has P (State.startCoil s o) := by
  unfold State.startCoil
  simp (maxDischargeDepth := 30) [hk, hs]
@[simp] theorem kept_startClosingSettle (s : State) (o : OutletId) (hs : Has P s) : Has P (State.startClosingSettle s o) := by
  unfold State.startClosingSettle
  simp (maxDischargeDepth := 30) [hk, hs]
@[simp] theorem kept_startOpeningSettle (s : State) (o : OutletId) (hs : Has P s) : Has P (State.startOpeningSettle s o) := by
  unfold State.startOpeningSettle
  simp (maxDischargeDepth := 30) [hk, hs]
@[simp] theorem kept_enterClosing (s : State) (o : OutletId) (hs : Has P s) : Has P (State.enterClosing s o) := by
  unfold State.enterClosing
  (repeat' split) <;> simp (maxDischargeDepth := 30) [hk, hs]
@[simp] theorem kept_enterOpening (s : State) (o : OutletId) (hs : Has P s) : Has P (State.enterOpening s o) := by
  unfold State.enterOpening
  (repeat' split) <;> simp (maxDischargeDepth := 30) [hk, hs]
@[simp] theorem kept_endPendingOff (s : State) (o : OutletId) (hs : Has P s) : Has P (State.endPendingOff s o) := by
  unfold State.endPendingOff
  simp (maxDischargeDepth := 30) [hk, hs]
@[simp] theorem kept_alignClosing (s : State) (o : OutletId) (unaligned : Bool) (hs : Has P s) : Has P (State.alignClosing s o unaligned) := by
  unfold State.alignClosing
  simp (maxDischargeDepth := 30) [hk, hs]
@[simp] theorem kept_alignOpening (s : State) (o : OutletId) (unaligned : Bool) (hs : Has P s) : Has P (State.alignOpening s o unaligned) := by
  unfold State.alignOpening
  simp (maxDischargeDepth := 30) [hk, hs]
@[simp] theorem kept_releaseMembers (s : State) (ms : List Member) (hs : Has P s) : Has P (State.releaseMembers s ms) :=
  has_foldl (fun _ _ h => kept_modOutlet hk _ _ _ h) _ _ hs
@[simp] theorem kept_finishCycle (s : State) (g : Nat) (out : CycleOutcome) (hs : Has P s) : Has P (State.finishCycle s g out) := by
  unfold State.finishCycle
  (repeat' split) <;> simp (maxDischargeDepth := 30) [hk, hs]
@[simp] theorem kept_restoreByAbort (s : State) (o : OutletId) (hs : Has P s) : Has P (State.restoreByAbort s o) := by
  unfold State.restoreByAbort
  simp (maxDischargeDepth := 30) [hk, hs]
@[simp] theorem kept_fold_restoreByAbort {l : List _} {s : State} (hs : Has P s) : Has P (l.foldl State.restoreByAbort s) :=
  has_foldl (fun t x h => by simp (maxDischargeDepth := 30) [hk, h]) l s hs
@[simp] theorem kept_checkAbortDone (s : State) (g : Nat) (hs : Has P s) : Has P (State.checkAbortDone s g) := by
  unfold State.checkAbortDone
  (repeat' split) <;> simp (maxDischargeDepth := 30) [hk, hs]
@[simp] theorem kept_abortCycle (s : State) (g : Nat) (reason : EndReason) (hs : Has P s) : Has P (State.abortCycle s g reason) := by
  unfold State.abortCycle
  (repeat' split) <;> simp (maxDischargeDepth := 30) [hk, hs]
@[simp] theorem kept_actAbort (s : State) (g : Nat) (reason : EndReason) (hs : Has P s) : Has P (State.actAbort s g reason) := by
  unfold State.actAbort
  (repeat' split) <;> simp (maxDischargeDepth := 30) [hk, hs]
@[simp] theorem kept_fold_actAbort {l : List _} {s : State} (hs : Has P s) : Has P (l.foldl (fun (t : State) (g : Nat) => t.actAbort g .link) s) :=
  has_foldl (fun t x h => by simp (maxDischargeDepth := 30) [hk, h]) l s hs
@[simp] theorem kept_abortNotQueued (s : State) (r : CycleRecord) (hs : Has P s) : Has P (State.abortNotQueued s r) := by
  unfold State.abortNotQueued
  simp (maxDischargeDepth := 30) [hk, hs]

theorem kept_queueAbort {s t : State} {r : CycleRecord} {a : AbortReason} (h : s.queueAbort r a = some t) (hs : Has P s) : Has P t := by
  unfold State.queueAbort at h
  dsimp only at h
  split at h
  · cases h
    simp [hk, hs]
  · exact hk.offer h rfl (by simp [hk, hs])
@[simp] theorem kept_offerAbort (s : State) (g : Nat) (reason : AbortReason) (hs : Has P s) : Has P (State.offerAbort s g reason) := by
  unfold State.offerAbort
  (repeat' split) <;> first
    | (simp (maxDischargeDepth := 30) [hk, hs]; done)
    | (rename_i hh; exact kept_queueAbort hk hh (by simp (maxDischargeDepth := 30) [hk, hs]))
@[simp] theorem kept_maybeGroupOff (s : State) (g : Nat) (hs : Has P s) : Has P (State.maybeGroupOff s g) := by
  unfold State.maybeGroupOff
  split
  · exact hs
  · refine has_ite ?_ hs
    dsimp only
    split
    · next hh => exact hk.offer hh rfl (kept_modRecord hk s g _ (fun _ => rfl) hs)
    · exact kept_abortCycle hk _ g _ (kept_modRecord hk s g _ (fun _ => rfl) hs)
@[simp] theorem kept_maybeGroupOn (s : State) (g : Nat) (hs : Has P s) : Has P (State.maybeGroupOn s g) := by
  unfold State.maybeGroupOn
  split
  · exact hs
  · refine has_ite ?_ hs
    dsimp only
    split
    · next hh => exact hk.offer hh rfl (kept_modRecord hk s g _ (fun _ => rfl) hs)
    · exact kept_finishCycle hk _ g _ (kept_modRecord hk s g _ (fun _ => rfl) hs)
@[simp] theorem kept_noteOpened (s : State) (o : OutletId) (hs : Has P s) : Has P (State.noteOpened s o) := by
  unfold State.noteOpened
  (repeat' split) <;> simp (maxDischargeDepth := 30) [hk, hs]
@[simp] theorem kept_noteRestored (s : State) (o : OutletId) (hs : Has P s) : Has P (State.noteRestored s o) := by
  unfold State.noteRestored
  (repeat' split) <;> simp (maxDischargeDepth := 30) [hk, hs]
@[simp] theorem kept_noteFailed (s : State) (o : OutletId) (hs : Has P s) : Has P (State.noteFailed s o) := by
  unfold State.noteFailed
  (repeat' split) <;> simp (maxDischargeDepth := 30) [hk, hs]
@[simp] theorem kept_noteTripped (s : State) (o : OutletId) (hs : Has P s) : Has P (State.noteTripped s o) := by
  unfold State.noteTripped
  simp (maxDischargeDepth := 30) [hk, hs]
@[simp] theorem kept_withdrawMember (s : State) (g : Nat) (o : OutletId) (hs : Has P s) : Has P (State.withdrawMember s g o) := by
  unfold State.withdrawMember
  simp (maxDischargeDepth := 30) [hk, hs]
@[simp] theorem kept_noteClaiming (s : State) (o : OutletId) (hs : Has P s) : Has P (State.noteClaiming s o) := by
  unfold State.noteClaiming
  (repeat' split) <;> simp (maxDischargeDepth := 30) [hk, hs]
@[simp] theorem kept_startDwell (s : State) (g : Nat) (hs : Has P s) : Has P (State.startDwell s g) := by
  unfold State.startDwell
  simp (maxDischargeDepth := 30) [hk, hs]
@[simp] theorem kept_removeAwaited (s : State) (g : Nat) (k : StationId) (hs : Has P s) : Has P (State.removeAwaited s g k) := by
  unfold State.removeAwaited
  (repeat' split) <;> simp (maxDischargeDepth := 30) [hk, hs]
@[simp] theorem kept_fold_removeAwaited {k : StationId} {l : List _} {s : State} (hs : Has P s) : Has P (l.foldl (fun (t : State) (g : Nat) => t.removeAwaited g k) s) :=
  has_foldl (fun t x h => by simp (maxDischargeDepth := 30) [hk, h]) l s hs
@[simp] theorem kept_restoreByDwell (g : Nat) (s : State) (o : OutletId) (hs : Has P s) : Has P (State.restoreByDwell g s o) := by
  unfold State.restoreByDwell
  simp (maxDischargeDepth := 30) [hk, hs]
@[simp] theorem kept_fold_restoreByDwell {g : Nat} {l : List _} {s : State} (hs : Has P s) : Has P (l.foldl (State.restoreByDwell g) s) :=
  has_foldl (fun t x h => by simp (maxDischargeDepth := 30) [hk, h]) l s hs
@[simp] theorem kept_endDwell (s : State) (g : Nat) (hs : Has P s) : Has P (State.endDwell s g) := by
  unfold State.endDwell
  (repeat' split) <;> simp (maxDischargeDepth := 30) [hk, hs]
@[simp] theorem kept_openMember (s : State) (o : OutletId) (hs : Has P s) : Has P (State.openMember s o) := by
  unfold State.openMember
  (repeat' split) <;> simp (maxDischargeDepth := 30) [hk, hs]
@[simp] theorem kept_fold_openMember {l : List _} {s : State} (hs : Has P s) : Has P (l.foldl State.openMember s) :=
  has_foldl (fun t x h => by simp (maxDischargeDepth := 30) [hk, h]) l s hs
@[simp] theorem kept_endCyclesLocally (s : State) (hs : Has P s) : Has P (State.endCyclesLocally s) := by
  unfold State.endCyclesLocally
  simp (maxDischargeDepth := 30) [hk, hs]
@[simp] theorem kept_placeTripped (s : State) (o : OutletId) (hs : Has P s) : Has P (State.placeTripped s o) := by
  unfold State.placeTripped
  simp (maxDischargeDepth := 30) [hk, hs]
@[simp] theorem kept_disturb (s : State) (o : OutletId) (hs : Has P s) : Has P (State.disturb s o) := by
  unfold State.disturb
  simp (maxDischargeDepth := 30) [hk, hs]
@[simp] theorem kept_fold_disturb {l : List _} {s : State} (hs : Has P s) : Has P (l.foldl State.disturb s) :=
  has_foldl (fun t x h => by simp (maxDischargeDepth := 30) [hk, h]) l s hs
@[simp] theorem kept_trip (s : State) (o : OutletId) (reason : TripReason) (value : Nat) (hs : Has P s) : Has P (State.trip s o reason value) := by
  unfold State.trip
  simp (maxDischargeDepth := 30) [hk, hs]
@[simp] theorem kept_endClosing (s : State) (o : OutletId) (hs : Has P s) : Has P (State.endClosing s o) := by
  unfold State.endClosing
  simp (maxDischargeDepth := 30) [hk, hs]
@[simp] theorem kept_failClosing (s : State) (o : OutletId) (hs : Has P s) : Has P (State.failClosing s o) := by
  unfold State.failClosing
  simp (maxDischargeDepth := 30) [hk, hs]
@[simp] theorem kept_closingAlignEnds (s : State) (o : OutletId) (hs : Has P s) : Has P (State.closingAlignEnds s o) := by
  unfold State.closingAlignEnds
  (repeat' split) <;> simp (maxDischargeDepth := 30) [hk, hs]
@[simp] theorem kept_loadDwell (s : State) (o : OutletId) (hs : Has P s) : Has P (State.loadDwell s o) := by
  unfold State.loadDwell
  (repeat' split) <;> simp (maxDischargeDepth := 30) [hk, hs]
@[simp] theorem kept_endOpening (s : State) (o : OutletId) (hs : Has P s) : Has P (State.endOpening s o) := by
  unfold State.endOpening
  simp (maxDischargeDepth := 30) [hk, hs]
@[simp] theorem kept_leaveDwell (s : State) (o : OutletId) (hs : Has P s) : Has P (State.leaveDwell s o) := by
  unfold State.leaveDwell
  simp (maxDischargeDepth := 30) [hk, hs]
@[simp] theorem kept_sagOutlet (b : Bank) (s : State) (o : OutletId) (hs : Has P s) : Has P (State.sagOutlet b s o) := by
  unfold State.sagOutlet
  (repeat' split) <;> simp (maxDischargeDepth := 30) [hk, hs]
@[simp] theorem kept_fold_sagOutlet {b : Bank} {l : List _} {s : State} (hs : Has P s) : Has P (l.foldl (State.sagOutlet b) s) :=
  has_foldl (fun t x h => by simp (maxDischargeDepth := 30) [hk, h]) l s hs
@[simp] theorem kept_sagOutlets (s : State) (b : Bank) (hs : Has P s) : Has P (State.sagOutlets s b) := by
  unfold State.sagOutlets
  simp (maxDischargeDepth := 30) [hk, hs]
@[simp] theorem kept_disturbBank (s : State) (b : Bank) (hs : Has P s) : Has P (State.disturbBank s b) := by
  unfold State.disturbBank
  simp (maxDischargeDepth := 30) [hk, hs]
@[simp] theorem kept_enterSag (s : State) (b : Bank) (cause : SagCause) (hs : Has P s) : Has P (State.enterSag s b cause) := by
  unfold State.enterSag
  simp (maxDischargeDepth := 30) [hk, hs]
@[simp] theorem kept_reenterSag (s : State) (b : Bank) (hs : Has P s) : Has P (State.reenterSag s b) := by
  unfold State.reenterSag
  simp (maxDischargeDepth := 30) [hk, hs]
@[simp] theorem kept_sagCondition (s : State) (b : Bank) (cause : SagCause) (hs : Has P s) : Has P (State.sagCondition s b cause) := by
  unfold State.sagCondition
  (repeat' split) <;> simp (maxDischargeDepth := 30) [hk, hs]
@[simp] theorem kept_enterRecovering (s : State) (b : Bank) (hs : Has P s) : Has P (State.enterRecovering s b) := by
  unfold State.enterRecovering
  simp (maxDischargeDepth := 30) [hk, hs]
@[simp] theorem kept_restoreShed (s : State) (o : OutletId) (hs : Has P s) : Has P (State.restoreShed s o) := by
  unfold State.restoreShed
  simp (maxDischargeDepth := 30) [hk, hs]
@[simp] theorem kept_fold_restoreShed {l : List _} {s : State} (hs : Has P s) : Has P (l.foldl State.restoreShed s) :=
  has_foldl (fun t x h => by simp (maxDischargeDepth := 30) [hk, h]) l s hs
@[simp] theorem kept_enterNormal (s : State) (b : Bank) (hs : Has P s) : Has P (State.enterNormal s b) := by
  unfold State.enterNormal
  simp (maxDischargeDepth := 30) [hk, hs]
@[simp] theorem kept_judgeHalf (s : State) (b : Bank) (volts : Nat) (onCrossings : Bool) (hs : Has P s) : Has P (State.judgeHalf s b volts onCrossings) := by
  unfold State.judgeHalf
  (repeat' split) <;> simp (maxDischargeDepth := 30) [hk, hs]
@[simp] theorem kept_watchOutlet (amps : List Nat) (s : State) (o : OutletId) (hs : Has P s) : Has P (State.watchOutlet amps s o) := by
  unfold State.watchOutlet
  simp (maxDischargeDepth := 30) [hk, hs]
@[simp] theorem kept_fold_watchOutlet {amps : List Nat} {l : List _} {s : State} (hs : Has P s) : Has P (l.foldl (State.watchOutlet amps) s) :=
  has_foldl (fun t x h => by simp (maxDischargeDepth := 30) [hk, h]) l s hs
@[simp] theorem kept_watchBank (s : State) (b : Bank) (amps : List Nat) (hs : Has P s) : Has P (State.watchBank s b amps) := by
  unfold State.watchBank
  simp (maxDischargeDepth := 30) [hk, hs]
@[simp] theorem kept_closeHalf (s : State) (b : Bank) (h : HalfMeasure) (onCrossing : Bool) (start : Stamp) (hs : Has P s) : Has P (State.closeHalf s b h onCrossing start) := by
  unfold State.closeHalf
  simp (maxDischargeDepth := 30) [hk, hs]
@[simp] theorem kept_notePeak (s : State) (o : OutletId) (peak : Nat) (hs : Has P s) : Has P (State.notePeak s o peak) := by
  unfold State.notePeak
  simp (maxDischargeDepth := 30) [hk, hs]
@[simp] theorem kept_fold_notePeak {peaks : List Nat} {l : List _} {s : State} (hs : Has P s) : Has P (l.foldl (fun (t : State) (o : OutletId) => t.notePeak o (measured peaks o)) s) :=
  has_foldl (fun t x h => by simp (maxDischargeDepth := 30) [hk, h]) l s hs
@[simp] theorem kept_notePeaks (s : State) (b : Bank) (peaks : List Nat) (hs : Has P s) : Has P (State.notePeaks s b peaks) := by
  unfold State.notePeaks
  simp (maxDischargeDepth := 30) [hk, hs]
@[simp] theorem kept_crossOutlet (s : State) (o : OutletId) (hs : Has P s) : Has P (State.crossOutlet s o) := by
  unfold State.crossOutlet
  simp (maxDischargeDepth := 30) [hk, hs]
@[simp] theorem kept_fold_crossOutlet {l : List _} {s : State} (hs : Has P s) : Has P (l.foldl State.crossOutlet s) :=
  has_foldl (fun t x h => by simp (maxDischargeDepth := 30) [hk, h]) l s hs
@[simp] theorem kept_crossOutlets (s : State) (b : Bank) (hs : Has P s) : Has P (State.crossOutlets s b) := by
  unfold State.crossOutlets
  simp (maxDischargeDepth := 30) [hk, hs]
@[simp] theorem kept_endOutletWindow (noLine : Bool) (volts ms : Nat) (w : WindowMeasure) (s : State) (o : OutletId) (hs : Has P s) : Has P (State.endOutletWindow noLine volts ms w s o) := by
  unfold State.endOutletWindow
  simp (maxDischargeDepth := 30) [hk, hs]
@[simp] theorem kept_fold_endOutletWindow {n : Bool} {v ms : Nat} {w : WindowMeasure} {l : List _} {s : State} (hs : Has P s) : Has P (l.foldl (State.endOutletWindow n v ms w) s) :=
  has_foldl (fun t x h => by simp (maxDischargeDepth := 30) [hk, h]) l s hs
@[simp] theorem kept_openOutletWindow (b : Bank) (s : State) (o : OutletId) (hs : Has P s) : Has P (State.openOutletWindow b s o) := by
  unfold State.openOutletWindow
  simp (maxDischargeDepth := 30) [hk, hs]
@[simp] theorem kept_fold_openOutletWindow {b : Bank} {l : List _} {s : State} (hs : Has P s) : Has P (l.foldl (State.openOutletWindow b) s) :=
  has_foldl (fun t x h => by simp (maxDischargeDepth := 30) [hk, h]) l s hs
@[simp] theorem kept_endWindow (s : State) (b : Bank) (m : WindowMeasure) (closing : Option Stamp) (hs : Has P s) : Has P (State.endWindow s b m closing) := by
  unfold State.endWindow
  simp (maxDischargeDepth := 30) [hk, hs]
@[simp] theorem kept_countRise (s : State) (b : Bank) (m : WindowMeasure) (now : Stamp) (hs : Has P s) : Has P (State.countRise s b m now) := by
  unfold State.countRise
  simp (maxDischargeDepth := 30) [hk, hs]
@[simp] theorem kept_takeVoltageCrossing (s : State) (b : Bank) (edge : Edge) (now : Stamp) (h : HalfMeasure) (m : WindowMeasure) (hs : Has P s) : Has P (State.takeVoltageCrossing s b edge now h m) := by
  unfold State.takeVoltageCrossing
  (repeat' split) <;> simp (maxDischargeDepth := 30) [hk, hs]
@[simp] theorem kept_takeCurrentCrossing (s : State) (o : OutletId) (now : Stamp) (hs : Has P s) : Has P (State.takeCurrentCrossing s o now) := by
  unfold State.takeCurrentCrossing
  simp (maxDischargeDepth := 30) [hk, hs]
@[simp] theorem kept_linkGoesDown (s : State) (hs : Has P s) : Has P s.linkGoesDown :=
  kept_endCyclesLocally hk _ (kept_withdrawAllSent hk _ (hk.stopped hs (.inr rfl) rfl (.inl rfl)))
@[simp] theorem kept_enterLinkDown (s : State) (k : FrameKind) (hs : Has P s) : Has P (s.enterLinkDown k) :=
  kept_post hk _ _ _ _ _ (kept_linkGoesDown hk _ (kept_of_same hk hs rfl rfl rfl))
@[simp] theorem kept_enterIsolated (s : State) (k : FrameKind) (serial : Nat) (hs : Has P s) : Has P (s.enterIsolated k serial) :=
  kept_post hk _ _ _ _ _ (kept_linkGoesDown hk _ (kept_of_same hk hs rfl rfl rfl))
@[simp] theorem kept_attemptFails (s : State) (mismatch : Bool) (hs : Has P s) : Has P (s.attemptFails mismatch) := by
  unfold State.attemptFails
  split
  · exact hs
  · next a ha =>
    have hsettled := hk.attemptSettled s a mismatch ha hs
    exact has_ite (kept_enterLinkDown hk _ _ hsettled) hsettled
@[simp] theorem kept_frameInError (s : State) (hs : Has P s) : Has P s.frameInError := by
  unfold State.frameInError
  split <;> exact kept_of_same hk hs rfl rfl rfl
@[simp] theorem kept_frameFails (s : State) (r : Reception) (hs : Has P s) : Has P (s.frameFails r) := by
  have hjoin : Has P ((s.modLink (fun l => { l with rejectDriven := false })).offerJoin true) :=
    kept_offerJoin hk _ _ (kept_of_same hk hs rfl rfl rfl)
  unfold State.frameFails
  split
  case h_1 | h_2 => exact has_ite hjoin (kept_of_same hk hs rfl rfl rfl)
  case h_3 => exact has_ite (kept_of_same hk hs rfl rfl rfl) hs
  all_goals exact hs
@[simp] theorem kept_enterJoining (s : State) (hs : Has P s) : Has P s.enterJoining := kept_offerJoin hk _ _ (kept_of_same hk hs rfl rfl rfl)
@[simp] theorem kept_startRestore (s : State) (hs : Has P s) : Has P (State.startRestore s) := by
  unfold State.startRestore
  simp (maxDischargeDepth := 30) [hk, hs]
@[simp] theorem kept_enterActive (s : State) (hs : Has P s) : Has P (State.enterActive s) := by
  exact kept_startRestore hk _ (kept_post hk _ _ _ _ _ (kept_of_same hk hs rfl rfl rfl))
@[simp] theorem kept_reportOverload (s : State) (n : BranchId) (detail : Nat) (hs : Has P s) : Has P (State.reportOverload s n detail) := by
  unfold State.reportOverload
  simp (maxDischargeDepth := 30) [hk, hs]
@[simp] theorem kept_shedOn (s : State) (n : BranchId) (hs : Has P s) : Has P (State.shedOn s n) := by
  unfold State.shedOn
  (repeat' split) <;> simp (maxDischargeDepth := 30) [hk, hs]
@[simp] theorem kept_designate (s : State) (n : BranchId) (hs : Has P s) : Has P (State.designate s n) := by
  unfold State.designate
  (repeat' split) <;> simp (maxDischargeDepth := 30) [hk, hs]
@[simp] theorem kept_evaluate (s : State) (n : BranchId) (hs : Has P s) : Has P (State.evaluate s n) := by
  unfold State.evaluate
  (repeat' split) <;> simp (maxDischargeDepth := 30) [hk, hs]
@[simp] theorem kept_overloadStep (source : StationId) (s : State) (n : BranchId) (hs : Has P s) : Has P (State.overloadStep source s n) := by
  unfold State.overloadStep
  simp (maxDischargeDepth := 30) [hk, hs]
@[simp] theorem kept_fold_overloadStep {k : StationId} {l : List _} {s : State} (hs : Has P s) : Has P (l.foldl (State.overloadStep k) s) :=
  has_foldl (fun t x h => by simp (maxDischargeDepth := 30) [hk, h]) l s hs
@[simp] theorem kept_overloadAfter (s : State) (source : StationId) (hs : Has P s) : Has P (State.overloadAfter s source) := by
  unfold State.overloadAfter
  simp (maxDischargeDepth := 30) [hk, hs]
@[simp] theorem kept_heard (s : State) (k : StationId) (hs : Has P s) : Has P (State.heard s k) := by
  unfold State.heard
  (repeat' split) <;> simp (maxDischargeDepth := 30) [hk, hs]
@[simp] theorem kept_heardFrom (s : State) (k : StationId) (hs : Has P s) : Has P (State.heardFrom s k) := by
  unfold State.heardFrom
  simp (maxDischargeDepth := 30) [hk, hs]
@[simp] theorem kept_setConflict (source : StationId) (s : State) (n : BranchId) (hs : Has P s) : Has P (State.setConflict source s n) := by
  unfold State.setConflict
  simp (maxDischargeDepth := 30) [hk, hs]
@[simp] theorem kept_fold_setConflict {k : StationId} {l : List _} {s : State} (hs : Has P s) : Has P (l.foldl (State.setConflict k) s) :=
  has_foldl (fun t x h => by simp (maxDischargeDepth := 30) [hk, h]) l s hs
@[simp] theorem kept_checkConflicts (s : State) (source : StationId) (p : JoinPayload) (hs : Has P s) : Has P (State.checkConflicts s source p) := by
  unfold State.checkConflicts
  simp (maxDischargeDepth := 30) [hk, hs]
@[simp] theorem kept_clearConflict (named : StationId) (s : State) (n : BranchId) (hs : Has P s) : Has P (State.clearConflict named s n) := by
  unfold State.clearConflict
  simp (maxDischargeDepth := 30) [hk, hs]
@[simp] theorem kept_fold_clearConflict {k : StationId} {l : List _} {s : State} (hs : Has P s) : Has P (l.foldl (State.clearConflict k) s) :=
  has_foldl (fun t x h => by simp (maxDischargeDepth := 30) [hk, h]) l s hs
@[simp] theorem kept_recheckConflicts (s : State) (named : StationId) (hs : Has P s) : Has P (State.recheckConflicts s named) := by
  unfold State.recheckConflicts
  simp (maxDischargeDepth := 30) [hk, hs]
@[simp] theorem kept_reportDuplicate (s : State) (source : StationId) (p : JoinPayload) (hs : Has P s) : Has P (State.reportDuplicate s source p) := by
  unfold State.reportDuplicate
  simp (maxDischargeDepth := 30) [hk, hs]
@[simp] theorem kept_reportJoined (s : State) (before : Peer) (source : StationId) (p : JoinPayload) (hs : Has P s) : Has P (State.reportJoined s before source p) := by
  unfold State.reportJoined
  simp (maxDischargeDepth := 30) [hk, hs]
@[simp] theorem kept_replyJoin (s : State) (source : StationId) (p : JoinPayload) (hs : Has P s) : Has P (State.replyJoin s source p) := by
  unfold State.replyJoin
  simp (maxDischargeDepth := 30) [hk, hs]
@[simp] theorem kept_tableJoin (s : State) (source : StationId) (p : JoinPayload) (hs : Has P s) : Has P (State.tableJoin s source p) := by
  unfold State.tableJoin
  simp (maxDischargeDepth := 30) [hk, hs]
@[simp] theorem kept_budgetJoin (before : State) (source : StationId) (s : State) (hs : Has P s) : Has P (State.budgetJoin before source s) := by
  unfold State.budgetJoin
  simp (maxDischargeDepth := 30) [hk, hs]
@[simp] theorem kept_groupJoin (before : State) (source : StationId) (p : JoinPayload) (s : State) (g : Nat) (hs : Has P s) : Has P (State.groupJoin before source p s g) := by
  unfold State.groupJoin
  (repeat' split) <;> simp (maxDischargeDepth := 30) [hk, hs]
@[simp] theorem kept_fold_groupJoin {b : State} {k : StationId} {p : JoinPayload} {l : List _} {s : State} (hs : Has P s) : Has P (l.foldl (State.groupJoin b k p) s) :=
  has_foldl (fun t x h => by simp (maxDischargeDepth := 30) [hk, h]) l s hs
@[simp] theorem kept_applyJoin (s : State) (source : StationId) (p : JoinPayload) (hs : Has P s) : Has P (State.applyJoin s source p) := by
  unfold State.applyJoin
  simp (maxDischargeDepth := 30) [hk, hs]
@[simp] theorem kept_reportForgotten (s : State) (k : StationId) (former : EntryState) (hs : Has P s) : Has P (State.reportForgotten s k former) := by
  unfold State.reportForgotten
  simp (maxDischargeDepth := 30) [hk, hs]
@[simp] theorem kept_tableForget (s : State) (k : StationId) (hs : Has P s) : Has P (State.tableForget s k) := by
  unfold State.tableForget
  simp (maxDischargeDepth := 30) [hk, hs]
@[simp] theorem kept_applyForget (s : State) (source k : StationId) (hs : Has P s) : Has P (State.applyForget s source k) := by
  unfold State.applyForget
  simp (maxDischargeDepth := 30) [hk, hs]
@[simp] theorem kept_applyStatus (s : State) (source : StationId) (p : Banked StatusBank) (hs : Has P s) : Has P (State.applyStatus s source p) := by
  unfold State.applyStatus
  simp (maxDischargeDepth := 30) [hk, hs]
@[simp] theorem kept_groupLost (k : StationId) (s : State) (g : Nat) (hs : Has P s) : Has P (State.groupLost k s g) := by
  unfold State.groupLost
  (repeat' split) <;> simp (maxDischargeDepth := 30) [hk, hs]
@[simp] theorem kept_fold_groupLost {k : StationId} {l : List _} {s : State} (hs : Has P s) : Has P (l.foldl (State.groupLost k) s) :=
  has_foldl (fun t x h => by simp (maxDischargeDepth := 30) [hk, h]) l s hs
@[simp] theorem kept_losePeer (k : StationId) (s : State) (hs : Has P s) : Has P (State.losePeer k s) := by
  unfold State.losePeer
  simp (maxDischargeDepth := 30) [hk, hs]
@[simp] theorem kept_takeOwn (s : State) (source : StationId) (f : PeerFrame) (hs : Has P s) : Has P (State.takeOwn s source f) := by
  unfold State.takeOwn
  simp (maxDischargeDepth := 30) [hk, hs]
@[simp] theorem kept_takeGrant (s : State) (b : Bank) (o : OutletId) (hs : Has P s) : Has P (State.takeGrant s b o) := by
  unfold State.takeGrant
  simp (maxDischargeDepth := 30) [hk, hs]
@[simp] theorem kept_dropGrant (s : State) (b : Bank) (hs : Has P s) : Has P (State.dropGrant s b) := by
  unfold State.dropGrant
  simp (maxDischargeDepth := 30) [hk, hs]
@[simp] theorem kept_actOnVerdict (s : State) (p : ClaimPayload) (granted : Bool) (hs : Has P s) : Has P (State.actOnVerdict s p granted) := by
  unfold State.actOnVerdict
  simp (maxDischargeDepth := 30) [hk, hs]
@[simp] theorem kept_applyClaim (s : State) (source : StationId) (p : ClaimPayload) (hs : Has P s) : Has P (State.applyClaim s source p) := by
  unfold State.applyClaim
  simp (maxDischargeDepth := 30) [hk, hs]
@[simp] theorem kept_clearPending (s : State) (source : StationId) (p : OpenGroupPayload) (hs : Has P s) : Has P (State.clearPending s source p) := by
  unfold State.clearPending
  simp (maxDischargeDepth := 30) [hk, hs]
@[simp] theorem kept_reportMerged (s : State) (source : StationId) (g : Nat) (r : CycleRecord) (hs : Has P s) : Has P (State.reportMerged s source g r) := by
  unfold State.reportMerged
  simp (maxDischargeDepth := 30) [hk, hs]
@[simp] theorem kept_reportRequested (s : State) (source : StationId) (p : OpenGroupPayload) (hs : Has P s) : Has P (State.reportRequested s source p) := by
  unfold State.reportRequested
  simp (maxDischargeDepth := 30) [hk, hs]

theorem kept_abortAtOpen (s : State) (r : CycleRecord) (hs : Has P s) : Has P (s.abortAtOpen r).1 := by
  unfold State.abortAtOpen
  split
  · split
    · next hh => exact kept_queueAbort hk hh hs
    · simp [hk, hs]
  · exact hs
@[simp] theorem kept_openCycle (s : State) (source : StationId) (p : OpenGroupPayload) (hs : Has P s) : Has P (State.openCycle s source p) := by
  have hopened := hk.insertRecord s p hs
  unfold State.openCycle
  simp (maxDischargeDepth := 30) [hk, kept_abortAtOpen, hopened]
@[simp] theorem kept_applyOpenGroup (s : State) (source : StationId) (p : OpenGroupPayload) (hs : Has P s) : Has P (State.applyOpenGroup s source p) := by
  have hheard : Has P ((s.heardFrom source).clearPending source p) := by simp [hk, hs]
  unfold State.applyOpenGroup
  dsimp only
  split
  · exact hheard
  · refine has_ite hheard ?_
    split
    · exact kept_reportMerged hk _ _ _ _ hheard
    · exact kept_openCycle hk _ _ _ hheard
@[simp] theorem kept_applyGroupOff (s : State) (source : StationId) (p : GroupOffPayload) (hs : Has P s) : Has P (State.applyGroupOff s source p) := by
  have hheard : Has P (s.heardFrom source) := kept_heardFrom hk s source hs
  unfold State.applyGroupOff
  dsimp only
  split
  · exact hheard
  · have hgathered := kept_modRecord hk _ p.group
      (fun r => { r with gOpened := gather r.gOpened p.opened, gHeld := gather r.gHeld p.held }) (fun _ => rfl) hheard
    exact has_ite (has_ite (kept_abortCycle hk _ _ _ (kept_modRecord hk _ _ _ (fun _ => rfl) hgathered)) (kept_removeAwaited hk _ _ _ hgathered))
      hheard
@[simp] theorem kept_applyGroupOn (s : State) (source : StationId) (p : GroupOnPayload) (hs : Has P s) : Has P (State.applyGroupOn s source p) := by
  have hheard : Has P (s.heardFrom source) := kept_heardFrom hk s source hs
  unfold State.applyGroupOn
  dsimp only
  split
  · exact hheard
  · split
    case h_1 => exact has_ite (kept_modRecord hk _ _ _ (fun _ => rfl) hheard) hheard
    case h_2 => exact has_ite (kept_removeAwaited hk _ _ _ (kept_modRecord hk _ _ _ (gatherOn_members p) hheard)) hheard
    all_goals exact hheard
@[simp] theorem kept_applyGroupAbort (s : State) (source : StationId) (p : GroupAbortPayload) (hs : Has P s) : Has P (State.applyGroupAbort s source p) := by
  have hheard : Has P (s.heardFrom source) := kept_heardFrom hk s source hs
  unfold State.applyGroupAbort
  dsimp only
  split
  · exact hheard
  · exact kept_actAbort hk _ _ _ hheard


theorem kept_receive (s : State) (k : StationId) (f : PeerFrame) (act : State → State) (h : ∀ t, Has P t → Has P (act t)) (hs : Has P s) :
    Has P (s.receive k f act) := by
  have hleft : Has P s.leaveSlot := kept_leaveSlot hk s hs
  unfold State.receive
  split
  · exact hs
  · exact hs
  · exact has_ite (kept_frameInError hk s hs) (has_ite (kept_enterIsolated hk _ _ _ hleft) (h _ hleft))
  all_goals
    exact has_ite (kept_frameInError hk s hs)
      (has_ite (kept_enterIsolated hk _ _ _ hleft) (h _ (kept_leaveSlot hk _ (kept_takeOwn hk s k f hs))))

@[simp] theorem kept_readEffect (s : State) (c : Capture) (hs : Has P s) : Has P (State.readEffect s c) := by
  unfold State.readEffect
  (repeat' split) <;> simp (maxDischargeDepth := 30) [hk, hs]
@[simp] theorem kept_clearTripped (s : State) (o : OutletId) (hs : Has P s) : Has P (State.clearTripped s o) := by
  unfold State.clearTripped
  simp (maxDischargeDepth := 30) [hk, hs]
@[simp] theorem kept_expireClaim (s : State) (o : OutletId) (hs : Has P s) : Has P (State.expireClaim s o) := by
  unfold State.expireClaim
  simp (maxDischargeDepth := 30) [hk, hs]
@[simp] theorem kept_scheduleStatus (s : State) (hs : Has P s) : Has P (State.scheduleStatus s) := by
  unfold State.scheduleStatus
  (repeat' split) <;> simp (maxDischargeDepth := 30) [hk, hs]
@[simp] theorem kept_endOffGather (s : State) (g : Nat) (hs : Has P s) : Has P (State.endOffGather s g) := by
  unfold State.endOffGather
  simp (maxDischargeDepth := 30) [hk, hs]

end

end Sys2Proof.Machine
end

section
/-! The event queue, the transmit queue and the members of the cycle records through every command (R75, R137, R184). -/

namespace Sys2Proof.Machine
open Sys2Proof

/-! What the operations on the queue and the records keep, every command keeps. -/

section
variable {P : State → Prop} (hk : LinkKept P)
include hk

theorem kept_effect {s t : State} (h : Effect s t) (hs : Has P s) : Has P t := by
  cases h with
  | onFromOff o | onKept o | onMet o | onFromDwell o => simp (maxDischargeDepth := 30) [hk, hs]
  | offMet o | offFromClaiming o | offPending o | offFromOn o => simp (maxDischargeDepth := 30) [hk, hs]
  | offFromOpening o | offFromDwell o | offFromShed o | offTripped o => simp (maxDischargeDepth := 30) [hk, hs]
  | cycled o w => simp (maxDischargeDepth := 30) [hk, hs]
  | originated e p tag ht => exact kept_originated hk _ e tag (hk.offer ht rfl hs)
  | aborted g | alreadyAborted => simp (maxDischargeDepth := 30) [hk, hs]
  | cleared o => exact kept_clearTripped hk s o hs
  | energyReset | energyResetOf o => exact kept_of_same hk hs rfl rfl rfl
  | protectionSet set => exact kept_protect hk s set hs
  | forgetting k ht => exact hk.offer ht rfl hs
  | boardSet x | bankSet b x | profileSet k x | groupSet g w p => exact kept_of_same hk hs rfl rfl rfl
  | outletSet g o x =>
    refine kept_modOutlet hk _ _ _ ?_
    unfold State.nameGroup
    exact has_ite hs (kept_of_same hk hs rfl rfl rfl)
  | started => exact kept_enterJoining hk _ (kept_of_same hk hs rfl rfl rfl)

theorem kept_fire {c : Instr} {due : State → Option Nat} {fire : State → State} (h : course c = .timer due fire) {s : State} (hs : Has P s) :
    Has P (fire s) := by
  cases c with
  | halfCycleTimeout b m => cases h; simp (maxDischargeDepth := 30) [hk, hs]
  | windowTimeout b w => cases h; exact kept_endWindow hk s b w none hs
  | noCrossingTimeout b => cases h; simp (maxDischargeDepth := 30) [hk, hs]
  | recoveryTimerExpiry b => cases h; simp (maxDischargeDepth := 30) [hk, hs]
  | closingAlignExpiry o => cases h; simp (maxDischargeDepth := 30) [hk, hs]
  | openingAlignExpiry o => cases h; exact kept_alignOpening hk s o true hs
  | coilPulseEnd o => cases h; exact kept_startClosingSettle hk s o hs
  | closingSettleEnd o => cases h; exact kept_endClosing hk s o hs
  | openingSettleEnd o => cases h; simp (maxDischargeDepth := 30) [hk, hs]
  | localDwellExpiry o => cases h; simp (maxDischargeDepth := 30) [hk, hs]
  | claimWaitExpiry o => cases h; simp (maxDischargeDepth := 30) [hk, hs]
  | scheduledStatus => cases h; exact kept_scheduleStatus hk s hs
  | offGatherExpiry g => cases h; simp (maxDischargeDepth := 30) [hk, hs]
  | dwellExpiry g => cases h; simp (maxDischargeDepth := 30) [hk, hs]
  | onGatherExpiry g => cases h; exact kept_finishCycle hk s g _ hs
  | peerLivenessExpiry k => cases h; simp (maxDischargeDepth := 30) [hk, hs]
  | joiningTimerExpiry => cases h; simp (maxDischargeDepth := 30) [hk, hs]
  | quietTimerExpiry => cases h; exact kept_enterJoining hk s hs
  | _ => cases h

theorem kept_event {c : Instr} {f : State → State} (h : course c = .event f) {s : State} (hs : Has P s) : Has P (f s) := by
  cases c with
  | voltageZeroCrossing b edge micros m w => cases h; simp (maxDischargeDepth := 30) [hk, hs]
  | currentZeroCrossing o micros peak => cases h; simp (maxDischargeDepth := 30) [hk, hs]
  | instantTrip o n => cases h; simp (maxDischargeDepth := 30) [hk, hs]
  | busIdleOffer rivals => cases h; exact kept_offerOnBus hk s rivals hs
  | attemptFailed m => cases h; simp (maxDischargeDepth := 30) [hk, hs]
  | failedFrame r => cases h; exact kept_frameFails hk s r hs
  | _ => cases h

theorem kept_applies {s : State} (k : StationId) (f : PeerFrame) (hs : Has P s) : Has P (s.applies k f) := by
  cases f with
  | join p => exact kept_applyJoin hk s k p hs
  | status p => exact kept_applyStatus hk s k p hs
  | forget n => exact kept_applyForget hk s k n hs
  | claim p => exact kept_applyClaim hk s k p hs
  | openGroup p => exact kept_applyOpenGroup hk s k p hs
  | groupOff p => exact kept_applyGroupOff hk s k p hs
  | groupOn p => exact kept_applyGroupOn hk s k p hs
  | groupAbort p => exact kept_applyGroupAbort hk s k p hs

theorem kept_control {c : Instr} {f : State → State} (h : course c = .control f) {s : State} (hs : Has P s) : Has P (f s) := by
  cases c with
  | powerOnReset j l => cases h; exact hk.stopped hs (.inr rfl) rfl (.inr rfl)
  | warmResetAssert => cases h; exact hk.stopped hs (.inl rfl) rfl (.inl rfl)
  | warmResetRelease j => cases h; exact has_ite (hk.stopped hs (.inr rfl) rfl (.inr rfl)) hs
  | lockChange v => cases h; exact kept_of_same hk hs rfl rfl rfl
  | _ => cases h

theorem kept_portOnly {s t : State} (h : PortOnly s t) (hs : Has P s) : Has P t := by
  rw [show t = { s with port := t.port } from h]
  exact kept_of_same hk hs rfl rfl rfl

theorem kept_run (c : Instr) {s : State} (hs : Has P s) : Has P ((course c).run s) := by
  have hkept : KeptBy (Has P) c s :=
    { start := hs
      control := fun f hf => kept_control hk hf hs
      frame := fun h ht => kept_portOnly hk h.1 ht
      readEffect := fun t r ht => kept_readEffect hk t r ht
      action := fun _ _ _ _ t ht => kept_effect hk ht (kept_portOnly hk (portOnly_openFrame s) hs)
      timer := fun due fire hf d _ => kept_fire hk hf (kept_passTime hk s d hs)
      event := fun f hf => kept_event hk hf hs
      carried := fun k f _ => kept_receive hk s k f _ (fun t ht => kept_issueClaims hk _ (kept_applies hk k f ht)) hs }
  exact hkept.result

theorem kept_step {s t : State} (h : step s = .next t) (hs : Has P s) : Has P t := by
  rcases step_cases h with rfl | ⟨c, rest, -, rfl⟩
  · exact kept_passTime hk s 1 hs
  · exact kept_run hk c (kept_of_same hk hs rfl rfl rfl)

end

/-! The two properties, each from the laws of `State.Fits` with nothing of the other in the state. -/

/-- The state with no cycle record: what the operations on the transmit queue do to it they do to the state. -/
def State.noRecords (s : State) : State := { s with records := [] }

theorem fits_noRecords {s : State} (hs : s.queueBounded) : s.noRecords.Fits := ⟨hs, fun _ hr => absurd hr List.not_mem_nil⟩

theorem offer_noRecords {s t : State} {u : Nat} {f : PeerFrame} (h : s.offer u f = some t) : s.noRecords.offer u f = some t.noRecords := by
  unfold State.offer at h ⊢
  split at h
  · next hroom =>
    cases h
    exact if_pos hroom
  · cases h

theorem offerReserved_noRecords (s : State) (f : PeerFrame) : (s.noRecords.offerReserved f).link = (s.offerReserved f).link := by
  unfold State.offerReserved
  show (if s.link.state.takesReserved = true then _ else _ : State).link = _
  split
  · dsimp only [State.noRecords]
    split
    · split <;> rfl
    · rfl
  · rfl

theorem queueBounded_of_link {s t : State} (h : t.link = s.link) (hs : s.queueBounded) : t.queueBounded := by
  unfold State.queueBounded
  rw [h]
  exact hs

theorem offerOnBus_queueBounded {s : State} (l : List Nat) (hs : s.queueBounded) : (s.offerOnBus l).queueBounded := by
  unfold State.offerOnBus
  split
  · next x q _ hq =>
    have hmem : x ∈ s.link.queue := by
      rw [hq]
      exact List.mem_cons_self
    exact ite_keeps (P := State.queueBounded) ⟨hs.1, hs.2.1, hs.2.2.1, fun a h => by cases h; exact ⟨hmem, nofun⟩⟩ hs
  · exact hs

theorem attemptCarried_noRecords (s : State) : s.noRecords.attemptCarried.link = s.attemptCarried.link := by
  unfold State.attemptCarried
  dsimp only [State.noRecords]
  split
  · rfl
  · split <;> rfl

theorem claimRemoved_link (s : State) (f : PeerFrame) : (s.claimRemoved f).link = s.link := by
  unfold State.claimRemoved
  split <;> rfl

theorem settleAttempt_link {s t : State} (a : Sending) (hl : t.link = s.link) (hst : t.station = s.station) :
    (t.settleAttempt a).link = (s.settleAttempt a).link := by
  unfold State.settleAttempt
  split
  · simp only [claimRemoved_link, modLink_link, hl]
  · split
    · simp only [State.insertFrame, modLink_link, modLink_station, hl, hst]
    · exact hl

theorem queueBounded_kept : LinkKept State.queueBounded where
  same := fun {s t} (hs : s.queueBounded) hq ha _ => by
    show t.queueBounded
    unfold State.queueBounded
    rw [hq, ha]
    exact hs
  stopped := fun {s t} (hs : s.queueBounded) hq ha _ => by
    have hrest : ∀ a, t.link.sending = some a → a.standsIn t.link.queue := fun a h => by rw [ha] at h; cases h
    rcases hq with hq | hq
    · exact ⟨by rw [hq]; exact hs.1, by rw [hq]; exact hs.2.1, by rw [hq]; exact hs.2.2.1, hrest⟩
    · exact ⟨by rw [hq]; exact Nat.zero_le _, by rw [hq]; exact Nat.zero_le _, by rw [hq]; exact Nat.zero_le _, hrest⟩
  offer := fun h hf hs => (fits_offer (offer_noRecords h) (fits_noRecords hs) hf).1
  offerReserved := fun s f hf hs => queueBounded_of_link (offerReserved_noRecords s f).symm (fits_offerReserved (fits_noRecords hs) f hf).1
  removeFrames := fun s p hs => (fits_removeFrames s.noRecords p (fits_noRecords hs)).1
  offerOnBus := fun s l hs => offerOnBus_queueBounded l hs
  attemptCarried := fun s hs => queueBounded_of_link (attemptCarried_noRecords s).symm (fits_attemptCarried _ (fits_noRecords hs)).1
  attemptSettled := fun s a m ha hs => by
    have hfits := fits_settleAttempt (s := s.noRecords)
      (t := s.noRecords.modLink (fun l => { l with sending := none, failures := l.failures + 1, rejectDriven := m })) (fits_noRecords hs) ha rfl rfl rfl
    exact queueBounded_of_link (s := State.settleAttempt (s.noRecords.modLink _) a) (settleAttempt_link a rfl rfl) hfits.1
  insertRecord := fun _ _ hs => hs

/-! The members of the cycle records. -/

theorem membersInOrder_of_records {s t : State} (h : t.records = s.records) (hs : s.membersInOrder) : t.membersInOrder := by
  unfold State.membersInOrder
  rw [h]
  exact hs

theorem offerOnBus_records (s : State) (l : List Nat) : (s.offerOnBus l).records = s.records := by
  unfold State.offerOnBus
  split
  · split <;> rfl
  · rfl

theorem attemptCarried_records (s : State) : s.attemptCarried.records = s.records := by
  unfold State.attemptCarried
  split
  · rfl
  · dsimp only
    split <;> rfl

theorem claimRemoved_records (s : State) (f : PeerFrame) : (s.claimRemoved f).records = s.records := by
  unfold State.claimRemoved
  split <;> rfl

theorem settleAttempt_records (s : State) (a : Sending) : (s.settleAttempt a).records = s.records := by
  unfold State.settleAttempt
  split
  · exact claimRemoved_records _ _
  · split <;> rfl

theorem membersInOrder_kept : LinkKept State.membersInOrder where
  same := fun {s t} (hs : s.membersInOrder) _ _ hr r h => by
    obtain ⟨r', hr', hmembers⟩ := hr r h
    rw [hmembers]
    exact hs r' hr'
  stopped := fun {s t} (hs : s.membersInOrder) _ _ hr => by
    rcases hr with hr | hr
    · exact membersInOrder_of_records hr hs
    · exact fun r h => by rw [hr] at h; cases h
  offer := fun h _ hs => membersInOrder_of_records (congrArg State.records (offer_frame h)) hs
  offerReserved := fun s f _ hs => membersInOrder_of_records (offerReserved_records s f) hs
  removeFrames := fun s p hs => membersInOrder_of_records (removeFrames_records s p) hs
  offerOnBus := fun s l hs => membersInOrder_of_records (offerOnBus_records s l) hs
  attemptCarried := fun s hs => membersInOrder_of_records (attemptCarried_records s) hs
  attemptSettled := fun _ a _ _ hs => membersInOrder_of_records (settleAttempt_records _ a) hs
  insertRecord := fun s p (hs : s.membersInOrder) r hr => by
    rcases mem_insertRecord hr with rfl | h
    · exact newRecord_order s p
    · exact hs r h

/-! The event queue. -/

theorem overfull_fire {c : Instr} {due : State → Option Nat} {fire : State → State} (h : course c = .timer due fire) (s : State) :
    (fire s).overfull = s.overfull := by
  cases c with
  | halfCycleTimeout b m => cases h; simp
  | windowTimeout b w => cases h; simp
  | noCrossingTimeout b => cases h; simp
  | recoveryTimerExpiry b => cases h; simp
  | closingAlignExpiry o => cases h; simp
  | openingAlignExpiry o => cases h; simp
  | coilPulseEnd o => cases h; simp
  | closingSettleEnd o => cases h; simp
  | openingSettleEnd o => cases h; simp
  | localDwellExpiry o => cases h; simp
  | claimWaitExpiry o => cases h; simp
  | scheduledStatus => cases h; simp
  | offGatherExpiry g => cases h; simp
  | dwellExpiry g => cases h; simp
  | onGatherExpiry g => cases h; simp
  | peerLivenessExpiry k => cases h; simp
  | joiningTimerExpiry => cases h; simp
  | quietTimerExpiry => cases h; simp
  | _ => cases h

theorem overfull_event {c : Instr} {f : State → State} (h : course c = .event f) (s : State) : (f s).overfull = s.overfull := by
  cases c with
  | voltageZeroCrossing b edge micros m w => cases h; dsimp only; split <;> simp
  | currentZeroCrossing o micros peak => cases h; dsimp only; split <;> simp
  | instantTrip o n => cases h; dsimp only; split <;> simp
  | busIdleOffer rivals => cases h; simp
  | attemptFailed m => cases h; simp
  | failedFrame r => cases h; simp
  | _ => cases h

theorem overfull_applies (s : State) (k : StationId) (f : PeerFrame) : (s.applies k f).overfull = s.overfull := by
  cases f <;> simp [State.applies]

theorem overfull_receive (s : State) (k : StationId) (f : PeerFrame) {act : State → State} (h : ∀ t, (act t).overfull = t.overfull) :
    (s.receive k f act).overfull = s.overfull := by
  have hslot (t : State) : t.leaveSlot.overfull = t.overfull := rfl
  unfold State.receive
  split
  · rfl
  · rfl
  all_goals simp [h, hslot]

theorem overfull_of_port {s t : State} (h : t.port.events = s.port.events) : t.overfull = s.overfull := by unfold State.overfull; rw [h]

theorem overfull_effect {s t : State} (h : Effect s t) : t.overfull = s.overfull := by
  cases h with
  | onFromOff o | onMet o | onFromDwell o => simp
  | onKept o | offFromOpening o | offTripped o => simp
  | offMet o | offFromClaiming o | offPending o | offFromOn o => simp
  | offFromDwell o | offFromShed o | cycled o w => simp
  | originated e p tag ht => rw [overfull_originated, overfull_offer ht]
  | aborted g | alreadyAborted => simp
  | cleared o => exact overfull_clearTripped s o
  | energyReset | energyResetOf o => rfl
  | protectionSet set => simp
  | forgetting k ht => exact overfull_offer ht
  | boardSet x | bankSet b x | profileSet k x | groupSet g w p => rfl
  | outletSet g o x =>
    rw [overfull_modOutlet]
    unfold State.nameGroup
    split <;> rfl
  | started => exact (overfull_enterJoining _).trans rfl

theorem readEffect_eventsBounded {s : State} (c : Capture) (hs : s.eventsBounded) : (s.readEffect c).eventsBounded := by
  have htail : s.port.events.tail.length ≤ eventCapacity := by
    rw [List.length_tail]
    exact Nat.le_trans (Nat.sub_le _ _) hs
  unfold State.readEffect
  split
  case h_1 => exact hs
  case h_2 => exact ite_keeps htail hs
  case h_3 =>
    split
    · exact ite_keeps hs hs
    · exact hs
  all_goals exact hs

theorem control_eventsBounded {c : Instr} {f : State → State} (h : course c = .control f) {s : State} (hs : s.eventsBounded) :
    (f s).eventsBounded := by
  cases c with
  | powerOnReset j l => cases h; exact Nat.zero_le eventCapacity
  | warmResetAssert => cases h; exact hs
  | warmResetRelease j => cases h; exact ite_keeps (P := State.eventsBounded) (Nat.zero_le eventCapacity) hs
  | lockChange v => cases h; exact hs
  | _ => cases h

theorem run_eventsBounded (c : Instr) {s : State} (hs : s.eventsBounded) : ((course c).run s).eventsBounded := by
  have bounded {t : State} (h : t.overfull = s.overfull) : t.eventsBounded := by
    rw [eventsBounded_iff, h]
    exact (eventsBounded_iff s).1 hs
  have hkept : KeptBy State.eventsBounded c s :=
    { start := hs
      control := fun f hf => control_eventsBounded hf hs
      frame := fun {t u} h (ht : t.port.events.length ≤ _) => by
        show u.port.events.length ≤ _
        rw [h.2]
        exact ht
      readEffect := fun t r ht => readEffect_eventsBounded r ht
      action := fun _ _ _ _ t ht => bounded ((overfull_effect ht).trans (overfull_of_port rfl))
      timer := fun due fire hf d _ => bounded ((overfull_fire hf _).trans (overfull_passTime s d))
      event := fun f hf => bounded (overfull_event hf s)
      carried := fun k f _ => bounded (overfull_receive s k f (fun t => (overfull_issueClaims _).trans (overfull_applies t k f))) }
  exact hkept.result

theorem step_eventsBounded {s t : State} (hs : s.eventsBounded) (h : step s = .next t) : t.eventsBounded := by
  rcases step_cases h with rfl | ⟨c, rest, -, rfl⟩
  · rw [eventsBounded_iff, overfull_passTime]
    exact (eventsBounded_iff s).1 hs
  · exact run_eventsBounded c hs

/-- The bound on the transmit queue, with the reserved kinds spelled out (R75, R76). -/
theorem queueBounded_iff (s : State) : s.queueBounded ↔
    (s.link.queue.filter (fun x => decide (frameKind x.frame ≠ .status ∧ frameKind x.frame ≠ .join))).length ≤ 30 ∧
      (s.link.queue.filter (fun x => decide (frameKind x.frame = .status))).length ≤ 1 ∧
      (s.link.queue.filter (fun x => decide (frameKind x.frame = .join))).length ≤ 1 ∧
      ∀ a, s.link.sending = some a → a.frame ∈ s.link.queue ∧
        ∀ f, a.replacement = some f → (frameKind f = .status ∨ frameKind f = .join) ∧ frameKind f = frameKind a.frame.frame := by
  have hreserved (f : PeerFrame) : isReserved f = true ↔ frameKind f = .status ∨ frameKind f = .join := by simp [isReserved]
  have hcount : ordinaryCount s.link.queue =
      (s.link.queue.filter (fun x => decide (frameKind x.frame ≠ .status ∧ frameKind x.frame ≠ .join))).length := by
    unfold ordinaryCount isReserved
    congr 2
    funext x
    simp
  unfold State.queueBounded Sending.standsIn
  simp only [hcount, hreserved]
  exact Iff.rfl

/-- Settles O7. -/
theorem queuesStayWithinTheirCapacityAndMembersInOrder : Obligations.QueuesStayWithinTheirCapacityAndMembersInOrder :=
  ⟨fun _ _ hs h => step_eventsBounded hs h, fun _ _ hs h => kept_step queueBounded_kept h hs,
    fun _ _ hs h => kept_step membersInOrder_kept h hs, queueBounded_iff⟩

end Sys2Proof.Machine
end

section
/-! What the resets leave: the blocks at their start, the outlets rebuilt from their relays, and the board held while RST is asserted (R27, R28, R49,
R50, R64, R83, R85, R105, R124, R135, R172, R173, R175). -/

namespace Sys2Proof.Machine
open Sys2Proof

/-- A board as either reset leaves it, but for what a warm reset keeps of the outlets and the meters. -/
def State.restarted (s : State) (j : Jumpers) (lock : Bool) (outlets : Tab 24 Outlet) (meters : Tab 24 Meter) : State :=
  { State.reset with pending := s.pending, serial := s.serial, port := s.port.afterReset, outlets := outlets, meters := meters }.sampleInputs j lock

theorem poweredOn_eq_restarted (s : State) (j : Jumpers) (l : Bool) :
    s.poweredOn j l = s.restarted j l State.reset.outlets State.reset.meters := rfl

theorem releaseReset_eq_restarted (s : State) (j : Jumpers) :
    s.releaseReset j = s.restarted j s.lockPin (s.outlets.mapIdx (fun _ x => x.rebuild)) (s.meters.mapIdx (fun _ m => m.rebuild)) := rfl

/-- After either reset every outlet has the default configuration (R27). -/
theorem either_reset_restarted {j : Jumpers} {l : Bool} {s t : State} (h : t = s.poweredOn j l ∨ t = s.releaseReset j) :
    ∃ lock outlets meters, t = s.restarted j lock outlets meters ∧ ∀ o, (outlets.get o).cfg = .default := by
  rcases h with rfl | rfl
  · exact ⟨l, _, _, poweredOn_eq_restarted s j l, fun o => by rw [show State.reset.outlets.get o = Outlet.reset from reset_outlet o]; rfl⟩
  · exact ⟨_, _, _, releaseReset_eq_restarted s j, fun o => by rw [Tab.get_mapIdx]; rfl⟩

/-- The station number is the jumper sample, ST0 least significant (R161). -/
theorem station_val (j : Jumpers) : (Jumpers.station j).val = 8 * j.st3.toNat + 4 * j.st2.toNat + 2 * j.st1.toNat + j.st0.toNat := by
  obtain ⟨st3, st2, st1, st0, -, -⟩ := j
  cases st3 <;> cases st2 <;> cases st1 <;> cases st0 <;> rfl

section
variable (s : State) (j : Jumpers) (lock : Bool) (outlets : Tab 24 Outlet) (meters : Tab 24 Meter)

theorem restarted_profile (k : Fin 4) : (s.restarted j lock outlets meters).profiles.get k = Profile.default := Tab.get_fill _ _
theorem restarted_line (b : Bank) : (s.restarted j lock outlets meters).line b = Line.reset := Banked.get_fill _ _
theorem restarted_window (b : Bank) : (s.restarted j lock outlets meters).window b = BankWindow.reset := Banked.get_fill _ _
theorem restarted_queue (b : Bank) : (s.restarted j lock outlets meters).queue b = [] := Banked.get_fill _ _
theorem restarted_claim (b : Bank) : (s.restarted j lock outlets meters).claim b = Claim.reset := Banked.get_fill _ _
theorem restarted_peer (k : StationId) : (s.restarted j lock outlets meters).peer k = Peer.absent := Tab.get_fill _ _
theorem restarted_over (n : BranchId) : (s.restarted j lock outlets meters).over n = Overload.reset := Tab.get_fill _ _

/-- Without a crossing taken the 25 ms run from board time 0 (R53). -/
theorem restarted_noCrossingDue (b : Bank) : (s.restarted j lock outlets meters).noCrossingDue b = some 25 := by
  simp only [State.noCrossingDue, restarted_line, Line.reset]
  rfl

end

/-- Settles O11. -/
theorem eitherResetLeavesTheBlocksAtTheirStart : Obligations.EitherResetLeavesTheBlocksAtTheirStart := by
  unfold Obligations.EitherResetLeavesTheBlocksAtTheirStart
  intro j l s t h
  obtain ⟨lock, outlets, meters, rfl, hcfg⟩ := either_reset_restarted (either_reset_cases h)
  refine ⟨rfl, rfl, rfl, station_val j, rfl, rfl, rfl, restarted_profile s j lock outlets meters, hcfg, rfl, fun b => ?lines, rfl, rfl, rfl, rfl,
    rfl, rfl, restarted_peer s j lock outlets meters, rfl, fun b => ?banks, restarted_over s j lock outlets meters, rfl, rfl, rfl⟩
  case lines =>
    rw [restarted_line, restarted_noCrossingDue]
    exact ⟨rfl, rfl, rfl, rfl, rfl, rfl, rfl, rfl, rfl⟩
  case banks =>
    rw [restarted_queue, restarted_claim]
    exact ⟨rfl, rfl, rfl, rfl, rfl, rfl, rfl, rfl, rfl, rfl⟩

/-! RST asserted (R28). -/

theorem assertReset_outlet (s : State) (o : OutletId) : s.assertReset.outlet o = (s.outlet o).hold := Tab.get_mapIdx _ _ _

/-- A PULSE is reduced to HOLD, and every other drive is kept (R28). -/
theorem hold_coil (x : Outlet) : x.hold = { x with coil := match x.coil with | .pulse => .hold | d => d } := by
  unfold Outlet.hold
  cases hc : x.coil <;> simp

theorem throughReset_eq (l : SelectLine) : l.throughReset = if l = .high then .high else .discarded := by
  cases l <;> rfl

theorem Course.frame_invalid (bits : Nat) (command : Byte) :
    (Course.invalid bits command).frame = if isInvalidFrame bits command then some (bits, false) else none := rfl

/-- What a host frame does while the port takes none: it ends (R175). -/
theorem run_discarded {c : Instr} {s : State} {bits : Nat} {ok : Bool} (h : hostFrame c = some (bits, ok)) (htakes : s.takesHostFrames = false) :
    (course c).run s = s.closeFrame := by
  rw [hostFrame_eq] at h
  cases hc : course c with
  | read bits r => exact atRising_discarded htakes (fun s => s.runRead bits r)
  | action bits args run => exact atRising_discarded htakes (fun s => s.runFrame bits args run)
  | invalid bits command =>
    rw [hc, Course.frame_invalid] at h
    split at h
    · next hbad => exact (if_pos hbad).trans (atRising_discarded htakes _)
    · cases h
  | _ => rw [hc] at h; cases h

/-- While RST is asserted nothing acts but host frames and captures, the resets and LOCK (log 17). -/
theorem run_eq_self_of_inReset {c : Instr} {s : State} (hr : s.inReset = true) (hframe : hostFrame c = none)
    (hcapture : ∀ w, c ≠ .hostReplyCapture w) (hcontrol : actsInReset c = false) : (course c).run s = s := by
  have hidle (f : State → State) : s.unlessReset f = s := by simp [State.unlessReset, hr]
  rw [hostFrame_eq] at hframe
  rw [actsInReset_eq] at hcontrol
  cases hc : course c with
  | control f => rw [hc] at hcontrol; cases hcontrol
  | read bits r => rw [hc] at hframe; cases hframe
  | action bits args run => rw [hc] at hframe; cases hframe
  | invalid bits command =>
    rw [hc, Course.frame_invalid] at hframe
    split at hframe
    · cases hframe
    · next hbad => exact if_neg hbad
  | capture what => exact absurd (captures_eq_some.1 (by rw [hc]; rfl)) (hcapture what)
  | timer due fire => exact hidle (fun s => s.expire (due s) fire)
  | event f => exact hidle f
  | carried k f => exact hidle (fun s => s.receive k f (fun s => (s.applies k f).issueClaims))

theorem capturePort_of_inReset {s : State} (hr : s.inReset = true) (w : PortCapture) : s.capturePort w = s.discardFrame := by
  cases w <;> simp [State.capturePort, State.takesHostFrames, hr]

theorem either_reset_select {j : Jumpers} {l : Bool} {s t : State} (h : t = s.poweredOn j l ∨ t = s.releaseReset j) :
    t.port.select = (if s.port.select = .high then .high else .discarded) ∧ t.port.capture = none := by
  obtain ⟨hport, -⟩ := either_reset_port h
  rw [hport]
  exact ⟨throughReset_eq _, rfl⟩

/-- Settles O13. -/
theorem assertedResetHoldsTheCoilsAndStopsTheRest : Obligations.AssertedResetHoldsTheCoilsAndStopsTheRest := by
  unfold Obligations.AssertedResetHoldsTheCoilsAndStopsTheRest
  refine ⟨fun s => ⟨s.assertReset, rfl, rfl, fun o => ?coils, ?leds, ?linkLed, ?alert, rfl, rfl, ?port, rfl⟩, fun c s hr hframe hcapture hcontrol => ?idle,
    fun w s hr => ?captures, fun j l s t h => either_reset_select (either_reset_cases h)⟩
  case coils => exact (assertReset_outlet s o).trans (hold_coil _)
  case leds => exact (indicators_dark_in_reset rfl).1
  case linkLed => exact (indicators_dark_in_reset rfl).2.1
  case alert => exact (indicators_dark_in_reset rfl).2.2
  case port => rw [← throughReset_eq]; rfl
  case idle => rw [exec_course, run_eq_self_of_inReset hr hframe hcapture hcontrol]
  case captures =>
    rw [exec_course]
    exact congrArg Host.Outcome.next (capturePort_of_inReset hr w)

/-! A warm reset (R28, R50, R173). -/

/-- RST asserted leaves a coil held exactly where R2 drives it: ON, CLOSING past ALIGN, and OPENING in ALIGN. -/
theorem hold_coil_iff {x : Outlet} (hx : x.consistent) :
    x.hold.coil = .hold ↔ x.state = .on ∨ x.state = .closing ∧ x.sub ≠ some .align ∨ x.state = .opening ∧ x.sub = some .align := by
  obtain ⟨-, hcoil, hsub, -⟩ := hx
  have hhold : x.hold.coil = .hold ↔ coilFor x.state x.sub = .pulse ∨ coilFor x.state x.sub = .hold := by
    rw [← hcoil]
    unfold Outlet.hold
    cases x.coil <;> simp
  rw [hhold]
  cases hst : x.state with
  | on => simp [coilFor]
  | closing =>
    have hsome : x.sub.isSome = true := hsub.2 (.inl hst)
    cases hs : x.sub with
    | none => rw [hs] at hsome; cases hsome
    | some p => cases p <;> simp [coilFor]
  | opening =>
    have hsome : x.sub.isSome = true := hsub.2 (.inr hst)
    cases hs : x.sub with
    | none => rw [hs] at hsome; cases hsome
    | some p => cases p <;> simp [coilFor]
  | _ => simp [coilFor]

/-- The state, relay and coil that an outlet comes back with (R28). -/
theorem rebuild_switch {x : Outlet} (hx : x.consistent) :
    (x.hold.rebuild.state, x.hold.rebuild.relay, x.hold.rebuild.coil) =
      if x.state = .tripped then (OutletState.tripped, RelayCommand.opened, CoilDrive.off)
      else if x.state = .on ∨ x.state = .closing ∧ x.sub ≠ some .align ∨ x.state = .opening ∧ x.sub = some .align then (.on, .closed, .hold)
      else (.off, .opened, .off) := by
  have hstate : x.hold.rebuild.state = if x.state = .tripped then .tripped else if x.hold.coil = .hold then .on else .off := rfl
  have hswitch : (x.hold.rebuild.state, x.hold.rebuild.relay, x.hold.rebuild.coil) =
      (x.hold.rebuild.state, relayFor x.hold.rebuild.state none, coilFor x.hold.rebuild.state none) := rfl
  simp only [hold_coil_iff hx] at hstate
  rw [hswitch, hstate]
  (repeat' split) <;> rfl

/-- The bank load is 0 where no outlet adds to it (R36, R50). -/
theorem bankLoad_of_no_share {s : State} (h : ∀ o, (s.meter o).share = 0) (b : Bank) : s.bankLoad b = 0 := by
  simp only [State.bankLoad, h]
  cases b <;> rfl

theorem releaseReset_meter (s : State) (j : Jumpers) (o : OutletId) : (s.releaseReset j).meter o = (s.meter o).rebuild := Tab.get_mapIdx _ _ _

/-- Settles O14. -/
theorem warmResetRebuildsOutletsFromTheirRelays : Obligations.WarmResetRebuildsOutletsFromTheirRelays := by
  unfold Obligations.WarmResetRebuildsOutletsFromTheirRelays
  intro j s a hs h
  obtain rfl : a = s.assertReset := eq_run_of_exec h
  have houtlet (o : OutletId) : (s.assertReset.releaseReset j).outlet o = (s.outlet o).hold.rebuild := by
    rw [releaseReset_outlet, assertReset_outlet]
  have hmeter (o : OutletId) : (s.assertReset.releaseReset j).meter o = (s.meter o).rebuild := releaseReset_meter _ j o
  refine ⟨s.assertReset.releaseReset j, exec_warmResetRelease_of_inReset rfl j, fun o => ?switch, fun o => ?outlet, fun o => ?meter, fun b => ?bank,
    rfl, rfl⟩
  case switch =>
    rw [houtlet]
    exact rebuild_switch (hs.1 o)
  case outlet =>
    rw [houtlet]
    exact ⟨rfl, rfl, rfl, rfl, rfl, rfl, rfl, rfl, rfl⟩
  case meter =>
    rw [hmeter]
    exact ⟨rfl, rfl, rfl, rfl, rfl, rfl, rfl, rfl⟩
  case bank =>
    have hload := bankLoad_of_no_share (s := s.assertReset.releaseReset j) (fun o => by rw [hmeter]; rfl) b
    rw [hload, releaseReset_eq_restarted, restarted_window, restarted_line]
    exact ⟨rfl, rfl, rfl, rfl, rfl, rfl⟩

end Sys2Proof.Machine
end

section
/-! The host port through every command: rejected frames, refused commands, captures and executed reads (R24, R174 to R185). -/

namespace Sys2Proof.Machine
open Sys2Proof

/-! LOCK and LKE (R23, R24). -/

theorem exec_setProtect {s : State} (hframe : s.takesHostFrames = true) (set : OutletSet) :
    exec (.setProtect 32 set) s = .next ((runSetProtect set s.openFrame).1.writeResult (runSetProtect set s.openFrame).2) :=
  congrArg Host.Outcome.next (atRising_runFrame hframe 3 (runSetProtect set))

theorem runSetProtect_of_locked {s : State} (hlke : s.lke = true) (hlock : s.lockSample = true) (set : OutletSet) :
    runSetProtect set s = refuse s .locked 0 := by simp [runSetProtect, State.lockHonoured, hlke, hlock]

/-- Without LKE no answer of SET PROTECT is LOCKED. -/
theorem runSetProtect_not_locked {s : State} (hlke : s.lke = false) (set : OutletSet) : (runSetProtect set s).2.code ≠ .locked := by
  have hfree : ¬ s.lockHonoured = true := by simp [State.lockHonoured, hlke]
  rw [runSetProtect, if_neg hfree]
  split
  · nofun
  · split <;> nofun

theorem lock_samples_run {c : Instr} {s t : State} (hcontrol : actsInReset c = false) (h : exec c s = .next t) :
    t.lke = s.lke ∧ t.lockSample = s.lockSample := by
  rw [actsInReset_eq] at hcontrol
  have hinputs := inputs_run (s := s) hcontrol
  rw [← eq_run_of_exec h] at hinputs
  exact ⟨congrArg (fun x => x.2.2.1) hinputs, congrArg (fun x => x.2.2.2) hinputs⟩

theorem statusReply_lock (s : State) : s.statusReply[4]? = some (BitVec.ofNat 8 (2 * s.lke.toNat + s.lockSample.toNat)) := by
  simp [State.statusReply, beBytes, bitAt_eq]

/-- Settles O15. -/
theorem lockIsSampledAndHonouredUnderLke : Obligations.LockIsSampledAndHonouredUnderLke := by
  unfold Obligations.LockIsSampledAndHonouredUnderLke
  refine ⟨fun v s => rfl, fun j l s => ⟨_, rfl, rfl, rfl⟩, fun j s hr => ⟨_, exec_warmResetRelease_of_inReset hr j, rfl, rfl⟩,
    fun c s t hcontrol h => lock_samples_run hcontrol h, fun set s hframe hlke hlock => ?locked, fun set s t hframe hlke h => ?unlocked, statusReply_lock⟩
  case locked =>
    rw [exec_setProtect hframe, runSetProtect_of_locked (s := s.openFrame) hlke hlock]
    rfl
  case unlocked =>
    rw [exec_setProtect hframe] at h
    cases h
    exact runSetProtect_not_locked (s := s.openFrame) hlke set

/-! Rejected frames (R175). -/

/-- The frame in which a command is rejected: what the port has of it but REJ. -/
structure OpenedIn (s t : State) : Prop where
  portOnly : PortOnly s t
  slot : t.port.slot = s.port.slot
  res : t.port.res = s.port.res
  lost : t.port.lost = s.port.lost
  events : t.port.events = s.port.events
  status : s.port.capture = none → t.port.statusOut = if s.port.select = .low then s.port.statusOut else s.statusByte

/-- Where no reply has been captured, the status byte of the frame is the one of its falling edge, or the present one (R176, log 9). -/
theorem frameStatus_eq (s : State) :
    s.frameStatus = if s.port.select = .low ∧ s.port.capture = none then s.port.statusOut else s.statusByte := by
  unfold State.frameStatus State.frameOpen
  cases s.port.capture <;> simp

theorem frameStatus_of_uncaptured {s : State} (h : s.port.capture = none) :
    s.frameStatus = if s.port.select = .low then s.port.statusOut else s.statusByte := by simp [frameStatus_eq, h]

theorem openedIn_openFrame (s : State) : OpenedIn s s.openFrame := ⟨rfl, rfl, rfl, rfl, rfl, frameStatus_of_uncaptured⟩

theorem openedIn_captureReply (s : State) (r : ReadRequest) : OpenedIn s (s.captureReply r) := ⟨rfl, rfl, rfl, rfl, rfl, frameStatus_of_uncaptured⟩

theorem openedIn_joinFrame (s : State) : OpenedIn s s.joinFrame := by
  unfold State.joinFrame
  split
  · next hlow => exact ⟨rfl, rfl, rfl, rfl, rfl, fun _ => (if_pos hlow).symm⟩
  · exact openedIn_openFrame s

theorem openedIn_withCapture (s : State) (r : ReadRequest) : OpenedIn s (s.withCapture r) := by
  unfold State.withCapture
  split
  · next c hc =>
    split
    · exact ⟨rfl, rfl, rfl, rfl, rfl, fun hnone => by rw [hc] at hnone; cases hnone⟩
    · exact openedIn_captureReply s r
  · exact openedIn_captureReply s r

/-- What a rejected frame leaves (R175). -/
theorem rejected_port {s u t : State} (h : OpenedIn s u) (ht : t = u.rejectFrame) :
    t.port.rej = true ∧ { t with port := s.port } = s ∧ t.port.slot = s.port.slot ∧ t.port.res = s.port.res ∧ t.port.lost = s.port.lost ∧
      t.port.events = s.port.events ∧ t.port.select = .high ∧ t.port.capture = none ∧
      (s.port.capture = none → t.port.statusOut = if s.port.select = .low then s.port.statusOut else s.statusByte) := by
  subst ht
  have hrest : u.rejectFrame = { s with port := u.rejectFrame.port } := h.portOnly.trans (portOnly_rejectFrame u)
  exact ⟨rfl, by rw [hrest], h.slot, h.res, h.lost, h.events, rfl, rfl, h.status⟩

/-- A read whose length is wrong is rejected where it stands (R175). -/
theorem runRead_rejected {s : State} {bits : Nat} {r : ReadRequest} (hedge : bits ≠ 0) (hlength : readLengthOk bits r = false) :
    ∃ u, OpenedIn s u ∧ s.runRead bits r = u.rejectFrame := by
  rw [State.runRead, State.onFrame, if_neg hedge]
  split
  · refine ⟨_, openedIn_withCapture s r, ?_⟩
    unfold State.endRead
    split
    · rfl
    · rw [hlength]
      rfl
  · exact ⟨_, openedIn_openFrame s, rfl⟩

/-- A frame that the port takes runs (R175). -/
theorem run_read_taken {s : State} (hframe : s.takesHostFrames = true) (bits : Nat) (r : ReadRequest) :
    (Course.read bits r).run s = s.runRead bits r := atRising_taken hframe (fun s => s.runRead bits r)

theorem run_action_taken {s : State} (hframe : s.takesHostFrames = true) (bits args : Nat) (run : State → Answer) :
    (Course.action bits args run).run s = s.runFrame bits args run := atRising_taken hframe (fun s => s.runFrame bits args run)

/-- A frame that fails the checks of R175 is rejected, with nothing else done. -/
theorem run_rejected {c : Instr} {s : State} {bits : Nat} (h : hostFrame c = some (bits, false)) (hedge : bits ≠ 0)
    (hframe : s.takesHostFrames = true) : ∃ u, OpenedIn s u ∧ (course c).run s = u.rejectFrame := by
  rw [hostFrame_eq] at h
  cases hc : course c with
  | read n r =>
    rw [hc] at h
    obtain ⟨rfl, hlength⟩ := Prod.mk.inj (Option.some.inj h)
    obtain ⟨u, hu, hrun⟩ := runRead_rejected (s := s) hedge hlength
    exact ⟨u, hu, (run_read_taken hframe _ r).trans hrun⟩
  | action n args run =>
    rw [hc] at h
    obtain ⟨rfl, hlength⟩ := Prod.mk.inj (Option.some.inj h)
    refine ⟨_, openedIn_openFrame s, (run_action_taken hframe _ args run).trans ?_⟩
    rw [State.runFrame, State.onFrame, if_neg hedge, hlength]
    rfl
  | invalid n command =>
    rw [hc, Course.frame_invalid] at h
    split at h
    · next hbad =>
      obtain ⟨rfl, -⟩ := Prod.mk.inj (Option.some.inj h)
      exact ⟨_, openedIn_joinFrame s, ((if_pos hbad).trans (atRising_taken hframe _)).trans (if_neg hedge)⟩
    · cases h
  | _ => rw [hc] at h; cases h

/-- A frame with no clock edge ends (R175). -/
theorem run_no_edge {c : Instr} {s : State} {ok : Bool} (h : hostFrame c = some (0, ok)) (hframe : s.takesHostFrames = true) :
    (course c).run s = s.closeFrame := by
  rw [hostFrame_eq] at h
  cases hc : course c with
  | read n r =>
    rw [hc] at h
    obtain ⟨rfl, -⟩ := Prod.mk.inj (Option.some.inj h)
    exact run_read_taken hframe 0 r
  | action n args run =>
    rw [hc] at h
    obtain ⟨rfl, -⟩ := Prod.mk.inj (Option.some.inj h)
    exact run_action_taken hframe 0 args run
  | invalid n command =>
    rw [hc, Course.frame_invalid] at h
    split at h
    · next hbad =>
      obtain ⟨rfl, -⟩ := Prod.mk.inj (Option.some.inj h)
      exact (if_pos hbad).trans (atRising_taken hframe _)
    · cases h
  | _ => rw [hc] at h; cases h

/-! The flags and the bytes out change in host frames and resets only. -/

theorem front_fire {c : Instr} {due : State → Option Nat} {fire : State → State} (h : course c = .timer due fire) (s : State) :
    (fire s).front = s.front := by
  cases c with
  | halfCycleTimeout b m => cases h; simp
  | windowTimeout b w => cases h; simp
  | noCrossingTimeout b => cases h; simp
  | recoveryTimerExpiry b => cases h; simp
  | closingAlignExpiry o => cases h; simp
  | openingAlignExpiry o => cases h; simp
  | coilPulseEnd o => cases h; simp
  | closingSettleEnd o => cases h; simp
  | openingSettleEnd o => cases h; simp
  | localDwellExpiry o => cases h; simp
  | claimWaitExpiry o => cases h; simp
  | scheduledStatus => cases h; simp
  | offGatherExpiry g => cases h; simp
  | dwellExpiry g => cases h; simp
  | onGatherExpiry g => cases h; simp
  | peerLivenessExpiry k => cases h; simp
  | joiningTimerExpiry => cases h; simp
  | quietTimerExpiry => cases h; simp
  | _ => cases h

theorem front_event {c : Instr} {f : State → State} (h : course c = .event f) (s : State) : (f s).front = s.front := by
  cases c with
  | voltageZeroCrossing b edge micros m w => cases h; dsimp only; split <;> simp
  | currentZeroCrossing o micros peak => cases h; dsimp only; split <;> simp
  | instantTrip o n => cases h; dsimp only; split <;> simp
  | busIdleOffer rivals => cases h; simp
  | attemptFailed m => cases h; simp
  | failedFrame r => cases h; simp
  | _ => cases h

theorem front_applies (s : State) (k : StationId) (f : PeerFrame) : (s.applies k f).front = s.front := by
  cases f <;> simp [State.applies]

theorem front_receive (s : State) (k : StationId) (f : PeerFrame) {act : State → State} (h : ∀ t, (act t).front = t.front) :
    (s.receive k f act).front = s.front := by
  have hslot (t : State) : t.leaveSlot.front = t.front := rfl
  unfold State.receive
  split
  · rfl
  · rfl
  all_goals simp [h, hslot]

theorem front_unlessReset (s : State) {f : State → State} (h : (f s).front = s.front) : (s.unlessReset f).front = s.front :=
  ite_keeps (P := fun t => t.front = s.front) rfl h

theorem front_expire (s : State) (due : Option Nat) {fire : State → State} (h : ∀ t, (fire t).front = t.front) :
    (s.expire due fire).front = s.front := by
  unfold State.expire
  split
  · rfl
  · rw [h, front_passTime]

/-- A command that is no host frame, no capture and no reset leaves the flags, the slot, select and the bytes out. -/
theorem front_run {c : Instr} {s : State} (hframe : hostFrame c = none) (hcontrol : actsInReset c = false) (hcapture : ∀ w, c ≠ .hostReplyCapture w) :
    ((course c).run s).front = s.front := by
  rw [hostFrame_eq] at hframe
  rw [actsInReset_eq] at hcontrol
  cases hc : course c with
  | control f => rw [hc] at hcontrol; cases hcontrol
  | read bits r => rw [hc] at hframe; cases hframe
  | action bits args run => rw [hc] at hframe; cases hframe
  | invalid bits command =>
    rw [hc, Course.frame_invalid] at hframe
    split at hframe
    · cases hframe
    · next hbad => exact congrArg State.front (if_neg hbad)
  | capture what => exact absurd (captures_eq_some.1 (by rw [hc]; rfl)) (hcapture what)
  | timer due fire => exact front_unlessReset s (front_expire s _ (front_fire hc))
  | event f => exact front_unlessReset s (front_event hc s)
  | carried k f => exact front_unlessReset s (front_receive s k f (fun t => (front_issueClaims _).trans (front_applies t k f)))

/-- A capture leaves the flags and the slot (R174, R179). -/
theorem capturePort_flags (s : State) (w : PortCapture) :
    (s.capturePort w).port.res = s.port.res ∧ (s.capturePort w).port.rej = s.port.rej ∧ (s.capturePort w).port.slot = s.port.slot := by
  unfold State.capturePort
  split
  · split <;> exact ⟨rfl, rfl, rfl⟩
  · split <;> exact ⟨rfl, rfl, rfl⟩

/-- Settles O16. -/
theorem rejectedFramesOnlySetRej : Obligations.RejectedFramesOnlySetRej := by
  unfold Obligations.RejectedFramesOnlySetRej
  refine ⟨fun c s bits h hedge hframe => ?rejected, fun c s bits ok h hends => ?ended, takesHostFrames_iff, fun c s t hframe hcontrol h => ?others⟩
  case rejected =>
    obtain ⟨u, hopened, hrun⟩ := run_rejected h hedge hframe
    exact ⟨_, exec_course c s, rejected_port hopened hrun⟩
  case ended =>
    rw [exec_course]
    cases htakes : s.takesHostFrames with
    | false => exact congrArg Host.Outcome.next (run_discarded h htakes)
    | true =>
      have hzero : bits = 0 := hends.resolve_right (by rw [htakes]; nofun)
      subst hzero
      exact congrArg Host.Outcome.next (run_no_edge h htakes)
  case others =>
    rw [eq_run_of_exec h]
    by_cases hcapture : ∃ w, c = .hostReplyCapture w
    · obtain ⟨w, rfl⟩ := hcapture
      obtain ⟨hres, hrej, hslot⟩ := capturePort_flags s w
      exact ⟨hres, hrej, hslot, fun hno => absurd rfl (hno w)⟩
    · have hfront := front_run (s := s) hframe hcontrol (fun w hw => hcapture ⟨w, hw⟩)
      exact ⟨congrArg Front.res hfront, congrArg Front.rej hfront, congrArg Front.slot hfront,
        fun _ => ⟨congrArg Front.select hfront, congrArg Front.statusOut hfront, congrArg Front.dataOut hfront⟩⟩

end Sys2Proof.Machine
end

section
/-! Reads and refusals: what a refused command leaves, what a capture copies, and what an executed read does (R41, R174, R176 to R183). -/

namespace Sys2Proof.Machine
open Sys2Proof

/-! Refused commands (R177). -/

/-- What a refused command leaves: its result, RES and REJ. -/
structure RefusedIn (s t : State) : Prop where
  res : t.port.res = true
  rej : t.port.rej = false
  portOnly : PortOnly s t
  lost : t.port.lost = s.port.lost
  events : t.port.events = s.port.events

theorem RefusedIn.rest {s t : State} (h : RefusedIn s t) : { t with port := s.port } = s := by
  rw [show t = { s with port := t.port } from h.portOnly]

theorem refusedIn_writeResult {s t : State} (h : OpenedIn s t) (r : ResultSlot) : RefusedIn s (t.writeResult r) :=
  ⟨rfl, rfl, h.portOnly.trans (portOnly_writeResult t r), h.lost, h.events⟩

/-- An action of the right length that is not accepted answers its result and does nothing else. -/
theorem action_refused {c : Instr} {s t : State} {bits args : Nat} {run : State → Answer} (hc : course c = .action bits args run)
    (hlength : actionLengthOk bits args = true) (ht : t = s.runFrame bits args run) (hcode : t.port.slot.code ≠ .ok) :
    t = s.answered t.port.slot.code t.port.slot.detail ∧ RefusedIn s t := by
  have hedge : bits ≠ 0 := by
    have : bits = 8 * (1 + args) := of_decide_eq_true hlength
    omega
  have hrun : t = (run s.openFrame).1.writeResult (run s.openFrame).2 := by
    rw [ht, State.runFrame, State.onFrame, if_neg hedge, if_pos hlength]
  rcases action_answers s.openFrame hc with ⟨code, detail, -, hanswer⟩ | ⟨u, -, hanswer⟩
  · rw [hanswer] at hrun
    subst hrun
    exact ⟨rfl, refusedIn_writeResult (openedIn_openFrame s) _⟩
  · rw [hanswer] at hrun
    rw [hrun] at hcode
    exact absurd rfl hcode

/-- A read of the right length takes the reply captured before it, or captures it now (R174, R179). -/
theorem runRead_of_length {s : State} {bits : Nat} {r : ReadRequest} (hlength : readLengthOk bits r = true) :
    s.runRead bits r = (s.withCapture r).endRead bits r := by
  have hbits : 8 * (1 + readArgBytes r + readReplyBytes r) ≤ bits := by
    unfold readLengthOk at hlength
    exact of_decide_eq_true (Bool.and_eq_true_iff.mp hlength).2
  have hedge : bits ≠ 0 := by omega
  have hcaptures : readCaptures bits r = true := decide_eq_true (by omega)
  rw [State.runRead, State.onFrame, if_neg hedge, if_pos hcaptures]

/-- The capture that a read makes now. -/
def State.captureNow (s : State) (r : ReadRequest) : Capture := ⟨r, (s.replyOf r).2, !s.port.events.isEmpty, false, 0⟩

theorem captureReply_capture (s : State) (r : ReadRequest) : (s.captureReply r).port.capture = some (s.captureNow r) := rfl

theorem withCapture_of_uncaptured {s : State} (h : s.port.capture = none) (r : ReadRequest) : s.withCapture r = s.captureReply r := by
  simp [State.withCapture, h]

theorem runRead_uncaptured {s : State} {bits : Nat} {r : ReadRequest} (hlength : readLengthOk bits r = true) (h : s.port.capture = none) :
    s.runRead bits r = ((s.captureReply r).readEffect (s.captureNow r)).finishRead (s.captureNow r) := by
  rw [runRead_of_length hlength, withCapture_of_uncaptured h, State.endRead, captureReply_capture]
  exact if_pos hlength

/-- A read whose captured result is not OK has no side effect (R179). -/
theorem readEffect_of_refused {s : State} {c : Capture} (hcode : c.result.code ≠ .ok) (hstatus : c.request ≠ .status)
    (hevent : c.request ≠ .event) : s.readEffect c = s := by
  have hresult : c.result ≠ okSlot := fun h => hcode (congrArg ResultSlot.code h)
  unfold State.readEffect
  split
  case h_1 h => exact absurd h hstatus
  case h_2 h => exact absurd h hevent
  case h_3 =>
    split
    · simp [hresult]
    · rfl
  all_goals rfl

theorem finishRead_of_other {c : Capture} (h : c.request ≠ .result) (s : State) : s.finishRead c = s.writeResult c.result := by
  unfold State.finishRead
  split
  · next hr => exact absurd hr h
  all_goals rfl

/-- A read captured and executed in one frame with a result other than OK only writes it. -/
theorem read_refused {s t : State} {bits : Nat} {r : ReadRequest} (hlength : readLengthOk bits r = true) (hcapture : s.port.capture = none)
    (ht : t = s.runRead bits r) (hcode : t.port.slot.code ≠ .ok) : RefusedIn s t := by
  rw [runRead_uncaptured hlength hcapture] at ht
  have hresult : r ≠ .result := by
    rintro rfl
    rw [ht] at hcode
    exact hcode rfl
  rw [finishRead_of_other hresult] at ht
  have hslot : t.port.slot = (s.replyOf r).2 := by
    rw [ht]
    rfl
  rw [hslot] at hcode
  have hstatus : r ≠ .status := by
    rintro rfl
    exact hcode rfl
  have hevent : r ≠ .event := by
    rintro rfl
    exact hcode rfl
  rw [ht, readEffect_of_refused (c := s.captureNow r) hcode hstatus hevent]
  exact refusedIn_writeResult (openedIn_captureReply s r) _

/-- Settles O17. -/
theorem refusedCommandsChangeNothing : Obligations.RefusedCommandsChangeNothing := by
  unfold Obligations.RefusedCommandsChangeNothing
  intro c s t bits h hframe hcapture hexec hcode
  have hrun := eq_run_of_exec hexec
  rw [hostFrame_eq] at h
  rw [readOf_eq] at hcapture ⊢
  cases hc : course c with
  | read n r =>
    rw [hc] at h hcapture hrun
    obtain ⟨rfl, hlength⟩ := Prod.mk.inj (Option.some.inj h)
    have hnone : s.port.capture = none := hcapture.resolve_left nofun
    have hrefused := read_refused hlength hnone (hrun.trans (run_read_taken hframe n r)) hcode
    exact ⟨hrefused.res, hrefused.rej, hrefused.rest, hrefused.lost, hrefused.events, nofun⟩
  | action n args run =>
    rw [hc] at h hrun
    obtain ⟨rfl, hlength⟩ := Prod.mk.inj (Option.some.inj h)
    obtain ⟨hanswered, hrefused⟩ := action_refused hc hlength (hrun.trans (run_action_taken hframe n args run)) hcode
    exact ⟨hrefused.res, hrefused.rej, hrefused.rest, hrefused.lost, hrefused.events, fun _ => hanswered⟩
  | invalid n command =>
    rw [hc, Course.frame_invalid] at h
    split at h
    · exact absurd (Prod.mk.inj (Option.some.inj h)).2 nofun
    · cases h
  | _ => rw [hc] at h; cases h

/-! Captures (R174, R176, R179). -/

theorem capturePort_status {s : State} (hr : s.inReset = false) : s.capturePort .statusByte = s.beginFrame := by
  simp [State.capturePort, hr]

theorem capturePort_reply_taken {s : State} (hframe : s.takesHostFrames = true) (r : ReadRequest) :
    s.capturePort (.reply r) = s.captureReply r := by simp [State.capturePort, hframe]

theorem capturePort_reply_discarded {s : State} (hframe : s.takesHostFrames = false) (r : ReadRequest) :
    s.capturePort (.reply r) = s.discardFrame := by simp [State.capturePort, hframe]

theorem captureReply_eq (s : State) (r : ReadRequest) :
    s.captureReply r =
      { s with
        port := { s.port with
          select := .low
          statusOut := if s.port.select = .low ∧ s.port.capture = none then s.port.statusOut else s.statusByte
          dataOut := List.replicate (readArgBytes r) 0 ++ (s.replyOf r).1
          capture := some ⟨r, (s.replyOf r).2, !s.port.events.isEmpty, false, 0⟩ } } := by
  rw [← frameStatus_eq]
  rfl

theorem captureReply_takesHostFrames {s : State} (hframe : s.takesHostFrames = true) (r : ReadRequest) :
    (s.captureReply r).takesHostFrames = true := by
  rw [takesHostFrames_iff] at hframe ⊢
  exact ⟨hframe.1, nofun⟩

/-- A read with no capture of its own is captured and then executed (log 10). -/
theorem exec_read_captures {c : Instr} {r : ReadRequest} {bits : Nat} {s : State} (hread : readOf c = some r) (h : hostFrame c = some (bits, true))
    (hframe : s.takesHostFrames = true) (hother : ∀ k, s.port.capture = some k → k.request ≠ r) :
    exec c s = exec c (s.captureReply r) := by
  rw [readOf_eq] at hread
  rw [hostFrame_eq] at h
  cases hc : course c with
  | read n q =>
    rw [hc] at h hread
    obtain rfl : q = r := Option.some.inj hread
    obtain ⟨rfl, hlength⟩ := Prod.mk.inj (Option.some.inj h)
    have hnow : s.withCapture q = s.captureReply q := by
      unfold State.withCapture
      split
      · next k hk => exact if_neg (hother k hk)
      · rfl
    have hkept : (s.captureReply q).withCapture q = s.captureReply q := by
      unfold State.withCapture
      rw [captureReply_capture]
      exact if_pos rfl
    rw [exec_course, exec_course, hc, run_read_taken hframe, run_read_taken (captureReply_takesHostFrames hframe q),
      runRead_of_length hlength, runRead_of_length hlength, hnow, hkept]
  | _ => rw [hc] at hread; cases hread

/-! The checks of a read's arguments (R179). -/

theorem outletArg_in_range {x : Byte} (hlow : 1 ≤ x.toNat) (hhigh : x.toNat ≤ 24) : outletArg x = some (Fin.ofNat 24 (x.toNat - 1)) := by
  apply outletArg_of_number
  show x.toNat = (x.toNat - 1) % 24 + 1
  omega

theorem bankArg_out_of_range {x : Byte} (h : 2 < x.toNat) : bankArg x = none := by
  unfold bankArg bankOfCode
  split <;> first | omega | rfl

theorem bankArg_in_range {x : Byte} (h : x.toNat ≤ 2) : ∃ b, bankArg x = some b ∧ x.toNat = bankNo b := by
  have hcases : x.toNat = 0 ∨ x.toNat = 1 ∨ x.toNat = 2 := by omega
  rcases hcases with h | h | h
  · exact ⟨.bankA, by simp [bankArg, bankOfCode, h], h⟩
  · exact ⟨.bankB, by simp [bankArg, bankOfCode, h], h⟩
  · exact ⟨.bankC, by simp [bankArg, bankOfCode, h], h⟩

theorem stationArg_out_of_range {x : Byte} (h : 15 < x.toNat) : stationArg x = none := by
  unfold stationArg numberOf
  exact dif_neg (by omega)

theorem stationArg_in_range {x : Byte} (h : x.toNat ≤ 15) : stationArg x = some (Fin.ofNat 16 x.toNat) := by
  unfold stationArg numberOf
  rw [dif_pos (by omega)]
  exact congrArg some (Fin.ext (Nat.mod_eq_of_lt (by omega)).symm)

section
variable (s : State)

theorem replyOf_outlet (x c : Byte) : s.replyOf (.outlet x c) =
    if x.toNat < 1 ∨ 24 < x.toNat then (List.replicate 37 0, ⟨.badArg, 1⟩)
    else if 1 < c.toNat then (List.replicate 37 0, ⟨.badArg, 2⟩)
    else (s.outletReply (Fin.ofNat 24 (x.toNat - 1)), ⟨.ok, 0⟩) := by
  simp only [State.replyOf]
  by_cases hout : x.toNat < 1 ∨ 24 < x.toNat
  · rw [outletArg_out_of_range hout, if_pos hout]
    rfl
  · rw [outletArg_in_range (by omega) (by omega), if_neg hout]
    by_cases hclear : 1 < c.toNat
    · rw [if_pos hclear]
      exact if_neg (by omega)
    · rw [if_neg hclear]
      exact if_pos (by omega)

theorem replyOf_bank_out_of_range {x : Byte} (h : 2 < x.toNat) : s.replyOf (.bank x) = (List.replicate 89 0, ⟨.badArg, 1⟩) := by
  simp only [State.replyOf]
  rw [bankArg_out_of_range h]
  rfl

theorem replyOf_bank {x : Byte} {b : Bank} (h : bankArg x = some b) : s.replyOf (.bank x) = (s.bankReply b, okSlot) := by
  simp only [State.replyOf]
  rw [h]

theorem replyOf_bank_result {x : Byte} (h : x.toNat ≤ 2) : (s.replyOf (.bank x)).2 = ⟨.ok, 0⟩ := by
  obtain ⟨b, hb, -⟩ := bankArg_in_range h
  rw [replyOf_bank s hb]
  rfl

theorem replyOf_peer (x : Byte) : s.replyOf (.peer x) =
    if 15 < x.toNat then (List.replicate 57 0, ⟨.badArg, 1⟩) else (s.peerReply (Fin.ofNat 16 x.toNat), ⟨.ok, 0⟩) := by
  simp only [State.replyOf]
  by_cases hout : 15 < x.toNat
  · rw [stationArg_out_of_range hout, if_pos hout]
    rfl
  · rw [stationArg_in_range (by omega), if_neg hout]
    rfl

theorem replyOf_group (x : Byte) : s.replyOf (.group x) =
    if x = 0 then (List.replicate 70 0, ⟨.badArg, 1⟩)
    else
      match s.group? x.toNat with
      | none => (List.replicate 70 0, ⟨.notMember, 0⟩)
      | some e => (s.groupReply e, ⟨.ok, 0⟩) := rfl

end

/-- Settles O18. -/
theorem readsAreCapturedCheckedAndThenExecuted : Obligations.ReadsAreCapturedCheckedAndThenExecuted := by
  unfold Obligations.ReadsAreCapturedCheckedAndThenExecuted
  refine ⟨fun s hr => ?begins, fun r s hframe => ?captured, fun r s hframe => ?discarded, fun c r bits s a hread h hframe hother ha => ?executed,
    fun s => ⟨rfl, rfl, rfl, replyOf_outlet s, fun x => ⟨replyOf_bank_out_of_range s, replyOf_bank_result s⟩, replyOf_peer s, replyOf_group s⟩⟩
  case begins => exact congrArg Host.Outcome.next (capturePort_status hr)
  case captured => exact congrArg Host.Outcome.next ((capturePort_reply_taken hframe r).trans (captureReply_eq s r))
  case discarded => exact congrArg Host.Outcome.next (capturePort_reply_discarded hframe r)
  case executed =>
    obtain rfl : a = s.captureReply r := (eq_run_of_exec ha).trans (capturePort_reply_taken hframe r)
    exact exec_read_captures hread h hframe hother

/-! Executed reads (R41, R177, R180, R183). -/

/-- A captured read that the port takes is executed. -/
theorem exec_captured {c : Instr} {s : State} {k : Capture} {bits : Nat} (hc : course c = .read bits k.request) (hframe : s.takesHostFrames = true)
    (hcapture : s.port.capture = some k) (hlength : readLengthOk bits k.request = true) :
    exec c s = .next ((s.readEffect k).finishRead k) := by
  rw [exec_course, hc, run_read_taken hframe, runRead_captured hcapture rfl hlength]

/-- A read that clears the peak leaves the largest window since its capture (R41). -/
theorem readEffect_outlet {s : State} {k : Capture} {x c : Byte} {o : OutletId} (hr : k.request = .outlet x c) (ho : outletArg x = some o) :
    s.readEffect k = if c = 1 ∧ k.result = ⟨.ok, 0⟩ then s.modMeter o (fun m => { m with peak := k.peakSince }) else s := by
  simp only [State.readEffect, hr, ho]
  rfl

/-- Settles O19. -/
theorem capturedReadsTakeTheirEffect : Obligations.CapturedReadsTakeTheirEffect := by
  unfold Obligations.CapturedReadsTakeTheirEffect
  intro s k bits hframe hcapture hlength
  have done {c : Instr} (hc : course c = .read bits k.request) : exec c s = .next ((s.readEffect k).finishRead k) :=
    exec_captured hc hframe hcapture hlength
  have quiet {c : Instr} (hc : course c = .read bits k.request) (heffect : s.readEffect k = s) (hresult : k.request ≠ .result) :
      exec c s = .next { s with port := { s.port with slot := k.result, res := true, rej := false, select := .high, capture := none } } := by
    rw [done hc, heffect, finishRead_of_other hresult]
    rfl
  refine ⟨fun hr => ?status, fun x c o hr ho => ?outlet, fun x c hr ho => ?noOutlet, fun x hr => ?bank, fun x hr => ?peer, fun x hr => ?group,
    fun hr => ?event, fun hr => ?result⟩
  case status =>
    rw [done (by rw [hr]; rfl), finishRead_of_other (by rw [hr]; nofun)]
    simp only [State.readEffect, hr]
    rfl
  case outlet =>
    rw [done (by rw [hr]; rfl), finishRead_of_other (by rw [hr]; nofun)]
    rw [readEffect_outlet hr ho]
    by_cases hclear : c = 1 ∧ k.result = ⟨.ok, 0⟩
    · rw [if_pos hclear, if_pos hclear]
      rfl
    · rw [if_neg hclear, if_neg hclear]
      rfl
  case noOutlet => exact quiet (by rw [hr]; rfl) (by simp only [State.readEffect, hr, ho]) (by rw [hr]; nofun)
  case bank => exact quiet (by rw [hr]; rfl) (by simp only [State.readEffect, hr]) (by rw [hr]; nofun)
  case peer => exact quiet (by rw [hr]; rfl) (by simp only [State.readEffect, hr]) (by rw [hr]; nofun)
  case group => exact quiet (by rw [hr]; rfl) (by simp only [State.readEffect, hr]) (by rw [hr]; nofun)
  case event =>
    rw [done (by rw [hr]; rfl), finishRead_of_other (by rw [hr]; nofun)]
    simp only [State.readEffect, hr]
    split <;> rfl
  case result =>
    rw [done (by rw [hr]; rfl)]
    simp only [State.readEffect, State.finishRead, hr]
    rfl

/-! Posted events (R180, R184, R185). -/

/-- Settles O21. -/
theorem postedEventsAreQueuedOrLost : Obligations.PostedEventsAreQueuedOrLost := by
  unfold Obligations.PostedEventsAreQueuedOrLost
  intro s k subject detail value
  refine ⟨fun hmask => ?masked, fun hmask hroom => ?queued, fun hmask hfull => ?lost, ?rest⟩
  case masked => simp [State.post, hmask]
  case queued =>
    have hcapacity : s.port.events.length < eventCapacity := hroom
    simp [State.portWith, State.post, hmask, hcapacity]
  case lost =>
    have hcapacity : ¬ s.port.events.length < eventCapacity := Nat.not_lt.2 hfull
    simp [State.portWith, State.post, hmask, hcapacity]
  case rest => rw [post_frame]

end Sys2Proof.Machine
end

section
/-! The replies of the reads, byte by byte (R102, R123, R160, R180 to R183, 11.2). -/

namespace Sys2Proof.Machine
open Sys2Proof

/-! Lengths. -/

theorem length_flatten_of_forall {w : Nat} : ∀ {l : List (List Byte)}, (∀ x ∈ l, x.length = w) → l.flatten.length = l.length * w
  | [], _ => by simp
  | x :: xs, h => by
    have hx : x.length = w := h x List.mem_cons_self
    have hxs := length_flatten_of_forall (fun y hy => h y (List.mem_cons_of_mem x hy))
    simp only [List.flatten_cons, List.length_append, hx, hxs, List.length_cons]
    exact (Nat.add_comm _ _).trans (Nat.succ_mul _ _).symm

/-- A list of byte groups fills its places (R189). -/
theorem places_length (n w : Nat) {l : List (List Byte)} (h : ∀ x ∈ l, x.length = w) : (places n w l).length = n * w := by
  have hall : ∀ x ∈ (l ++ List.replicate n (zeros w)).take n, x.length = w := by
    intro x hx
    rcases List.mem_append.1 (List.mem_of_mem_take hx) with hx | hx
    · exact h x hx
    · rw [List.eq_of_mem_replicate hx, zeros, List.length_replicate]
  have hlength : ((l ++ List.replicate n (zeros w)).take n).length = n := by
    rw [List.length_take, List.length_append, List.length_replicate]
    omega
  rw [places, length_flatten_of_forall hall, hlength]

@[simp] theorem zeros_length (n : Nat) : (zeros n).length = n := List.length_replicate

theorem queuePlaces_length (s : State) (l : List OutletId) : (places 8 6 (l.map s.queuePlace)).length = 48 :=
  places_length 8 6 (fun x hx => by
    obtain ⟨o, -, rfl⟩ := List.mem_map.1 hx
    simp [State.queuePlace])

theorem groupPlaces_length (l : List Nat) : (places 16 1 (l.map (beBytes 1))).length = 16 :=
  places_length 16 1 (fun x hx => by
    obtain ⟨g, -, rfl⟩ := List.mem_map.1 hx
    simp)

theorem statusReply_length (s : State) : s.statusReply.length = 21 := by simp [State.statusReply]

theorem outletReply_length (s : State) (o : OutletId) : (s.outletReply o).length = 37 := by
  simp only [State.outletReply]
  cases (s.meter o).record <;> simp [WindowRecord.bytes, signedBytes]

theorem bankReply_length (s : State) (b : Bank) : (s.bankReply b).length = 89 := by
  simp only [State.bankReply]
  cases (s.window b).line <;> simp [LineRecord.bytes, queuePlaces_length, Claim.bytes, Overload.bytes]

theorem peerReply_length (s : State) (k : StationId) : (s.peerReply k).length = 57 := by
  simp only [State.peerReply]
  cases (s.peer k).info <;> simp [PeerInfo.bytes, bankedBytes, groupPlaces_length]

theorem flatMap_byte_length (f : OutletId → Nat) (l : List OutletId) : (l.flatMap (fun o => beBytes 1 (f o))).length = l.length := by
  induction l with
  | nil => rfl
  | cons o l ih => rw [List.flatMap_cons, List.length_append, beBytes_length, ih, List.length_cons, Nat.add_comm]

theorem memberBytes_length (r : CycleRecord) : (allOutlets.flatMap (fun o => beBytes 1 (r.memberByte o))).length = 24 :=
  (flatMap_byte_length r.memberByte allOutlets).trans (by decide)

theorem recordBytes_length (r : CycleRecord) : r.bytes.length = 57 := by
  unfold CycleRecord.bytes
  simp only [List.length_append, beBytes_length]
  rw [memberBytes_length]

theorem groupReply_length (s : State) (e : GroupEntry) : (s.groupReply e).length = 70 := by
  have hpending : (pendingTagBytes e.pendingTag).length = 2 := by cases e.pendingTag <;> simp [pendingTagBytes]
  simp only [State.groupReply]
  cases s.record? e.group <;> simp [hpending, recordBytes_length]

theorem eventReply_length (s : State) : s.eventReply.length = 12 := by
  unfold State.eventReply
  split <;> simp [Event.bytes]

theorem resultReply_length (s : State) : s.resultReply.length = 3 := by simp [State.resultReply]

/-- Every reply, also one of zeros, has the length of 11.2. -/
theorem replyOf_length (s : State) (r : ReadRequest) : (s.replyOf r).1.length = readReplyBytes r := by
  have hrefused (code : ResultCode) (d : Nat) : (refusedReply r code d).1.length = readReplyBytes r := zeros_length _
  cases r with
  | status => exact statusReply_length s
  | outlet x c =>
    simp only [State.replyOf]
    split
    · exact hrefused _ _
    · split
      · exact outletReply_length s _
      · exact hrefused _ _
  | bank x =>
    simp only [State.replyOf]
    split
    · exact hrefused _ _
    · exact bankReply_length s _
  | peer x =>
    simp only [State.replyOf]
    split
    · exact hrefused _ _
    · exact peerReply_length s _
  | group x =>
    simp only [State.replyOf]
    split
    · exact hrefused _ _
    · split
      · exact hrefused _ _
      · exact groupReply_length s _
  | event => exact eventReply_length s
  | result => exact resultReply_length s

/-! The bytes. -/

theorem statusReply_eq (s : State) : s.statusReply =
    beBytes 1 (if s.phase = .running then 1 else 0) ++ beBytes 1 (linkStateCode s.link.state) ++ beBytes 1 s.link.failures ++
      beBytes 1 s.station.val ++ beBytes 1 (2 * s.lke.toNat + s.lockSample.toNat) ++ beBytes 6 s.serial.toNat ++ beBytes 4 s.boardTime.toNat ++
      beBytes 1 (s.peersIn .live) ++ beBytes 1 (s.peersIn .lost) ++ beBytes 2 s.conflicts.toNat ++ beBytes 1 s.port.events.length ++
      beBytes 1 (128 * s.port.res.toNat + 64 * s.port.evt.toNat + 32 * s.port.lost.toNat + 16 * s.port.rej.toNat) := by
  have hphase : s.phase.code = if s.phase = .running then 1 else 0 := by cases s.phase <;> rfl
  simp only [State.statusReply, Port.flagsByte, hphase, bitAt_eq, Nat.reducePow, Nat.one_mul]

theorem eventReply_of_cons {s : State} {e : Event} {rest : List Event} (h : s.port.events = e :: rest) : s.eventReply =
    beBytes 1 (rest.length + 1) ++ beBytes 1 e.kind.code ++ beBytes 4 e.time.toNat ++ beBytes 1 e.subject ++ beBytes 1 e.detail ++
      beBytes 4 e.value.toNat := by
  simp only [State.eventReply, h, Event.bytes, List.length_cons, List.append_assoc]

theorem resultReply_eq (s : State) :
    s.resultReply = [BitVec.ofNat 8 (resultCode s.port.slot.code), BitVec.ofNat 8 s.port.slot.detail, if s.port.res then 0x80 else 0] := by
  cases h : s.port.res <;> simp [State.resultReply, beBytes, bitAt, h]

/-- The cycle-member code and the local dwell (11.2). -/
theorem cycleBytes_eq (c : CycleMember) : beBytes 1 (cycleMemberCode c) ++ beBytes 2 (localDwell c) =
    match c with
    | .none => beBytes 1 0 ++ beBytes 2 0
    | .localCycle d => beBytes 1 1 ++ beBytes 2 d
    | .group => beBytes 1 2 ++ beBytes 2 0 := by
  cases c <;> rfl

theorem windowRecordBytes_eq (r : WindowRecord) : r.bytes =
    beBytes 2 r.amps ++ beBytes 4 (BitVec.ofInt 32 r.watts).toNat ++ beBytes 4 r.voltAmps ++ beBytes 1 r.powerFactor ++
      beBytes 1 (4 * r.disturbed.toNat + 2 * r.noLine.toNat + r.reverse.toNat) := by
  simp only [WindowRecord.bytes, signedBytes, bitAt_eq, Nat.reducePow, Nat.one_mul]

theorem outletReply_eq (s : State) (o : OutletId) : s.outletReply o =
    beBytes 1 (o.val + 1) ++ beBytes 1 (s.outlet o).cfg.profile.val ++ beBytes 1 (s.outlet o).cfg.group ++ beBytes 2 (s.outlet o).cfg.tripThreshold ++
      beBytes 1 (s.outlet o).cfg.startOn.toNat ++ beBytes 1 (s.outlet o).cfg.restoreOrder ++ beBytes 1 (s.outlet o).cfg.shedRank ++
      beBytes 1 (outletStateCode (s.outlet o).state) ++ beBytes 1 (subPhaseCode (s.outlet o).sub) ++ beBytes 1 (hostTargetCode (s.outlet o).target) ++
      beBytes 1 (128 * (s.outlet o).isProtected.toNat + 64 * (s.outlet o).pendingOff.toNat + 32 * (s.outlet o).restoreIntent.toNat +
        16 * (s.outlet o).unalignedLast.toNat + 8 * (s.meter o).reversePower.toNat + 2 * (s.meter o).record.isSome.toNat +
        (s.meter o).undisturbed.isSome.toNat) ++
      (match (s.outlet o).cycle with
        | .none => beBytes 1 0 ++ beBytes 2 0
        | .localCycle d => beBytes 1 1 ++ beBytes 2 d
        | .group => beBytes 1 2 ++ beBytes 2 0) ++
      (match (s.meter o).record with
        | some r =>
          beBytes 2 r.amps ++ beBytes 4 (BitVec.ofInt 32 r.watts).toNat ++ beBytes 4 r.voltAmps ++ beBytes 1 r.powerFactor ++
            beBytes 1 (4 * r.disturbed.toNat + 2 * r.noLine.toNat + r.reverse.toNat)
        | none => List.replicate 12 0) ++
      beBytes 2 ((s.meter o).undisturbed.getD 0) ++ beBytes 6 (s.meter o).energy.toNat ++ beBytes 2 (s.meter o).peak := by
  rw [← cycleBytes_eq]
  cases hrecord : (s.meter o).record with
  | none => simp only [State.outletReply, hrecord, bitAt_eq, Nat.reducePow, Nat.one_mul, outletNo, zeros, List.append_assoc]
  | some r => simp only [State.outletReply, hrecord, windowRecordBytes_eq, bitAt_eq, Nat.reducePow, Nat.one_mul, outletNo, List.append_assoc]

theorem lineRecordBytes_eq (r : LineRecord) : r.bytes =
    beBytes 2 r.volts ++ beBytes 2 r.frequency ++ beBytes 1 r.halves ++ beBytes 2 r.duration ++ beBytes 4 r.endTime.toNat ++
      beBytes 1 (2 + r.noLine.toNat) := by
  simp only [LineRecord.bytes, bitAt_eq, Nat.reducePow, Nat.one_mul, Bool.toNat_true]

theorem outletOrZero_eq (o : Option OutletId) : outletOrZero o = match o with | some o => o.val + 1 | none => 0 := by
  cases o <;> rfl

theorem stationOrNone_eq (k : Option StationId) : stationOrNone k = match k with | some k => k.val | none => 255 := by
  cases k <;> rfl

theorem lineBytes_eq (x : Option LineRecord) : (match x with | some r => r.bytes | none => zeros 12) =
    match x with
    | some r =>
      beBytes 2 r.volts ++ beBytes 2 r.frequency ++ beBytes 1 r.halves ++ beBytes 2 r.duration ++ beBytes 4 r.endTime.toNat ++
        beBytes 1 (2 + r.noLine.toNat)
    | none => List.replicate 12 0 := by
  cases x with
  | none => rfl
  | some r => exact lineRecordBytes_eq r

theorem bankReply_eq (s : State) (b : Bank) : s.bankReply b =
    beBytes 1 (bankNo b) ++
      (match (s.window b).line with
        | some r =>
          beBytes 2 r.volts ++ beBytes 2 r.frequency ++ beBytes 1 r.halves ++ beBytes 2 r.duration ++ beBytes 4 r.endTime.toNat ++
            beBytes 1 (2 + r.noLine.toNat)
        | none => List.replicate 12 0) ++
      beBytes 2 (s.bankLoad b) ++ beBytes 1 (lineStateCode (s.line b).state) ++ beBytes 1 (s.bank b).sagShed.toNat ++ beBytes 1 (s.line b).reentry ++
      beBytes 2 ((s.line b).recovery.getD 0) ++ beBytes 1 (s.queue b).length ++
      (((s.queue b).map (fun (o : OutletId) => beBytes 1 (o.val + 1) ++ beBytes 1 (s.restoreOrder o) ++ beBytes 4 ((s.outlet o).claimWait.getD 0)) ++
        List.replicate 8 (List.replicate 6 0)).take 8).flatten ++
      beBytes 1 (claimStateCode (s.claim b).state) ++ beBytes 1 (match (s.claim b).outlet with | some o => o.val + 1 | none => 0) ++
      beBytes 2 (s.claim b).amount ++ beBytes 1 (128 * (s.claim b).withdrawn.toNat + endingMarkCode (s.claim b).ending) ++
      beBytes 1 (s.claim b).absorbTarget ++ beBytes 1 (s.claim b).absorbCount ++ beBytes 1 (s.claim b).denials ++
      beBytes 1 (match (s.claim b).retryWait with | some o => o.val + 1 | none => 0) ++ beBytes 1 (s.bank b).branch.val ++
      beBytes 2 (s.branchTotal (s.bank b).branch) ++ beBytes 2 (s.bank b).limit ++ beBytes 1 (hasNumber s.conflicts (s.bank b).branch).toNat ++
      beBytes 1 (overloadStateCode (s.over (s.bank b).branch).state) ++
      beBytes 1 (match (s.over (s.bank b).branch).shedder with | some k => k.val | none => 255) ++
      beBytes 2 (s.over (s.bank b).branch).loadTotal ++ beBytes 1 (s.over (s.bank b).branch).reported.toNat := by
  rw [← lineBytes_eq]
  simp only [State.bankReply, Claim.bytes, Overload.bytes, outletOrZero_eq, stationOrNone_eq, bitAt_eq, Nat.reducePow, Nat.one_mul, List.append_assoc]
  rfl

theorem peerReply_eq (s : State) (k : StationId) : s.peerReply k =
    beBytes 1 k.val ++ beBytes 1 (entryStateCode (s.peer k).state) ++
      (match (s.peer k).info with
        | some i =>
          beBytes 6 i.serial.toNat ++ (beBytes 1 i.map.a.val ++ beBytes 1 i.map.b.val ++ beBytes 1 i.map.c.val) ++
            (beBytes 2 i.limits.a ++ beBytes 2 i.limits.b ++ beBytes 2 i.limits.c)
        | none => List.replicate 15 0) ++
      (beBytes 2 (s.peer k).loads.a ++ beBytes 2 (s.peer k).loads.b ++ beBytes 2 (s.peer k).loads.c) ++
      (beBytes 2 (s.peer k).helds.a ++ beBytes 2 (s.peer k).helds.b ++ beBytes 2 (s.peer k).helds.c) ++
      (beBytes 1 (s.peer k).ranks.a ++ beBytes 1 (s.peer k).ranks.b ++ beBytes 1 (s.peer k).ranks.c) ++
      (beBytes 1 ((s.peer k).flags.a.sag.toNat + 2 * (s.peer k).flags.a.recovering.toNat) ++
        beBytes 1 ((s.peer k).flags.b.sag.toNat + 2 * (s.peer k).flags.b.recovering.toNat) ++
        beBytes 1 ((s.peer k).flags.c.sag.toNat + 2 * (s.peer k).flags.c.recovering.toNat)) ++
      beBytes 1 (s.peer k).conflict.toNat ++ beBytes 1 (s.peer k).groups.length ++
      (((s.peer k).groups.map (beBytes 1) ++ List.replicate 16 [0]).take 16).flatten ++
      beBytes 4 (match (s.peer k).lastHeard with | some h => (s.boardTime - h).toNat | none => 0) := by
  have hflags (f : BankFlags) : bankFlagsByte f.sag f.recovering = f.sag.toNat + 2 * f.recovering.toNat := by
    simp only [bankFlagsByte, bitAt_eq, Nat.reducePow, Nat.one_mul]
  simp only [State.peerReply, bankedBytes, Banked.map, hflags, bitAt_eq, Nat.reducePow, Nat.one_mul]
  rfl

/-! READ GROUP. -/

theorem hasOutlet_addOutlet (s : OutletSet) (o p : OutletId) : hasOutlet (addOutlet s o) p = (hasOutlet s p || decide (p = o)) := by
  have ho := o.isLt
  have hp := p.isLt
  simp only [hasOutlet, addOutlet, BitVec.getLsbD_or, BitVec.getLsbD_shiftLeft, BitVec.getLsbD_one]
  congr 1
  by_cases h : p = o
  · subst h
    simp
  · have hne : p.val ≠ o.val := fun e => h (Fin.ext e)
    rcases Nat.lt_or_gt_of_ne hne with hlt | hgt
    · simp [h, hlt]
    · simp [h]
      omega

theorem hasOutlet_foldl (p : OutletId → Bool) (o : OutletId) (l : List OutletId) (s : OutletSet) :
    hasOutlet (l.foldl (fun s o => if p o then addOutlet s o else s) s) o = (hasOutlet s o || (decide (o ∈ l) && p o)) := by
  induction l generalizing s with
  | nil => simp
  | cons x xs ih =>
    rw [List.foldl_cons, ih]
    by_cases hx : o = x
    · subst hx
      cases hp : p o <;> simp [hasOutlet_addOutlet]
    · cases p x <;> simp [hasOutlet_addOutlet, hx]

/-- A set formed of the outlets that satisfy `p` holds exactly those. -/
theorem hasOutlet_outletsWhere (p : OutletId → Bool) (o : OutletId) : hasOutlet (outletsWhere p) o = p o := by
  have hempty : hasOutlet 0 o = false := by simp [hasOutlet]
  rw [outletsWhere, hasOutlet_foldl, hempty, decide_eq_true (mem_allOutlets o)]
  rfl

theorem hasOutlet_memberSet (s : State) (g : Nat) (o : OutletId) : hasOutlet (s.memberSet g) o = true ↔ (s.outlet o).cfg.group = g := by
  rw [State.memberSet, hasOutlet_outletsWhere, decide_eq_true_iff]

theorem hasNumber_lostOf (s : State) (set : NumberSet) (k : StationId) :
    hasNumber (s.lostOf set) k = true ↔ hasNumber set k = true ∧ (s.peer k).state = .lost := by
  rw [State.lostOf, hasNumber_numbersWhere]
  simp [isLost]

theorem tagByte_eq (t : Tag) : tagByte t = 16 * t.station.val + t.seq.val := by
  rw [tagByte, Nat.mul_comm]

theorem pendingTagBytes_eq (t : Option Tag) : pendingTagBytes t =
    match t with
    | some g => beBytes 1 1 ++ beBytes 1 (16 * g.station.val + g.seq.val)
    | none => [0, 0] := by
  cases t with
  | none => rfl
  | some g => rw [pendingTagBytes, tagByte_eq]

theorem outcomeByte_eq (r : CycleRecord) :
    r.outcomeByte = if r.phase = .done then (match r.outcome with | some out => outcomeCode out | none => 0) else 0 := by
  unfold CycleRecord.outcomeByte
  cases hp : r.phase <;> cases ho : r.outcome <;> rfl

/-- The four counts of members by status, in the order of 11.2. -/
theorem statusCounts_eq (r : CycleRecord) :
    beBytes 1 (r.countStatus .held) ++ beBytes 1 (r.countStatus .off) ++ beBytes 1 (r.countStatus .restored) ++ beBytes 1 (r.countStatus .failed) =
      ([MemberStatus.held, .off, .restored, .failed].map (fun st => (r.members.filter (fun m => decide (m.status = st))).length)).flatMap
        (beBytes 1) := rfl

theorem recordBytes_eq (r : CycleRecord) : r.bytes =
    beBytes 1 1 ++ beBytes 1 (16 * r.tag.station.val + r.tag.seq.val) ++ beBytes 2 r.dwell ++ beBytes 1 (policyCode r.policy) ++
      beBytes 1 (cyclePhaseCode r.phase) ++ beBytes 2 r.awaited.toNat ++ beBytes 2 r.early.toNat ++
      beBytes 1 (r.members.filter (·.wasOpened)).length ++
      ([MemberStatus.held, .off, .restored, .failed].map (fun st => (r.members.filter (fun m => decide (m.status = st))).length)).flatMap
        (beBytes 1) ++
      beBytes 1 r.gOpened ++ beBytes 1 r.gHeld ++ beBytes 1 r.gRestored ++ beBytes 1 r.gFailed ++ beBytes 4 (r.offTimer.getD 0) ++
      beBytes 4 (r.dwellTimer.getD 0) ++ beBytes 4 (r.onTimer.getD 0) ++ beBytes 1 r.abortOffered.toNat ++
      allOutlets.flatMap (fun o =>
        beBytes 1 (match r.members.find? (fun m => decide (m.outlet = o)) with | some m => memberStatusCode m.status | none => 0)) ++
      beBytes 1 (if r.phase = .done then (match r.outcome with | some out => outcomeCode out | none => 0) else 0) := by
  rw [← outcomeByte_eq r, ← statusCounts_eq r, ← tagByte_eq r.tag]
  unfold CycleRecord.bytes CycleRecord.ownOpened CycleRecord.memberByte
  simp only [bitAt_eq, Nat.reducePow, Nat.one_mul, List.append_assoc] <;> rfl

theorem groupReply_eq (s : State) (e : GroupEntry) : s.groupReply e =
    beBytes 1 e.group ++ beBytes 2 e.dwell ++ beBytes 1 (policyCode e.policy) ++ beBytes 3 (s.memberSet e.group).toNat ++
      (match e.pendingTag with
        | some g => beBytes 1 1 ++ beBytes 1 (16 * g.station.val + g.seq.val)
        | none => [0, 0]) ++
      beBytes 2 e.roster.toNat ++ beBytes 2 (s.lostOf e.roster).toNat ++
      (match s.record? e.group with
        | none => List.replicate 57 0
        | some r => r.bytes) := by
  rw [← pendingTagBytes_eq]
  cases hr : s.record? e.group with
  | none => simp only [State.groupReply, hr, zeros]
  | some r => simp only [State.groupReply, hr]

/-- Settles O20. -/
theorem repliesReportTheBoard : Obligations.RepliesReportTheBoard := by
  unfold Obligations.RepliesReportTheBoard
  refine ⟨fun s => ⟨replyOf_length s _, fun x c => replyOf_length s _, fun x => replyOf_length s _, fun x => replyOf_length s _,
      fun x => replyOf_length s _, replyOf_length s _, replyOf_length s _⟩,
    ⟨rfl, rfl, rfl, fun _ _ => rfl, fun _ => ⟨rfl, rfl, rfl⟩⟩, fun w n k => ⟨beBytes_length w n, beBytes_getElem? n⟩,
    fun s => ⟨statusReply_eq s, fun h => ?noEvent, fun e rest h => eventReply_of_cons h, resultReply_eq s⟩, fun s o x m hx hm => ?outlet,
    fun s b x l c v hx hl hc hv => ?bank, fun s k p hp => ?peer, fun s e => ?group,
    rfl, by decide, rfl, rfl, rfl, rfl, rfl, rfl, rfl, rfl, rfl, rfl, rfl, rfl, rfl, rfl, rfl⟩
  case noEvent =>
    simp only [State.eventReply, h]
    rfl
  case outlet =>
    subst hx hm
    exact outletReply_eq s o
  case bank =>
    subst hl hc hv
    obtain ⟨b', hb', hno⟩ := bankArg_in_range (x := x) (by cases b <;> simp [hx, bankNo])
    obtain rfl : b' = b := by cases b <;> cases b' <;> simp_all [bankNo]
    rw [replyOf_bank s hb']
    exact bankReply_eq s b'
  case peer =>
    subst hp
    exact peerReply_eq s k
  case group =>
    refine ⟨s.memberSet e.group, s.lostOf e.roster, hasOutlet_memberSet s e.group, hasNumber_lostOf s e.roster, ?_⟩
    rw [groupReply_eq]
    cases s.record? e.group with
    | none => rfl
    | some r =>
      simp only [recordBytes_eq] <;> rfl

end Sys2Proof.Machine
end

section
/-! PROOFS. A queued frame read back by its receiver (11.4, R70, R189), bit for bit. -/

namespace Sys2Proof.Machine
open Sys2Proof

/-! ## The header -/

/-- The header of a frame as its receiver takes it apart: class, urgency, station, kind and length (R66). -/
def headerFields (urgency : Nat) (k : StationId) (f : PeerFrame) : List Field :=
  [(3, frameClass (frameKind f)), (3, urgency), (4, k.val), (4, frameKindCode (frameKind f)), (6, payloadLength f)]

/-- A frame in range has a length that its kind allows. -/
theorem lengthAllowed_payloadLength (f : PeerFrame) (h : payloadInRange f = true) : lengthAllowed (frameKind f) (payloadLength f) = true := by
  cases f
  case join p =>
    simp only [payloadInRange, Bool.and_eq_true, decide_eq_true_eq] at h
    obtain ⟨⟨_, hlength⟩, _⟩ := h
    simp only [frameKind, payloadLength, lengthAllowed, inRange, Bool.and_eq_true, decide_eq_true_eq]
    omega
  all_goals rfl

/-- The longest payload is that of a JOIN with 16 groups. -/
theorem payloadLength_lt (f : PeerFrame) (h : payloadInRange f = true) : payloadLength f < 64 := by
  have allowed := lengthAllowed_payloadLength f h
  cases f
  case join p =>
    simp only [frameKind, lengthAllowed, inRange, Bool.and_eq_true, decide_eq_true_eq] at allowed
    omega
  all_goals (simp only [payloadLength]; omega)

theorem headerFields_fit (urgency : Nat) (k : StationId) (f : PeerFrame) (hu : urgency < 8) (h : payloadInRange f = true) :
    ∀ x ∈ headerFields urgency k f, x.2 < 2 ^ x.1 := by
  have hclass : frameClass (frameKind f) < 8 := by cases frameKind f <;> decide
  have hcode : frameKindCode (frameKind f) < 16 := by cases frameKind f <;> decide
  have hlength := payloadLength_lt f h
  have hstation := k.isLt
  intro x hx
  simp only [headerFields, List.mem_cons, List.not_mem_nil, or_false] at hx
  rcases hx with rfl | rfl | rfl | rfl | rfl <;> simp only <;> omega

/-- What the CRC runs over is the header and the payload. -/
theorem checkedBits_eq (urgency : Nat) (k : StationId) (f : PeerFrame) (hu : urgency < 8) :
    checkedBits (frameKey urgency k (frameKind f)) f = (headerFields urgency k f).flatMap fieldBits ++ payloadBits f := by
  simp only [checkedBits, frameKey, natBits_key _ _ _ hu k.isLt, headerFields, List.flatMap_cons, List.flatMap_nil, fieldBits,
    List.append_assoc, List.append_nil]

theorem checkedBits_length (key : Nat) (f : PeerFrame) (h : payloadInRange f = true) :
    (checkedBits key f).length = 20 + 8 * payloadLength f := by
  simp only [checkedBits, List.length_append, natBits_length, payloadBits_length f h]

/-! ## The judgement -/

theorem kindOfCode_frameKindCode (k : FrameKind) : kindOfCode (frameKindCode k) = some k := by cases k <;> rfl

/-- A JOIN tells its group count where its length is checked against it (R87). -/
theorem lengthAgrees_payloadFields (f : PeerFrame) : lengthAgrees (frameKind f) ((payloadFields f).map (·.2)) (payloadLength f) = true := by
  cases f
  case join p => simp [frameKind, payloadLength, lengthAgrees, payloadFields]
  all_goals rfl

/-- The payload and the CRC as sent are found good. -/
theorem judgePayload_good (all : List Bool) (k : StationId) (f : PeerFrame) (crc : BitVec 16) (h : payloadInRange f = true)
    (hcrc : crc16 (all.take (20 + 8 * payloadLength f)) = crc) :
    judgePayload all k (frameKind f) (payloadLength f) (payloadBits f ++ natBits 16 crc.toNat) = .good k f := by
  have hpayload : readFields (payloadWidths (frameKind f) (payloadLength f)) (payloadBits f ++ natBits 16 crc.toNat) =
      some ((payloadFields f).map (·.2), natBits 16 crc.toNat) := by
    rw [payloadWidths_eq f h]
    exact readFields_fieldBits _ (payloadFields_fit f h) _
  have hfield : readField 16 (natBits 16 crc.toNat) = some (crc.toNat, []) := by
    simpa only [List.append_nil] using readField_natBits crc.isLt []
  simp only [judgePayload, hpayload, hfield, hcrc, lengthAgrees_payloadFields, payloadOf_fields f h, h, ne_eq, not_true_eq_false, if_false,
    Bool.not_true, Bool.false_eq_true, if_true]

/-- Settles O8: header, payload and CRC are read as the fields that were written. -/
theorem queuedFrameIsReadBack : Obligations.QueuedFrameIsReadBack := by
  unfold Obligations.QueuedFrameIsReadBack
  intro urgency k f hu h
  have hbits : (queuedFrame urgency k f).bits =
      (headerFields urgency k f).flatMap fieldBits ++ (payloadBits f ++ natBits 16 (queuedFrame urgency k f).crc.toNat) := by
    rw [← List.append_assoc, ← checkedBits_eq urgency k f hu]
    rfl
  have hcrc : crc16 ((queuedFrame urgency k f).bits.take (20 + 8 * payloadLength f)) = (queuedFrame urgency k f).crc := by
    rw [← checkedBits_length (frameKey urgency k (frameKind f)) f h]
    exact congrArg crc16 (List.take_left' rfl)
  have hheader := readFields_fieldBits (headerFields urgency k f) (headerFields_fit urgency k f hu h)
    (payloadBits f ++ natBits 16 (queuedFrame urgency k f).crc.toNat)
  rw [← hbits] at hheader
  have hsource : Fin.ofNat 16 k.val = k := by apply Fin.ext; exact Nat.mod_eq_of_lt k.isLt
  unfold judge
  rw [show ([3, 3, 4, 4, 6] : List Nat) = (headerFields urgency k f).map (·.1) from rfl, hheader]
  simp only [headerFields, List.map_cons, List.map_nil, kindOfCode_frameKindCode, ne_eq, not_true_eq_false, if_false,
    lengthAllowed_payloadLength f h, Bool.not_true, Bool.false_eq_true, hsource]
  exact judgePayload_good _ k f _ h hcrc

end Sys2Proof.Machine
end

section
/-! PROOFS. Time that passes: what each timer holds `dt` ms later, and a timer that is not running, which has no expiry (log 2). -/

namespace Sys2Proof.Machine
open Sys2Proof

/-! ## What passes -/

theorem passTime_line {s : State} (hr : s.inReset = false) (dt : Nat) (b : Bank) :
    (s.passTime dt).line b = { s.line b with recovery := countdown dt (s.line b).recovery } := by
  simp [State.passTime, hr, State.line]

/-- An outlet's timers stand still while its bank is held, but for a state timer outside DWELL (R6, R20, R58). -/
theorem age_eq (dt limit : Nat) (b : Bank) (s : State) (x : Outlet) :
    x.age dt limit (s.isHeld b) =
      { x with
        stateTimer := if x.state = .dwell ∧ (s.line b).state ≠ .normal then x.stateTimer else x.stateTimer.map (fun n => n - dt)
        claimWait := if (s.line b).state ≠ .normal then x.claimWait else x.claimWait.map (fun n => min limit (n + dt)) } := by
  by_cases hheld : (s.line b).state ≠ .normal <;> by_cases hdwell : x.state = .dwell <;>
    simp [Outlet.age, State.isHeld, hheld, hdwell, countdown]

/-! ## A timer that is not running -/

theorem unlessReset_running {s : State} (hr : s.inReset = false) (f : State → State) : s.unlessReset f = f s := by
  simp [State.unlessReset, hr]

/-- A timer that is not running does not expire (log 2). -/
theorem unlessReset_expire_none {s : State} (due : State → Option Nat) (fire : State → State) (hr : s.inReset = false) (h : due s = none) :
    Host.Outcome.next (s.unlessReset (fun s => s.expire (due s) fire)) = (Host.Outcome.next s : Result) := by
  rw [unlessReset_running hr]
  simp only [h, State.expire]

theorem phaseDue_eq_none {s : State} {o : OutletId} {st : OutletState} {sub : SubPhase}
    (h : (s.outlet o).state ≠ st ∨ (s.outlet o).sub ≠ some sub ∨ (s.outlet o).stateTimer = none) : s.phaseDue o st sub = none := by
  simp only [State.phaseDue, State.isIn, Bool.and_eq_true, decide_eq_true_eq, ite_eq_right_iff, and_imp]
  intro hstate hsub
  simpa [hstate, hsub] using h

theorem localDwellDue_eq_none {s : State} {o : OutletId}
    (h : (s.outlet o).state ≠ .dwell ∨ (∀ n, (s.outlet o).cycle ≠ .localCycle n) ∨ (s.outlet o).stateTimer = none) :
    s.localDwellDue o = none := by
  simp only [State.localDwellDue, ite_eq_right_iff, and_imp]
  intro hstate hcycle _
  rcases h with h | h | h
  · exact absurd hstate h
  · cases hc : (s.outlet o).cycle with
    | localCycle n => exact absurd hc (h n)
    | none => rw [hc] at hcycle; exact absurd hcycle (by decide)
    | group => rw [hc] at hcycle; exact absurd hcycle (by decide)
  · exact h

theorem claimWaitDue_eq_none {s : State} {o : OutletId} (h : (s.outlet o).state ≠ .claiming ∨ (s.outlet o).claimWait = none) :
    s.claimWaitDue o = none := by
  simp only [State.claimWaitDue, ite_eq_right_iff, and_imp]
  intro hstate _
  simpa [hstate] using h

/-- An outlet's timer that is not running has no expiry. -/
theorem outlet_timers_idle {s : State} (hr : s.inReset = false) (o : OutletId) (x : Outlet) (hx : x = s.outlet o) :
    (x.state ≠ .closing ∨ x.sub ≠ some .align ∨ x.stateTimer = none → exec (.closingAlignExpiry o) s = .next s) ∧
    (x.state ≠ .closing ∨ x.sub ≠ some .coil ∨ x.stateTimer = none → exec (.coilPulseEnd o) s = .next s) ∧
    (x.state ≠ .closing ∨ x.sub ≠ some .settle ∨ x.stateTimer = none → exec (.closingSettleEnd o) s = .next s) ∧
    (x.state ≠ .opening ∨ x.sub ≠ some .align ∨ x.stateTimer = none → exec (.openingAlignExpiry o) s = .next s) ∧
    (x.state ≠ .opening ∨ x.sub ≠ some .settle ∨ x.stateTimer = none → exec (.openingSettleEnd o) s = .next s) ∧
    (x.state ≠ .dwell ∨ (∀ n, x.cycle ≠ .localCycle n) ∨ x.stateTimer = none → exec (.localDwellExpiry o) s = .next s) ∧
    (x.state ≠ .claiming ∨ x.claimWait = none → exec (.claimWaitExpiry o) s = .next s) := by
  subst hx
  refine ⟨fun h => ?_, fun h => ?_, fun h => ?_, fun h => ?_, fun h => ?_, fun h => ?_, fun h => ?_⟩
  · exact unlessReset_expire_none (·.phaseDue o .closing .align) _ hr (phaseDue_eq_none h)
  · exact unlessReset_expire_none (·.phaseDue o .closing .coil) _ hr (phaseDue_eq_none h)
  · exact unlessReset_expire_none (·.phaseDue o .closing .settle) _ hr (phaseDue_eq_none h)
  · exact unlessReset_expire_none (·.phaseDue o .opening .align) _ hr (phaseDue_eq_none h)
  · exact unlessReset_expire_none (·.phaseDue o .opening .settle) _ hr (phaseDue_eq_none h)
  · exact unlessReset_expire_none (·.localDwellDue o) _ hr (localDwellDue_eq_none h)
  · exact unlessReset_expire_none (·.claimWaitDue o) _ hr (claimWaitDue_eq_none h)

/-- A cycle timer that is not running has no expiry. -/
theorem cycle_timers_idle {s : State} (hr : s.inReset = false) (g : Nat) :
    ((∀ r, s.cycle? g = some r → r.phase ≠ .offPhase ∨ r.offTimer = none) → exec (.offGatherExpiry g) s = .next s) ∧
    ((∀ r, s.cycle? g = some r → r.phase ≠ .dwell ∨ r.dwellTimer = none) → exec (.dwellExpiry g) s = .next s) ∧
    ((∀ r, s.cycle? g = some r → r.phase ≠ .onPhase ∨ r.onTimer = none) → exec (.onGatherExpiry g) s = .next s) := by
  refine ⟨fun h => ?_, fun h => ?_, fun h => ?_⟩
  · refine unlessReset_expire_none (·.offGatherDue g) _ hr ?_
    cases hc : s.cycle? g <;> simp only [State.offGatherDue, hc, ite_eq_right_iff]
    intro hphase
    simpa [hphase] using h _ hc
  · refine unlessReset_expire_none (·.dwellDue g) _ hr ?_
    cases hc : s.cycle? g <;> simp only [State.dwellDue, hc, ite_eq_right_iff, and_imp]
    intro hphase _
    simpa [hphase] using h _ hc
  · refine unlessReset_expire_none (·.onGatherDue g) _ hr ?_
    cases hc : s.cycle? g <;> simp only [State.onGatherDue, hc, ite_eq_right_iff]
    intro hphase
    simpa [hphase] using h _ hc

/-- Settles O2: time passes record by record, and the expiry of a timer that is not running does nothing. -/
theorem timePassesTimerByTimer : Obligations.TimePassesTimerByTimer := by
  unfold Obligations.TimePassesTimerByTimer
  rintro s t dt rfl
  refine ⟨fun hpending hdt => ?_, fun hr => ?_, fun hr => ⟨?_, ?_, ?_, ?_, ?_, ?_⟩, fun hr => ⟨?_, ?_, ?_, ?_, ?_⟩⟩
  · subst hdt
    simp only [step, hpending, State.tick]
  · simp [State.passTime, hr]
  · simp [State.passTime, hr]
  · rw [State.passTime, if_neg (by simp [hr])]
  · intro o
    rw [passTime_outlet s dt o hr, age_eq]
  · exact passTime_line hr dt
  · simp [State.passTime, hr, countdown]
  · simp [State.passTime, hr, countdown, CycleRecord.age, State.dwellFrozen, State.isHeld]
  · exact outlet_timers_idle hr
  · intro b h
    refine unlessReset_expire_none (·.recoveryDue b) _ hr ?_
    simp only [State.recoveryDue, ite_eq_right_iff]
    intro hstate
    simpa [hstate] using h
  · intro h
    refine unlessReset_expire_none (·.joiningDue) _ hr ?_
    simp only [State.joiningDue, ite_eq_right_iff]
    intro hstate
    simpa [hstate] using h
  · intro h
    refine unlessReset_expire_none (·.quietDue) _ hr ?_
    simp only [State.quietDue, ite_eq_right_iff]
    intro hstate
    simpa [hstate] using h
  · exact cycle_timers_idle hr

end Sys2Proof.Machine
end

section
/-! PROOFS. From the bits clocked in to the command, and the bits out (R174, 11.2). -/

namespace Sys2Proof.Machine
open Sys2Proof

/-! ## Bits and bytes -/

theorem bitsNat_lt (l : List Bool) : bitsNat l < 2 ^ l.length := by
  induction l with
  | nil => decide
  | cons b l ih =>
    rw [bitsNat_cons, List.length_cons, Nat.pow_succ]
    cases b <;> simp only [Bool.toNat_false, Bool.toNat_true] <;> omega

/-- The bits of a number that a list spells are the list's, the most significant first. -/
theorem testBit_bitsNat (l : List Bool) : ∀ (j : Nat) (hj : j < l.length), (bitsNat l).testBit (l.length - 1 - j) = l[j] := by
  induction l with
  | nil => exact fun j hj => absurd hj (Nat.not_lt_zero j)
  | cons b l ih =>
    intro j hj
    rw [bitsNat_cons, Nat.mul_comm b.toNat, Nat.testBit_two_pow_mul_add _ (bitsNat_lt l)]
    cases j with
    | zero => cases b <;> simp
    | succ j =>
      have hj' : j < l.length := Nat.lt_of_succ_lt_succ hj
      rw [if_pos (by simp only [List.length_cons]; omega), show (b :: l).length - 1 - (j + 1) = l.length - 1 - j by
        simp only [List.length_cons]; omega, ih j hj', List.getElem_cons_succ]

/-- A byte holds its eight bits, the most significant first. -/
theorem getLsbD_byte (l : List Bool) (hl : l.length = 8) {j : Nat} (hj : j < 8) :
    l[j]? = some ((BitVec.ofNat 8 (bitsNat l)).getLsbD (7 - j)) := by
  have hbit := testBit_bitsNat l j (by omega)
  rw [show l.length - 1 - j = 7 - j by omega] at hbit
  rw [List.getElem?_eq_getElem (by omega), BitVec.getLsbD_ofNat, hbit, decide_eq_true (show 7 - j < 8 by omega), Bool.true_and]

/-- The bytes taken are the whole eights of bits, in order. -/
theorem bytesOfBits_spec (l : List Bool) : (bytesOfBits l).length = l.length / 8 ∧
    ∀ k j x, (bytesOfBits l)[k]? = some x → j < 8 → l[8 * k + j]? = some (x.getLsbD (7 - j)) := by
  induction l using bytesOfBits.induct with
  | case1 a b c d e f g h rest ih =>
    obtain ⟨hlength, hbits⟩ := ih
    rw [bytesOfBits]
    refine ⟨by simp only [List.length_cons, hlength]; omega, fun k j x hx hj => ?_⟩
    cases k with
    | zero =>
      obtain rfl : BitVec.ofNat 8 (bitsNat [a, b, c, d, e, f, g, h]) = x := by simpa using hx
      rw [← getLsbD_byte [a, b, c, d, e, f, g, h] rfl hj, show a :: b :: c :: d :: e :: f :: g :: h :: rest =
        [a, b, c, d, e, f, g, h] ++ rest from rfl, List.getElem?_append_left (by simp only [List.length_cons, List.length_nil]; omega)]
      simp only [Nat.mul_zero, Nat.zero_add]
    | succ k =>
      rw [← hbits k j x (by simpa using hx) hj, show a :: b :: c :: d :: e :: f :: g :: h :: rest = [a, b, c, d, e, f, g, h] ++ rest from rfl,
        List.getElem?_append_right (by simp only [List.length_cons, List.length_nil]; omega)]
      congr 1
      simp only [List.length_cons, List.length_nil]
      omega
  | case2 l hshort =>
    have hlength : l.length < 8 := by
      refine Nat.lt_of_not_le fun hlong => ?_
      obtain ⟨first, rest, rfl, hfirst⟩ : ∃ first rest, l = first ++ rest ∧ first.length = 8 :=
        ⟨l.take 8, l.drop 8, (List.take_append_drop 8 l).symm, by rw [List.length_take]; omega⟩
      match first, hfirst with
      | [a, b, c, d, e, f, g, h], _ => exact hshort a b c d e f g h rest rfl
    have hbytes : bytesOfBits l = [] := by
      unfold bytesOfBits
      split
      · next a b c d e f g h rest => exact absurd rfl (hshort a b c d e f g h rest)
      · rfl
    rw [hbytes]
    refine ⟨by simp only [List.length_nil]; omega, fun k j x hx _ => by simp at hx⟩

/-! ## The command -/

theorem commandOfBits_short {l : List Bool} (h : l.length < 8) : commandOfBits l = .invalidHostFrame l.length 0 := by
  have hbytes : bytesOfBits l = [] := by
    rw [← List.length_eq_zero_iff, (bytesOfBits_spec l).1]
    omega
  simp only [commandOfBits, hbytes]

/-- A code that 11.2 does not give makes the frame an INVALID_HOST_FRAME. -/
theorem commandOfCode_invalid (n : Nat) (code : Byte) (args : List Byte)
    (h : code = 0 ∨ 0x07 < code.toNat ∧ code.toNat < 0x10 ∨ 0x17 < code.toNat ∧ code.toNat < 0x20 ∨ 0x25 < code.toNat) :
    commandOfCode n code args = .invalidHostFrame n code := by
  have hcode : code.toNat = 0 ∨ 0x07 < code.toNat ∧ code.toNat < 0x10 ∨ 0x17 < code.toNat ∧ code.toNat < 0x20 ∨ 0x25 < code.toNat := by
    rcases h with rfl | h
    · exact Or.inl rfl
    · exact Or.inr h
  unfold commandOfCode
  split
  case h_22 => rfl
  all_goals omega

/-- SWITCH by its direction byte (log 11). -/
theorem switchOfBytes_off (n : Nat) {args : List Byte} (h : byteAt args 1 = 0) : switchOfBytes n args = .switchOff n (byteAt args 0) :=
  if_pos h

theorem switchOfBytes_on (n : Nat) {args : List Byte} (h : byteAt args 1 ≠ 0) :
    switchOfBytes n args = .switchOn n (byteAt args 0) (byteAt args 1) :=
  if_neg h

/-- The command a frame of whole bytes spells, code by code (11.2). -/
theorem commandOfBits_codes (l : List Bool) (code : Byte) (rest : List Byte) (hbytes : bytesOfBits l = code :: rest) (n : Nat)
    (hn : n = l.length) (a : Nat → Byte) (ha : a = byteAt rest) :
      (code = 0x01 → commandOfBits l = .readStatus n) ∧ (code = 0x02 → commandOfBits l = .readOutlet n (a 0) (a 1)) ∧
      (code = 0x03 → commandOfBits l = .readBank n (a 0)) ∧ (code = 0x04 → commandOfBits l = .readPeer n (a 0)) ∧
      (code = 0x05 → commandOfBits l = .readGroup n (a 0)) ∧ (code = 0x06 → commandOfBits l = .readEvent n) ∧
      (code = 0x07 → commandOfBits l = .readResult n) ∧ (code = 0x10 → a 1 = 0 → commandOfBits l = .switchOff n (a 0)) ∧
      (code = 0x10 → a 1 ≠ 0 → commandOfBits l = .switchOn n (a 0) (a 1)) ∧
      (code = 0x11 → commandOfBits l = .cycleOutlet n (a 0) (a 1 ++ a 2)) ∧ (code = 0x12 → commandOfBits l = .cycleGroup n (a 0) (a 1 ++ a 2)) ∧
      (code = 0x13 → commandOfBits l = .abortGroup n (a 0)) ∧ (code = 0x14 → commandOfBits l = .clearTrip n (a 0)) ∧
      (code = 0x15 → commandOfBits l = .resetEnergy n (a 0)) ∧ (code = 0x16 → commandOfBits l = .setProtect n (a 0 ++ a 1 ++ a 2)) ∧
      (code = 0x17 → commandOfBits l = .forgetPeer n (a 0)) ∧
      (code = 0x20 →
        commandOfBits l = .setBoard n ⟨a 0 ++ a 1, a 2, a 3 ++ a 4, a 5, a 6 ++ a 7, a 8 ++ a 9, a 10 ++ a 11 ++ a 12⟩) ∧
      (code = 0x21 → commandOfBits l = .setBank n ⟨a 0, a 1, a 2 ++ a 3, a 4⟩) ∧
      (code = 0x22 → commandOfBits l = .setProfile n ⟨a 0, a 1, a 2, a 3, a 4 ++ a 5, a 6 ++ a 7, a 8⟩) ∧
      (code = 0x23 → commandOfBits l = .setOutlet n ⟨a 0, a 1, a 2, a 3 ++ a 4, a 5, a 6, a 7⟩) ∧
      (code = 0x24 → commandOfBits l = .setGroup n ⟨a 0, a 1 ++ a 2, a 3⟩) ∧ (code = 0x25 → commandOfBits l = .start n) ∧
      (code = 0 ∨ 0x07 < code.toNat ∧ code.toNat < 0x10 ∨ 0x17 < code.toNat ∧ code.toNat < 0x20 ∨ 0x25 < code.toNat →
        commandOfBits l = .invalidHostFrame n code) := by
  subst hn ha
  have hcommand : commandOfBits l = commandOfCode l.length code rest := by simp only [commandOfBits, hbytes]
  rw [hcommand]
  refine ⟨?_, ?_, ?_, ?_, ?_, ?_, ?_, ?switchOff, ?switchOn, ?_, ?_, ?_, ?_, ?_, ?_, ?_, ?_, ?_, ?_, ?_, ?_, ?_, ?invalid⟩
  case switchOff => rintro rfl h; exact switchOfBytes_off l.length h
  case switchOn => rintro rfl h; exact switchOfBytes_on l.length h
  case invalid => exact commandOfCode_invalid l.length code rest
  all_goals (rintro rfl; rfl)

/-- A reply is captured when the last bit of the read's frame has come in. -/
theorem captureOfBits_iff (l : List Bool) (r : ReadRequest) : captureOfBits l = some (.reply r) ↔
    readOf (commandOfBits l) = some r ∧ l.length = 8 * (1 + readArgBytes r) := by
  unfold captureOfBits
  cases readOf (commandOfBits l) with
  | none => simp
  | some r' =>
    constructor
    · intro h
      by_cases hlength : l.length = 8 * (1 + readArgBytes r')
      · simp only [hlength, if_true, Option.some.injEq, PortCapture.reply.injEq] at h
        exact ⟨congrArg some h, h ▸ hlength⟩
      · simp [hlength] at h
    · rintro ⟨hread, hlength⟩
      obtain rfl : r' = r := Option.some.inj hread
      simp only [hlength, if_true]

/-- Settles O9: the bits in, read in eights; the command, read off its code; the bits out, read off the bytes out. -/
theorem hostBytesSpellTheCommands : Obligations.HostBytesSpellTheCommands := by
  unfold Obligations.HostBytesSpellTheCommands
  refine ⟨bytesOfBits_spec, fun l h => commandOfBits_short h, ?_, ?_, ?_⟩
  · intro l code rest n a hbytes hn ha
    exact commandOfBits_codes l code rest hbytes n hn a (funext ha)
  · intro l r
    rw [captureOfBits_iff l r]
    cases r <;> rfl
  · intro p k j
    refine ⟨rfl, rfl, fun hj => ?_⟩
    rw [Port.bitOut, show (8 * k + j) / 8 = k by omega, show (8 * k + j) % 8 = j by omega]

end Sys2Proof.Machine
end

section
/-! PROOFS. One outlet's record and meter values through the operations of the switch unit (R2, R3, R6, R12, R35, R42). -/

namespace Sys2Proof.Machine
open Sys2Proof

section
variable (s : State) (o : OutletId) (x : Outlet) (m : Meter)

/-! ## Replacing one outlet's records -/

@[simp] theorem withOutlet_outlet_self : (s.withOutlet o x m).outlet o = x := by simp [State.withOutlet, State.outlet]

@[simp] theorem withOutlet_meter_self : (s.withOutlet o x m).meter o = m := by simp [State.withOutlet, State.meter]

@[simp] theorem withOutlet_withOutlet (y : Outlet) (n : Meter) : (s.withOutlet o x m).withOutlet o y n = s.withOutlet o y n := by
  simp [State.withOutlet]

theorem withOutlet_outlet (p : OutletId) : (s.withOutlet o x m).outlet p = if p = o then x else s.outlet p := by
  simp [State.withOutlet, State.outlet, Tab.get_set]

theorem withOutlet_meter (p : OutletId) : (s.withOutlet o x m).meter p = if p = o then m else s.meter p := by
  simp [State.withOutlet, State.meter, Tab.get_set]

@[simp] theorem withOutlet_self : s.withOutlet o (s.outlet o) (s.meter o) = s := by simp [State.withOutlet, State.outlet, State.meter]

/-- The operations that rewrite one outlet record write that record alone. -/
theorem modOutlet_eq (f : Outlet → Outlet) : s.modOutlet o f = s.withOutlet o (f (s.outlet o)) (s.meter o) := by
  simp [State.modOutlet, State.setOutlet, State.withOutlet, State.meter]

theorem setTarget_eq (t : HostTarget) : s.setTarget o t = s.withOutlet o { s.outlet o with target := t } (s.meter o) := modOutlet_eq s o _

theorem setRestore_eq (v : Bool) : s.setRestore o v = s.withOutlet o { s.outlet o with restoreIntent := v } (s.meter o) := modOutlet_eq s o _

theorem setCycle_eq (c : CycleMember) : s.setCycle o c = s.withOutlet o { s.outlet o with cycle := c } (s.meter o) := modOutlet_eq s o _

theorem setUnaligned_eq (v : Bool) : s.setUnaligned o v = s.withOutlet o { s.outlet o with unalignedLast := v } (s.meter o) := modOutlet_eq s o _

theorem setPendingOff_eq : s.setPendingOff o = s.withOutlet o { s.outlet o with pendingOff := true } (s.meter o) := modOutlet_eq s o _

theorem loadTimer_eq (ms : Nat) : s.loadTimer o ms = s.withOutlet o { s.outlet o with stateTimer := some ms } (s.meter o) := modOutlet_eq s o _

theorem endLocal_state_eq : s.endLocal o = s.withOutlet o (s.outlet o).endLocal (s.meter o) := modOutlet_eq s o _

/-! ## Entering a state -/

theorem place_eq (st : OutletState) (sub : Option SubPhase) :
    s.place o st sub = s.withOutlet o ((s.outlet o).place st sub)
      ((s.meter o).follow (s.outlet o).live ((s.outlet o).place st sub).live st) := rfl

/-- The states in which an outlet rests with its relay open and no timer running. -/
def OutletState.rests (st : OutletState) : Bool :=
  match st with
  | .off | .dwell | .shed | .tripped => true
  | .claiming | .closing | .on | .opening => false

/-- An outlet that comes to rest is not live, and disturbs no window (R2, R35, R42). -/
theorem place_rest {st : OutletState} (h : st.rests = true) :
    s.place o st none = s.withOutlet o ((s.outlet o).idle st) { s.meter o with overCount := 0 } := by
  rw [place_eq]
  cases st with
  | off | dwell | shed | tripped => simp [Outlet.place, Outlet.idle, relayFor, coilFor, Meter.follow, Outlet.live]
  | claiming | closing | on | opening => cases h

/-- An outlet that enters CLAIMING from another state waits from 0 (R6). -/
theorem place_claiming (h : (s.outlet o).state ≠ .claiming) :
    s.place o .claiming none = s.withOutlet o { (s.outlet o).idle .claiming with claimWait := some 0 } { s.meter o with overCount := 0 } := by
  rw [place_eq]
  simp [Outlet.place, Outlet.idle, relayFor, coilFor, Meter.follow, Outlet.live, h]

/-- An outlet that enters CLAIMING joins its bank's closure queue, whatever else its record holds (R6, R104). -/
theorem enterClaiming_eq (h : (s.outlet o).state ≠ .claiming) :
    s.enterClaiming o =
      { s.withOutlet o { (s.outlet o).idle .claiming with claimWait := some 0 } { s.meter o with overCount := 0 } with
        queues := (s.joinQueue o).queues } := by
  rw [State.enterClaiming, place_claiming s o h]
  refine joinQueue_of_same s _ o rfl (fun p => ?_)
  rw [withOutlet_outlet]
  split
  · next hp => rw [hp]; rfl
  · rfl

end

/-! ## Posting -/

/-- Posting changes the port alone, and reads the port, the mask and the time alone (R184, R185). -/
theorem post_of_same {s t : State} (hport : t.port = s.port) (hcfg : t.cfg = s.cfg) (htime : t.boardTime = s.boardTime) (k : EventKind)
    (subject detail value : Nat) : t.post k subject detail value = { t with port := s.portWith k subject detail value } := by
  have hwith : (t.post k subject detail value).port = s.portWith k subject detail value := by
    unfold State.portWith State.post
    rw [hport, hcfg, htime]
    split
    · split <;> simp only [State.modPort, hport]
    · exact hport
  rw [post_frame, hwith]

theorem post_eq (s : State) (k : EventKind) (subject detail value : Nat) :
    s.post k subject detail value = { s with port := s.portWith k subject detail value } := post_frame s k subject detail value

/-- The port after an accepted frame whose effect posted one event (R177, R184). -/
theorem writeResult_post {s t : State} (hport : t.port = s.openFrame.port) (hcfg : t.cfg = s.cfg) (htime : t.boardTime = s.boardTime)
    (k : EventKind) (subject detail value : Nat) :
    (t.post k subject detail value).writeResult okSlot = { t with port := s.portAfterEvent k subject detail value } := by
  rw [post_of_same (s := s.openFrame) hport hcfg htime]
  simp only [State.writeResult, State.closeFrame, State.modPort, State.portAfterEvent, State.portWith, State.post]
  have hevents : s.openFrame.port.events = s.port.events := rfl
  rw [show s.openFrame.cfg = s.cfg from rfl, hevents]
  split
  · split <;> rfl
  · rfl

end Sys2Proof.Machine
end

section
/-! PROOFS. SWITCH and CYCLE OUTLET (R16 to R19): the checks in their order, then the effect by the outlet's state. -/

namespace Sys2Proof.Machine
open Sys2Proof

/-! ## The checks of R16 -/

theorem exec_switchOn {s : State} (hframe : s.takesHostFrames = true) (n d : Byte) :
    exec (.switchOn 24 n d) s = .next ((runSwitch n d s.openFrame).1.writeResult (runSwitch n d s.openFrame).2) :=
  congrArg Host.Outcome.next (atRising_runFrame hframe 2 (runSwitch n d))

theorem exec_switchOff {s : State} (hframe : s.takesHostFrames = true) (n : Byte) :
    exec (.switchOff 24 n) s = .next ((runSwitch n 0 s.openFrame).1.writeResult (runSwitch n 0 s.openFrame).2) :=
  congrArg Host.Outcome.next (atRising_runFrame hframe 2 (runSwitch n 0))

theorem exec_cycleOutlet {s : State} (hframe : s.takesHostFrames = true) (n : Byte) (w : BitVec 16) :
    exec (.cycleOutlet 32 n w) s = .next ((runCycleOutlet n w s.openFrame).1.writeResult (runCycleOutlet n w s.openFrame).2) :=
  congrArg Host.Outcome.next (atRising_runFrame hframe 3 (runCycleOutlet n w))

/-- A refused command leaves its result alone (R177). -/
theorem writeResult_of_refused {s : State} {a : Answer} {code : ResultCode} {detail : Nat} (h : a = refuse s.openFrame code detail) :
    Host.Outcome.next (a.1.writeResult a.2) = (Host.Outcome.next (s.answered code detail) : Result) := by
  rw [h]
  rfl

theorem issuing_refuse (s : State) {code : ResultCode} (hcode : code ≠ .ok) (detail : Nat) :
    Answer.issuing (refuse s code detail) = refuse s code detail := by
  simp [Answer.issuing, refuse, okSlot, hcode]

theorem whenRunning_refuses {s : State} (run : State → Answer) (h : s.phase ≠ .running) : whenRunning run s = refuse s .phase 0 := if_neg h

theorem whenRunning_runs {s : State} (run : State → Answer) (h : s.phase = .running) : whenRunning run s = run s := if_pos h

section
variable {n d : Byte} {w : BitVec 16} {o : OutletId} {s : State}

theorem checkOutlet_of_protected (run : State → Answer) (h : (s.outlet o).isProtected = true) :
    s.checkOutlet o run = refuse s .protectedSet 0 := if_pos h

theorem checkOutlet_of_member (run : State → Answer) (hfree : (s.outlet o).isProtected = false) (h : (s.outlet o).cycle = .group) :
    s.checkOutlet o run = refuse s .inCycle 0 := by simp [State.checkOutlet, hfree, h]

theorem checkOutlet_runs (run : State → Answer) (hfree : (s.outlet o).isProtected = false) (h : (s.outlet o).cycle ≠ .group) :
    s.checkOutlet o run = run s := by simp [State.checkOutlet, hfree, h]

theorem runSwitch_out_of_range (hrunning : s.phase = .running) (hn : n.toNat < 1 ∨ 24 < n.toNat) (d : Byte) :
    runSwitch n d s = refuse s .badArg 1 := by
  rw [runSwitch, whenRunning_runs _ hrunning, outletArg_out_of_range hn]

theorem runSwitch_bad_direction (hrunning : s.phase = .running) (hn : n.toNat = o.val + 1) (hd : 1 < d.toNat) :
    runSwitch n d s = refuse s .badArg 2 := by
  have hnotOn : d ≠ 1 := by bv_omega
  have hnotOff : d ≠ 0 := by bv_omega
  rw [runSwitch, whenRunning_runs _ hrunning, outletArg_of_number hn]
  exact (if_neg hnotOn).trans (if_neg hnotOff)

/-- A direction in range is ON or OFF, and is checked as either (R16). -/
theorem runSwitch_checks (hrunning : s.phase = .running) (hn : n.toNat = o.val + 1) (hd : d.toNat ≤ 1) :
    ∃ run, runSwitch n d s = (s.checkOutlet o run).issuing := by
  have hdirection : d = 1 ∨ d = 0 := by bv_omega
  rw [runSwitch, whenRunning_runs _ hrunning, outletArg_of_number hn]
  rcases hdirection with rfl | rfl
  · exact ⟨State.switchOn o, rfl⟩
  · exact ⟨State.switchOff o, rfl⟩

theorem runSwitch_of_protected (hrunning : s.phase = .running) (hn : n.toNat = o.val + 1) (hd : d.toNat ≤ 1)
    (h : (s.outlet o).isProtected = true) : runSwitch n d s = refuse s .protectedSet 0 := by
  obtain ⟨run, hrun⟩ := runSwitch_checks hrunning hn hd
  rw [hrun, checkOutlet_of_protected run h, issuing_refuse s (code := .protectedSet) (by decide)]

theorem runSwitch_of_member (hrunning : s.phase = .running) (hn : n.toNat = o.val + 1) (hd : d.toNat ≤ 1)
    (hfree : (s.outlet o).isProtected = false) (h : (s.outlet o).cycle = .group) : runSwitch n d s = refuse s .inCycle 0 := by
  obtain ⟨run, hrun⟩ := runSwitch_checks hrunning hn hd
  rw [hrun, checkOutlet_of_member run hfree h, issuing_refuse s (code := .inCycle) (by decide)]

theorem runCycleOutlet_out_of_range (hrunning : s.phase = .running) (hn : n.toNat < 1 ∨ 24 < n.toNat) (w : BitVec 16) :
    runCycleOutlet n w s = refuse s .badArg 1 := by
  rw [runCycleOutlet, whenRunning_runs _ hrunning, outletArg_out_of_range hn]

theorem runCycleOutlet_bad_dwell (hrunning : s.phase = .running) (hn : n.toNat = o.val + 1) (hw : w.toNat < 1 ∨ 600 < w.toNat) :
    runCycleOutlet n w s = refuse s .badArg 2 := by
  have hrange : inRange 1 600 w.toNat = false := by simp [inRange]; omega
  rw [runCycleOutlet, whenRunning_runs _ hrunning, outletArg_of_number hn]
  simp [hrange]

theorem runCycleOutlet_checks (hrunning : s.phase = .running) (hn : n.toNat = o.val + 1) (hlow : 1 ≤ w.toNat) (hhigh : w.toNat ≤ 600) :
    runCycleOutlet n w s = s.checkOutlet o (State.cycleOutlet o w.toNat) := by
  have hrange : inRange 1 600 w.toNat = true := by simp [inRange]; omega
  rw [runCycleOutlet, whenRunning_runs _ hrunning, outletArg_of_number hn]
  simp [hrange]

end

/-- Settles O23, check by check in the opened frame. -/
theorem switchAndCycleAreCheckedInOrder : Obligations.SwitchAndCycleAreCheckedInOrder := by
  unfold Obligations.SwitchAndCycleAreCheckedInOrder
  intro n d w s hframe
  rw [exec_switchOn hframe, exec_switchOff hframe, exec_cycleOutlet hframe]
  refine ⟨fun hconfiguring => ⟨?_, ?_, ?_⟩, fun hrunning => ⟨fun hn => ⟨?_, ?_, ?_⟩, fun o hn =>
    ⟨fun hw => ?_, fun hd => ?_, fun hd => ?_, fun hd hlow hhigh hprotected => ⟨?_, ?_, ?_⟩, fun hd hlow hhigh hfree hmember => ⟨?_, ?_, ?_⟩⟩⟩⟩
  · exact writeResult_of_refused (whenRunning_refuses (s := s.openFrame) _ hconfiguring)
  · exact writeResult_of_refused (whenRunning_refuses (s := s.openFrame) _ hconfiguring)
  · exact writeResult_of_refused (whenRunning_refuses (s := s.openFrame) _ hconfiguring)
  · exact writeResult_of_refused (runSwitch_out_of_range (s := s.openFrame) hrunning hn d)
  · exact writeResult_of_refused (runSwitch_out_of_range (s := s.openFrame) hrunning hn 0)
  · exact writeResult_of_refused (runCycleOutlet_out_of_range (s := s.openFrame) hrunning hn w)
  · exact writeResult_of_refused (runCycleOutlet_bad_dwell (s := s.openFrame) hrunning hn hw)
  · exact writeResult_of_refused (runSwitch_bad_direction (s := s.openFrame) hrunning hn hd)
  · have hoff : d = 0 := by bv_omega
    rw [hoff]
  · exact writeResult_of_refused (runSwitch_of_protected (s := s.openFrame) hrunning hn hd hprotected)
  · exact writeResult_of_refused (runSwitch_of_protected (s := s.openFrame) hrunning hn (by decide) hprotected)
  · rw [runCycleOutlet_checks (s := s.openFrame) hrunning hn hlow hhigh]
    exact writeResult_of_refused (checkOutlet_of_protected (s := s.openFrame) _ hprotected)
  · exact writeResult_of_refused (runSwitch_of_member (s := s.openFrame) hrunning hn hd hfree hmember)
  · exact writeResult_of_refused (runSwitch_of_member (s := s.openFrame) hrunning hn (by decide) hfree hmember)
  · rw [runCycleOutlet_checks (s := s.openFrame) hrunning hn hlow hhigh]
    exact writeResult_of_refused (checkOutlet_of_member (s := s.openFrame) _ hfree hmember)

/-! ## SWITCH ON (R17) -/

/-- The hypotheses under which a SWITCH or CYCLE OUTLET reaches the outlet's state (R16). -/
structure State.SwitchReaches (s : State) (n : Byte) (o : OutletId) : Prop where
  number : n.toNat = o.val + 1
  taken : s.takesHostFrames = true
  running : s.phase = .running
  notProtected : (s.outlet o).isProtected = false
  notMember : (s.outlet o).cycle ≠ .group

section
variable {n : Byte} {o : OutletId} {s : State}

/-- A SWITCH accepted in the opened frame writes OK, and the claims follow (R107, log 18). -/
theorem exec_switchOn_accepted (h : s.SwitchReaches n o) {u : State} (hrun : State.switchOn o s.openFrame = accept u) :
    exec (.switchOn 24 n 1) s = .next (u.writeResult okSlot).issueClaims := by
  have hframe := switchFrame_runs 1 (State.switchOn o) (Or.inl ⟨rfl, rfl⟩) h.number h.taken h.running h.notProtected h.notMember
  rw [hrun, accepted_issues] at hframe
  exact congrArg Host.Outcome.next hframe

theorem exec_switchOn_refused (h : s.SwitchReaches n o) {code : ResultCode} (hcode : code ≠ .ok)
    (hrun : State.switchOn o s.openFrame = refuse s.openFrame code 0) : exec (.switchOn 24 n 1) s = .next (s.answered code 0) := by
  have hframe := switchFrame_runs 1 (State.switchOn o) (Or.inl ⟨rfl, rfl⟩) h.number h.taken h.running h.notProtected h.notMember
  rw [hrun, issuing_refuse _ hcode] at hframe
  exact congrArg Host.Outcome.next hframe

theorem exec_switchOff_accepted (h : s.SwitchReaches n o) {u : State} (hrun : State.switchOff o s.openFrame = accept u) :
    exec (.switchOff 24 n) s = .next (u.writeResult okSlot).issueClaims := by
  have hframe := switchFrame_runs 0 (State.switchOff o) (Or.inr ⟨rfl, rfl⟩) h.number h.taken h.running h.notProtected h.notMember
  rw [hrun, accepted_issues] at hframe
  exact congrArg Host.Outcome.next hframe

/-- An outlet taken in hand and given a target (R17, R18, R21). -/
theorem takeInHand_setTarget (s : State) (o : OutletId) (t : HostTarget) :
    (s.takeInHand o).setTarget o t = (s.takeInHand o).withOutlet o { s.outlet o with target := t } (s.meter o) := setTarget_eq _ o t

/-- The board once an outlet is taken in hand by an accepted frame (R171, R177). -/
def State.handed (s : State) (o : OutletId) : State := { s with port := s.portAfter ⟨.ok, 0⟩, restoreSet := removeOutlet s.restoreSet o }

theorem writeResult_handed (s : State) (o : OutletId) (x : Outlet) (m : Meter) :
    ((s.openFrame.takeInHand o).withOutlet o x m).writeResult okSlot = (s.handed o).withOutlet o x m := rfl

/-- The opened frame leaves the closure queues. -/
theorem writeResult_handed_queues (s : State) (o : OutletId) (x : Outlet) (m : Meter) :
    State.writeResult { (s.openFrame.takeInHand o).withOutlet o x m with queues := (s.openFrame.joinQueue o).queues } okSlot =
      { (s.handed o).withOutlet o x m with queues := (s.joinQueue o).queues } := by
  rw [joinQueue_of_same s s.openFrame o rfl (fun _ => rfl)]
  rfl

theorem writeResult_handed_post (s : State) (o : OutletId) (x : Outlet) (m : Meter) (k : EventKind) (subject detail value : Nat) :
    (((s.openFrame.takeInHand o).withOutlet o x m).post k subject detail value).writeResult okSlot =
      { (s.handed o).withOutlet o x m with port := s.portAfterEvent k subject detail value } :=
  writeResult_post (s := s) (t := (s.openFrame.takeInHand o).withOutlet o x m) rfl rfl rfl k subject detail value

/-- What SWITCH ON does to an outlet that is to claim (R17). -/
theorem takeInHand_claims (h : (s.outlet o).state ≠ .claiming) (x : Outlet) (hstate : x.state = (s.outlet o).state) (hcfg : x.cfg = (s.outlet o).cfg) :
    ((s.takeInHand o).withOutlet o x (s.meter o)).enterClaiming o =
      { (s.takeInHand o).withOutlet o { x.idle .claiming with claimWait := some 0 } { s.meter o with overCount := 0 } with
        queues := (s.joinQueue o).queues } := by
  have hqueue : ((s.takeInHand o).withOutlet o x (s.meter o)).joinQueue o =
      { (s.takeInHand o).withOutlet o x (s.meter o) with queues := (s.joinQueue o).queues } := by
    refine joinQueue_of_same s _ o rfl (fun p => ?_)
    rw [withOutlet_outlet]
    split
    · next hp => rw [hp, hcfg]
    · rfl
  rw [enterClaiming_eq _ _ (by rw [withOutlet_outlet_self, hstate]; exact h), withOutlet_outlet_self, withOutlet_meter_self,
    withOutlet_withOutlet, hqueue]

theorem switchOn_of_off (h : (s.outlet o).state = .off) : State.switchOn o s =
    accept { (s.takeInHand o).withOutlet o { (s.outlet o).idle .claiming with target := .on, claimWait := some 0 } { s.meter o with overCount := 0 }
      with queues := (s.joinQueue o).queues } := by
  have hclaims := takeInHand_claims (s := s) (o := o) (by rw [h]; decide) { s.outlet o with target := .on } rfl rfl
  rw [← takeInHand_setTarget] at hclaims
  rw [State.switchOn, h]
  exact congrArg accept hclaims

/-- An outlet already on its way to ON, or that may return from SHED, is given the target (R17). -/
theorem switchOn_of_waiting (h : (s.outlet o).state = .claiming ∨ (s.outlet o).state = .closing ∧ (s.outlet o).pendingOff = false ∨
    (s.outlet o).state = .shed) :
    State.switchOn o s = accept ((s.takeInHand o).withOutlet o { s.outlet o with target := .on } (s.meter o)) := by
  rw [← takeInHand_setTarget]
  rcases h with h | ⟨h, hpending⟩ | h
  · simp only [State.switchOn, h]
  · simp [State.switchOn, h, hpending]
  · simp only [State.switchOn, h]

/-- A target met at once (R21). -/
theorem meetTarget_of_met {b : HostTarget} {st : OutletState} {value : Nat} (hst : (s.outlet o).state = st) (htarget : (s.outlet o).target = b)
    (h : st = .on ∧ b = .on ∧ value = 1 ∨ st = .off ∧ b = .off ∧ value = 0) :
    s.meetTarget o = (s.withOutlet o { s.outlet o with target := .none } (s.meter o)).post .switchDone (o.val + 1) value 0 := by
  rw [← setTarget_eq]
  rcases h with ⟨rfl, rfl, rfl⟩ | ⟨rfl, rfl, rfl⟩ <;> simp only [State.meetTarget, hst, htarget] <;> rfl

theorem switchOn_of_on (h : (s.outlet o).state = .on) : State.switchOn o s =
    accept (((s.takeInHand o).withOutlet o { s.outlet o with target := .none } (s.meter o)).post .switchDone (o.val + 1) 1 0) := by
  have hmeets := meetTarget_of_met (s := (s.takeInHand o).withOutlet o { s.outlet o with target := .on } (s.meter o)) (o := o) (st := .on)
    (b := .on) (value := 1) (by rw [withOutlet_outlet_self]; exact h) (by rw [withOutlet_outlet_self]) (Or.inl ⟨rfl, rfl, rfl⟩)
  rw [withOutlet_outlet_self, withOutlet_meter_self, withOutlet_withOutlet, ← takeInHand_setTarget] at hmeets
  simp only [State.switchOn, h, hmeets]

theorem switchOn_of_dwell (h : (s.outlet o).state = .dwell) : State.switchOn o s =
    accept { (s.takeInHand o).withOutlet o
        { (s.outlet o).idle .claiming with target := .on, cycle := .none, restoreIntent := false, claimWait := some 0 }
        { s.meter o with overCount := 0 }
      with queues := (s.joinQueue o).queues } := by
  have hclaims := takeInHand_claims (s := s) (o := o) (by rw [h]; decide)
    { s.outlet o with target := .on, restoreIntent := false, cycle := .none } rfl rfl
  have hleaves : ((s.takeInHand o).setTarget o .on).leaveDwell o =
      ((s.takeInHand o).withOutlet o { s.outlet o with target := .on, restoreIntent := false, cycle := .none } (s.meter o)).enterClaiming o := by
    simp only [State.leaveDwell, takeInHand_setTarget, setRestore_eq, setCycle_eq, withOutlet_outlet_self, withOutlet_meter_self,
      withOutlet_withOutlet]
  rw [State.switchOn, h]
  exact congrArg accept (hleaves.trans hclaims)

theorem switchOn_of_busy (h : (s.outlet o).state = .closing ∧ (s.outlet o).pendingOff = true ∨ (s.outlet o).state = .opening) :
    State.switchOn o s = refuse s .busy 0 := by
  rcases h with ⟨h, hpending⟩ | h
  · simp [State.switchOn, h, hpending]
  · simp only [State.switchOn, h]

theorem switchOn_of_tripped (h : (s.outlet o).state = .tripped) : State.switchOn o s = refuse s .tripped 0 := by
  simp only [State.switchOn, h]

end

/-- Settles O24, by the outlet's state. -/
theorem switchOnActsByState : Obligations.SwitchOnActsByState := by
  unfold Obligations.SwitchOnActsByState
  intro n o s hn hframe hrunning hfree hmember
  have hreach : s.SwitchReaches n o := ⟨hn, hframe, hrunning, hfree, hmember⟩
  refine ⟨?accepted, fun h => ?busy, fun h => ?tripped⟩
  case accepted =>
    rintro ok m rfl rfl
    refine ⟨fun h => ?off, fun h => ?waiting, fun h => ?on, fun h => ?dwell⟩
    case off => rw [exec_switchOn_accepted hreach (switchOn_of_off (s := s.openFrame) h), writeResult_handed_queues]; rfl
    case waiting => rw [exec_switchOn_accepted hreach (switchOn_of_waiting (s := s.openFrame) h), writeResult_handed]; rfl
    case on => rw [exec_switchOn_accepted hreach (switchOn_of_on (s := s.openFrame) h), writeResult_handed_post]; rfl
    case dwell => rw [exec_switchOn_accepted hreach (switchOn_of_dwell (s := s.openFrame) h), writeResult_handed_queues]; rfl
  case busy => exact exec_switchOn_refused hreach nofun (switchOn_of_busy (s := s.openFrame) h)
  case tripped => exact exec_switchOn_refused hreach nofun (switchOn_of_tripped (s := s.openFrame) h)

end Sys2Proof.Machine
end

section
/-! PROOFS. SWITCH OFF and CYCLE OUTLET by the outlet's state (R18, R19). -/

namespace Sys2Proof.Machine
open Sys2Proof

/-! ## Leaving CLAIMING -/

theorem withdrawClaim_withPort (s : State) (p : Port) (b : Bank) :
    State.withdrawClaim { s with port := p } b = { s.withdrawClaim b with port := p } := by
  have hclaim : State.claim { s with port := p } b = s.claim b := rfl
  have hsending : State.sendingClaim { s with port := p } b = s.sendingClaim b := rfl
  unfold State.withdrawClaim
  rw [hclaim, hsending]
  split
  · split <;> rfl
  · rfl

theorem leaveClaiming_withPort (s : State) (p : Port) (o : OutletId) :
    State.leaveClaiming { s with port := p } o = { s.leaveClaiming o with port := p } := by
  have hclaim : State.claim { s with port := p } (bankOf o) = s.claim (bankOf o) := rfl
  unfold State.leaveClaiming
  rw [hclaim, withdrawClaim_withPort]
  split <;> rfl

theorem leaveClaiming_outlet (s : State) (o p : OutletId) : (s.leaveClaiming o).outlet p = s.outlet p :=
  congrArg (fun t => t.get p) (leaveClaiming_outlets s o)

theorem leaveClaiming_meter (s : State) (o p : OutletId) : (s.leaveClaiming o).meter p = s.meter p :=
  congrArg (fun t => t.get p) (leaveClaiming_meters s o)

/-! ## SWITCH OFF (R18) -/

section
variable {n : Byte} {o : OutletId} {s : State}

/-- An outlet that enters OFF with that as its target meets it (R15, R21). -/
theorem enterOff_of_target (h : (s.outlet o).target = .off) :
    s.enterOff o = (s.withOutlet o { (s.outlet o).idle .off with target := .none } { s.meter o with overCount := 0 }).post .switchDone (o.val + 1) 0 0 := by
  rw [State.enterOff, place_rest s o rfl]
  have hmeets := meetTarget_of_met (s := s.withOutlet o ((s.outlet o).idle .off) { s.meter o with overCount := 0 }) (o := o) (st := .off)
    (b := .off) (value := 0) (by rw [withOutlet_outlet_self]; rfl) (by rw [withOutlet_outlet_self]; exact h) (Or.inr ⟨rfl, rfl, rfl⟩)
  rw [hmeets, withOutlet_outlet_self, withOutlet_meter_self, withOutlet_withOutlet]

theorem switchOff_of_off (h : (s.outlet o).state = .off) : State.switchOff o s =
    accept (((s.takeInHand o).withOutlet o { s.outlet o with target := .none } (s.meter o)).post .switchDone (o.val + 1) 0 0) := by
  have hmeets := meetTarget_of_met (s := (s.takeInHand o).withOutlet o { s.outlet o with target := .off } (s.meter o)) (o := o) (st := .off)
    (b := .off) (value := 0) (by rw [withOutlet_outlet_self]; exact h) (by rw [withOutlet_outlet_self]) (Or.inr ⟨rfl, rfl, rfl⟩)
  rw [withOutlet_outlet_self, withOutlet_meter_self, withOutlet_withOutlet, ← takeInHand_setTarget] at hmeets
  rw [State.switchOff, h]
  exact congrArg accept hmeets

theorem switchOff_of_claiming (h : (s.outlet o).state = .claiming) : State.switchOff o s =
    accept ((((s.takeInHand o).leaveClaiming o).withOutlet o
      { (s.outlet o).idle .off with cycle := .none, restoreIntent := false, target := .none } { s.meter o with overCount := 0 }).post
        .switchDone (o.val + 1) 0 0) := by
  have houtlet : ((s.takeInHand o).leaveClaiming o).outlet o = s.outlet o := leaveClaiming_outlet (s.takeInHand o) o o
  have hmeter : ((s.takeInHand o).leaveClaiming o).meter o = s.meter o := leaveClaiming_meter (s.takeInHand o) o o
  rw [State.switchOff, h]
  refine congrArg accept ?_
  rw [enterOff_of_target (by rw [setTarget_eq, withOutlet_outlet_self])]
  simp only [setTarget_eq, setRestore_eq, setCycle_eq, withOutlet_outlet_self, withOutlet_meter_self, withOutlet_withOutlet, houtlet, hmeter]
  rfl

theorem switchOff_of_closing (h : (s.outlet o).state = .closing) (hfree : (s.outlet o).cycle ≠ .group) : State.switchOff o s =
    accept ((s.takeInHand o).withOutlet o { s.outlet o with pendingOff := true, restoreIntent := false, cycle := .none, target := .off } (s.meter o)) := by
  rw [State.switchOff, h]
  refine congrArg accept ?_
  have hlocal : ¬ ((s.takeInHand o).outlet o).cycle = .group := hfree
  simp only [setTarget_eq, setRestore_eq, setPendingOff_eq, endLocal_state_eq, endLocal_eq, withOutlet_outlet_self, withOutlet_meter_self,
    withOutlet_withOutlet, hlocal, if_false]
  rfl

theorem switchOff_of_on (h : (s.outlet o).state = .on) : State.switchOff o s =
    accept (((s.takeInHand o).withOutlet o { s.outlet o with target := .off } (s.meter o)).enterOpening o) := by
  rw [State.switchOff, h]
  exact congrArg (fun t => accept (t.enterOpening o)) (takeInHand_setTarget s o .off)

theorem switchOff_of_opening (h : (s.outlet o).state = .opening) (hfree : (s.outlet o).cycle ≠ .group) : State.switchOff o s =
    accept ((s.takeInHand o).withOutlet o { s.outlet o with restoreIntent := false, cycle := .none, target := .off } (s.meter o)) := by
  rw [State.switchOff, h]
  refine congrArg accept ?_
  have hlocal : ¬ ((s.takeInHand o).outlet o).cycle = .group := hfree
  simp only [setTarget_eq, setRestore_eq, endLocal_state_eq, endLocal_eq, withOutlet_outlet_self, withOutlet_meter_self,
    withOutlet_withOutlet, hlocal, if_false]
  rfl

theorem switchOff_of_dwell (h : (s.outlet o).state = .dwell) : State.switchOff o s =
    accept (((s.takeInHand o).withOutlet o { (s.outlet o).idle .off with cycle := .none, restoreIntent := false, target := .none }
      { s.meter o with overCount := 0 }).post .switchDone (o.val + 1) 0 0) := by
  rw [State.switchOff, h]
  refine congrArg accept ?_
  rw [enterOff_of_target (by rw [setTarget_eq, withOutlet_outlet_self])]
  simp only [setTarget_eq, setRestore_eq, setCycle_eq, withOutlet_outlet_self, withOutlet_meter_self, withOutlet_withOutlet]
  rfl

theorem switchOff_of_shed (h : (s.outlet o).state = .shed) : State.switchOff o s =
    accept (((s.takeInHand o).withOutlet o { (s.outlet o).idle .off with target := .none } { s.meter o with overCount := 0 }).post
      .switchDone (o.val + 1) 0 0) := by
  rw [State.switchOff, h]
  refine congrArg accept ?_
  rw [enterOff_of_target (by rw [setTarget_eq, withOutlet_outlet_self])]
  simp only [setTarget_eq, withOutlet_outlet_self, withOutlet_meter_self, withOutlet_withOutlet]
  rfl

theorem switchOff_of_tripped (h : (s.outlet o).state = .tripped) : State.switchOff o s = accept (s.takeInHand o) := by
  rw [State.switchOff, h]

/-- An outlet that leaves CLAIMING by an accepted frame (R113, R177). -/
theorem writeResult_leaves_claiming (s : State) (o : OutletId) (x : Outlet) (m : Meter) (k : EventKind) (subject detail value : Nat) :
    ((((s.openFrame.takeInHand o).leaveClaiming o).withOutlet o x m).post k subject detail value).writeResult okSlot =
      { ((s.handed o).leaveClaiming o).withOutlet o x m with port := s.portAfterEvent k subject detail value } := by
  have hleaves : (s.openFrame.takeInHand o).leaveClaiming o = { (s.handed o).leaveClaiming o with port := s.openFrame.port } :=
    leaveClaiming_withPort (s.handed o) s.openFrame.port o
  rw [writeResult_post (s := s) (by rw [hleaves]; rfl) (by rw [hleaves]; exact leaveClaiming_cfg _ _)
    (by rw [hleaves]; exact leaveClaiming_boardTime _ _), hleaves]
  rfl

/-- An outlet that an accepted frame opens (R13, R177). -/
theorem writeResult_opens (s : State) (o : OutletId) (x : Outlet) (m : Meter) :
    (((s.openFrame.takeInHand o).withOutlet o x m).enterOpening o).writeResult okSlot = ((s.handed o).withOutlet o x m).enterOpening o := by
  have hopens := enterOpening_withPort ((s.handed o).withOutlet o x m) s.openFrame.port o
  have hport := enterOpening_keepsPort ((s.handed o).withOutlet o x m) o
  rw [show (s.openFrame.takeInHand o).withOutlet o x m = { (s.handed o).withOutlet o x m with port := s.openFrame.port } from rfl, hopens]
  have hwrites : State.writeResult { ((s.handed o).withOutlet o x m).enterOpening o with port := s.openFrame.port } okSlot =
      { ((s.handed o).withOutlet o x m).enterOpening o with port := (s.handed o).port } := rfl
  rw [hwrites, show (s.handed o).port = ((s.handed o).withOutlet o x m).port from rfl, ← hport]

end

/-- Settles O25, by the outlet's state. -/
theorem switchOffActsByState : Obligations.SwitchOffActsByState := by
  unfold Obligations.SwitchOffActsByState
  intro n o s hn hframe hrunning hfree hmember ok m done hok hm hdone
  subst hok hm hdone
  have hreach : s.SwitchReaches n o := ⟨hn, hframe, hrunning, hfree, hmember⟩
  refine ⟨fun h => ?off, fun h => ?claiming, fun h => ?closing, fun h => ?on, fun h => ?opening, fun h => ?dwell, fun h => ?shed, fun h => ?tripped⟩
  case off => rw [exec_switchOff_accepted hreach (switchOff_of_off (s := s.openFrame) h), writeResult_handed_post]; rfl
  case claiming => rw [exec_switchOff_accepted hreach (switchOff_of_claiming (s := s.openFrame) h), writeResult_leaves_claiming]; rfl
  case closing => rw [exec_switchOff_accepted hreach (switchOff_of_closing (s := s.openFrame) h hmember), writeResult_handed]; rfl
  case on => rw [exec_switchOff_accepted hreach (switchOff_of_on (s := s.openFrame) h), writeResult_opens]; rfl
  case opening => rw [exec_switchOff_accepted hreach (switchOff_of_opening (s := s.openFrame) h hmember), writeResult_handed]; rfl
  case dwell => rw [exec_switchOff_accepted hreach (switchOff_of_dwell (s := s.openFrame) h), writeResult_handed_post]; rfl
  case shed => rw [exec_switchOff_accepted hreach (switchOff_of_shed (s := s.openFrame) h), writeResult_handed_post]; rfl
  case tripped => rw [exec_switchOff_accepted hreach (switchOff_of_tripped (s := s.openFrame) h)]; rfl

/-! ## CYCLE OUTLET (R19) -/

section
variable {n : Byte} {w : BitVec 16} {o : OutletId} {s : State} {dwell : Nat}

theorem cycleOutlet_of_on (h : (s.outlet o).state = .on) : State.cycleOutlet o dwell s =
    accept (((s.takeInHand o).withOutlet o { s.outlet o with cycle := .localCycle dwell, restoreIntent := true, target := .on }
      (s.meter o)).enterOpening o) := by
  rw [State.cycleOutlet, h]
  refine congrArg (fun t : State => accept (t.enterOpening o)) ?_
  simp only [setTarget_eq, setRestore_eq, setCycle_eq, withOutlet_outlet_self, withOutlet_meter_self, withOutlet_withOutlet]
  rfl

theorem cycleOutlet_of_off (h : (s.outlet o).state = .off) : State.cycleOutlet o dwell s = refuse s .badState 0 := by
  rw [State.cycleOutlet, h]

theorem cycleOutlet_of_tripped (h : (s.outlet o).state = .tripped) : State.cycleOutlet o dwell s = refuse s .tripped 0 := by
  rw [State.cycleOutlet, h]

theorem cycleOutlet_of_busy (hon : (s.outlet o).state ≠ .on) (hoff : (s.outlet o).state ≠ .off) (htripped : (s.outlet o).state ≠ .tripped) :
    State.cycleOutlet o dwell s = refuse s .busy 0 := by
  unfold State.cycleOutlet
  split
  case h_1 h => exact absurd h hon
  case h_2 h => exact absurd h hoff
  case h_8 h => exact absurd h htripped
  all_goals rfl

/-- A CYCLE OUTLET that passes the checks of R16 answers by the outlet's state. -/
theorem exec_cycleOutlet_reaches (h : s.SwitchReaches n o) (hlow : 1 ≤ w.toNat) (hhigh : w.toNat ≤ 600) :
    exec (.cycleOutlet 32 n w) s =
      .next ((State.cycleOutlet o w.toNat s.openFrame).1.writeResult (State.cycleOutlet o w.toNat s.openFrame).2) := by
  rw [exec_cycleOutlet h.taken, runCycleOutlet_checks (s := s.openFrame) h.running h.number hlow hhigh,
    checkOutlet_runs (s := s.openFrame) _ h.notProtected h.notMember]

end

/-- Settles O26, by the outlet's state. -/
theorem cycleOutletActsByState : Obligations.CycleOutletActsByState := by
  unfold Obligations.CycleOutletActsByState
  intro n o w s hn hlow hhigh hframe hrunning hfree hmember
  rw [exec_cycleOutlet_reaches ⟨hn, hframe, hrunning, hfree, hmember⟩ hlow hhigh]
  refine ⟨fun h => ?on, fun h => ?off, fun h => ?tripped, fun hon hoff htripped => ?busy⟩
  case on =>
    rw [cycleOutlet_of_on (s := s.openFrame) h]
    exact congrArg Host.Outcome.next (writeResult_opens s o _ _)
  case off => exact writeResult_of_refused (cycleOutlet_of_off (s := s.openFrame) h)
  case tripped => exact writeResult_of_refused (cycleOutlet_of_tripped (s := s.openFrame) h)
  case busy => exact writeResult_of_refused (cycleOutlet_of_busy (s := s.openFrame) hon hoff htripped)

end Sys2Proof.Machine
end

section
/-! PROOFS. CYCLE GROUP and ABORT GROUP (R139, R152, R77, R78). -/

namespace Sys2Proof.Machine
open Sys2Proof

/-! ## Offers -/

section
variable {s : State} (urgency : Nat) (f : PeerFrame)

/-- A frame other than STATUS or JOIN is taken where the link takes it and there is room (R75, R78). -/
theorem offer_of_room (hlink : s.link.state.takesFrames = true) (hroom : ordinaryCount s.link.queue < 30) :
    s.offer urgency f = some (s.insertFrame urgency f) := by
  have h : s.queueHasRoom = true := by simp [State.queueHasRoom, hlink, ordinaryCapacity, hroom]
  exact if_pos h

theorem offer_of_full (hfull : 30 ≤ ordinaryCount s.link.queue) : s.offer urgency f = none := by
  have h : ¬ s.queueHasRoom = true := by
    simp [State.queueHasRoom, ordinaryCapacity, Nat.not_lt.2 hfull]
  exact if_neg h

theorem offer_of_closed (hlink : s.link.state.takesFrames = false) : s.offer urgency f = none := by
  have h : ¬ s.queueHasRoom = true := by simp [State.queueHasRoom, hlink]
  exact if_neg h

theorem notTakenCode_of_open (hlink : s.link.state.takesFrames = true) : s.notTakenCode = .linkBusy := if_pos hlink

theorem notTakenCode_of_closed (hlink : s.link.state.takesFrames = false) : s.notTakenCode = .linkDown := by
  simp [State.notTakenCode, hlink]

end

/-- With no attempt in progress the frames are removed at once (R77). -/
theorem removeFrames_of_idle {s : State} (hidle : s.link.sending = none) (p : PeerFrame → Bool) :
    s.removeFrames p = { s with link := { s.link with queue := s.link.queue.filter (fun x => !p x.frame) } } := by
  have hsending (x : QueuedFrame) : s.isSending x = false := by simp [State.isSending, hidle]
  simp [State.removeFrames, State.modLink, hsending, hidle]

theorem group_of_find {s : State} {g : Nat} {e : GroupEntry} (h : s.group? g = some e) : e.group = g := by
  simpa using List.find?_some h

/-! ## CYCLE GROUP (R139) -/

theorem exec_cycleGroup {s : State} (hframe : s.takesHostFrames = true) (g : Byte) (w : BitVec 16) :
    exec (.cycleGroup 32 g w) s = .next ((runCycleGroup g w s.openFrame).1.writeResult (runCycleGroup g w s.openFrame).2) :=
  congrArg Host.Outcome.next (atRising_runFrame hframe 3 (runCycleGroup g w))

section
variable {g : Byte} {w : BitVec 16} {s : State} {e : GroupEntry}

theorem runCycleGroup_zero (hrunning : s.phase = .running) (w : BitVec 16) : runCycleGroup 0 w s = refuse s .badArg 1 := by
  rw [runCycleGroup, whenRunning_runs _ hrunning]
  exact if_pos rfl

theorem runCycleGroup_bad_dwell (hrunning : s.phase = .running) (hg : g ≠ 0) (hw : 600 < w.toNat) :
    runCycleGroup g w s = refuse s .badArg 2 := by
  have hrange : (!inRange 0 600 w.toNat) = true := by simp [inRange]; omega
  rw [runCycleGroup, whenRunning_runs _ hrunning]
  exact (if_neg hg).trans (if_pos hrange)

theorem runCycleGroup_not_member (hrunning : s.phase = .running) (hg : g ≠ 0) (hw : w.toNat ≤ 600) (h : s.group? g.toNat = none) :
    runCycleGroup g w s = refuse s .notMember 0 := by
  have hrange : ¬ (!inRange 0 600 w.toNat) = true := by simp [inRange]; omega
  rw [runCycleGroup, whenRunning_runs _ hrunning, h]
  exact (if_neg hg).trans (if_neg hrange)

theorem runCycleGroup_of_entry (hrunning : s.phase = .running) (hg : g ≠ 0) (hw : w.toNat ≤ 600) (h : s.group? g.toNat = some e) :
    runCycleGroup g w s = s.originate e w.toNat := by
  have hrange : ¬ (!inRange 0 600 w.toNat) = true := by simp [inRange]; omega
  rw [runCycleGroup, whenRunning_runs _ hrunning, h]
  exact (if_neg hg).trans (if_neg hrange)

variable (dwell : Nat)

theorem originate_in_cycle (h : (s.cycle? e.group).isSome = true ∨ e.pendingTag.isSome = true) : s.originate e dwell = refuse s .inCycle 0 := by
  have hcycle : ((s.cycle? e.group).isSome || e.pendingTag.isSome) = true := by simpa using h
  exact if_pos hcycle

theorem originate_lost (hcycle : s.cycle? e.group = none) (hpending : e.pendingTag = none) {k : StationId} (hk : hasNumber e.roster k = true)
    (hlost : (s.peer k).state = .lost) (hfirst : ∀ j, j < k → hasNumber e.roster j = true → (s.peer j).state ≠ .lost) :
    s.originate e dwell = refuse s .rosterLost k.val := by
  have hlowest : lowestNumber (s.lostOf e.roster) = some k := by
    refine lowestNumber_first _ k ((hasNumber_lostOf s e.roster k).2 ⟨hk, hlost⟩) (fun j hj => ?_)
    rw [Bool.eq_false_iff, ne_eq, hasNumber_lostOf]
    exact fun h => hfirst j hj h.1 h.2
  rw [State.originate, hcycle, hpending, hlowest]
  rfl

theorem lowestNumber_lostOf (hroster : ∀ k, hasNumber e.roster k = true → (s.peer k).state ≠ .lost) :
    lowestNumber (s.lostOf e.roster) = none := by
  refine lowestNumber_none _ (fun j => ?_)
  rw [Bool.eq_false_iff, ne_eq, hasNumber_lostOf]
  exact fun h => hroster j h.1 h.2

theorem originate_link_down (hcycle : s.cycle? e.group = none) (hpending : e.pendingTag = none)
    (hroster : ∀ k, hasNumber e.roster k = true → (s.peer k).state ≠ .lost) (hlink : s.link.state ≠ .active) :
    s.originate e dwell = refuse s .linkDown 0 := by
  rw [State.originate, hcycle, hpending, lowestNumber_lostOf hroster]
  exact (if_neg Bool.false_ne_true).trans (if_pos hlink)

theorem originate_link_busy (hcycle : s.cycle? e.group = none) (hpending : e.pendingTag = none)
    (hroster : ∀ k, hasNumber e.roster k = true → (s.peer k).state ≠ .lost) (hlink : s.link.state = .active)
    (hfull : 30 ≤ ordinaryCount s.link.queue) : s.originate e dwell = refuse s .linkBusy 0 := by
  rw [State.originate, hcycle, hpending, lowestNumber_lostOf hroster, offer_of_full _ _ hfull, notTakenCode_of_open (by rw [hlink]; rfl)]
  exact (if_neg Bool.false_ne_true).trans (if_neg (fun h => h hlink))

theorem originate_taken (hcycle : s.cycle? e.group = none) (hpending : e.pendingTag = none)
    (hroster : ∀ k, hasNumber e.roster k = true → (s.peer k).state ≠ .lost) (hlink : s.link.state = .active)
    (hroom : ordinaryCount s.link.queue < 30) :
    s.originate e dwell = accept ((s.insertFrame plainUrgency (.openGroup (s.openGroupFor e dwell))).originated e s.nextTag) := by
  rw [State.originate, hcycle, hpending, lowestNumber_lostOf hroster, offer_of_room _ _ (by rw [hlink]; rfl) hroom]
  exact (if_neg Bool.false_ne_true).trans (if_neg (fun h => h hlink))

theorem originated_eq (s : State) (e : GroupEntry) (tag : Tag) :
    s.originated e tag = { s with
      groups := s.groups.map (fun x => if x.group = e.group then { x with pendingTag := some tag } else x)
      seq := s.seq + 1 } := rfl

/-- The OPEN-GROUP of an accepted CYCLE GROUP stands in the queue, its tag pending (R139). -/
theorem writeResult_originated (s : State) (e : GroupEntry) (f : PeerFrame) (tag : Tag) :
    ((s.openFrame.insertFrame plainUrgency f).originated e tag).writeResult okSlot = { s with
      port := s.portAfter ⟨.ok, 0⟩
      link := { s.link with queue := insertByKey (queuedFrame 7 s.station f) s.link.queue }
      groups := s.groups.map (fun x => if x.group = e.group then { x with pendingTag := some tag } else x)
      seq := s.seq + 1 } := by
  rw [originated_eq]
  rfl

end

/-- Settles O27, check by check in the opened frame. -/
theorem cycleGroupQueuesOneOpenGroup : Obligations.CycleGroupQueuesOneOpenGroup := by
  unfold Obligations.CycleGroupQueuesOneOpenGroup
  intro g w s hframe
  rw [exec_cycleGroup hframe]
  refine ⟨fun hphase => ?phase, fun hrunning hg => ?zero, fun hrunning hg hw => ?dwell, fun hrunning hg hw => ⟨fun h => ?notMember, fun e he => ?entry⟩⟩
  case phase => exact writeResult_of_refused (whenRunning_refuses (s := s.openFrame) _ hphase)
  case zero => subst hg; exact writeResult_of_refused (runCycleGroup_zero (s := s.openFrame) hrunning w)
  case dwell => exact writeResult_of_refused (runCycleGroup_bad_dwell (s := s.openFrame) hrunning hg hw)
  case notMember => exact writeResult_of_refused (runCycleGroup_not_member (s := s.openFrame) hrunning hg hw h)
  case entry =>
    have hgroup : e.group = g.toNat := group_of_find he
    rw [runCycleGroup_of_entry (s := s.openFrame) hrunning hg hw he, ← hgroup]
    refine ⟨fun h => ?inCycle, fun hcycle hpending => ⟨fun k hk hlost hfirst => ?lost, fun hroster =>
      ⟨fun hlink => ?linkDown, fun hlink hfull => ?linkBusy, fun hlink hroom => ?taken⟩⟩⟩
    case inCycle => exact writeResult_of_refused (originate_in_cycle (s := s.openFrame) w.toNat h)
    case lost => exact writeResult_of_refused (originate_lost (s := s.openFrame) w.toNat hcycle hpending hk hlost hfirst)
    case linkDown => exact writeResult_of_refused (originate_link_down (s := s.openFrame) w.toNat hcycle hpending hroster hlink)
    case linkBusy => exact writeResult_of_refused (originate_link_busy (s := s.openFrame) w.toNat hcycle hpending hroster hlink hfull)
    case taken => rw [originate_taken (s := s.openFrame) w.toNat hcycle hpending hroster hlink hroom]; exact congrArg Host.Outcome.next (writeResult_originated s e _ _)

/-! ## ABORT GROUP (R152) -/

theorem exec_abortGroup {s : State} (hframe : s.takesHostFrames = true) (g : Byte) :
    exec (.abortGroup 16 g) s = .next ((runAbortGroup g s.openFrame).1.writeResult (runAbortGroup g s.openFrame).2) :=
  congrArg Host.Outcome.next (atRising_runFrame hframe 1 (runAbortGroup g))

section
variable {g : Byte} {s : State} {r : CycleRecord}

theorem runAbortGroup_zero (hrunning : s.phase = .running) : runAbortGroup 0 s = refuse s .badArg 1 := by
  rw [runAbortGroup, whenRunning_runs _ hrunning]
  exact if_pos rfl

theorem runAbortGroup_not_member (hrunning : s.phase = .running) (hg : g ≠ 0) (h : s.group? g.toNat = none) :
    runAbortGroup g s = refuse s .notMember 0 := by
  rw [runAbortGroup, whenRunning_runs _ hrunning, if_neg hg, h]

theorem runAbortGroup_of_entry (hrunning : s.phase = .running) (hg : g ≠ 0) (h : (s.group? g.toNat).isSome = true) :
    runAbortGroup g s = (s.hostAbort g.toNat).issuing := by
  obtain ⟨e, he⟩ := Option.isSome_iff_exists.1 h
  rw [runAbortGroup, whenRunning_runs _ hrunning, if_neg hg, he]

theorem hostAbort_of_idle {n : Nat} (h : s.cycle? n = none) : s.hostAbort n = refuse s .badState 0 := by rw [State.hostAbort, h]

theorem hostAbort_of_onPhase {n : Nat} (h : s.cycle? n = some r) (hphase : r.phase = .onPhase) : s.hostAbort n = refuse s .late 0 := by
  simp only [State.hostAbort, h, hphase]

theorem hostAbort_of_restoring {n : Nat} (h : s.cycle? n = some r) (hphase : r.phase = .restoringAbort) : s.hostAbort n = accept s := by
  simp only [State.hostAbort, h, hphase]

theorem hostAbort_of_open {n : Nat} (h : s.cycle? n = some r) (hphase : r.phase = .offPhase ∨ r.phase = .dwell) :
    s.hostAbort n = accept (s.offerAbort n .host) := by
  rcases hphase with hphase | hphase <;> simp only [State.hostAbort, h, hphase]

theorem offerAbort_of_offered {n : Nat} (reason : AbortReason) (h : s.cycle? n = some r) (hoffered : r.abortOffered = true) :
    s.offerAbort n reason = s := by
  simp only [State.offerAbort, h, hoffered, if_true]

/-- The one GROUP-ABORT of a cycle, put into a queue that takes it (R77, R78). -/
theorem offerAbort_taken {n : Nat} (reason : AbortReason) (h : s.cycle? n = some r) (hoffered : r.abortOffered = false)
    (hidle : s.link.sending = none) (hlink : s.link.state.takesFrames = true) (hnone : ∀ x ∈ s.link.queue, isAbortOf r.tag x.frame = false)
    (hroom : ordinaryCount (s.link.queue.filter (fun x => !isCycleFrameOf r.tag x.frame)) < 30) :
    s.offerAbort n reason = { s with
      records := s.records.map (fun x => if x.group = n then { x with abortOffered := true } else x)
      link := { s.link with
        queue := insertByKey (queuedFrame 7 s.station (.groupAbort ⟨r.tag, n, reason⟩))
          (s.link.queue.filter (fun x => !isCycleFrameOf r.tag x.frame)) } } := by
  have hgroup : r.group = n := cycle_group h
  have hno : (s.link.queue.filter (fun x => !isCycleFrameOf r.tag x.frame)).any (fun x => isAbortOf r.tag x.frame) = false := by
    rw [List.any_eq_false]
    intro x hx
    rw [hnone x (List.mem_filter.1 hx).1]
    exact Bool.false_ne_true
  have hqueued : s.queueAbort r reason = some (State.insertFrame { s with
      records := s.records.map (fun x => if x.group = n then { x with abortOffered := true } else x)
      link := { s.link with queue := s.link.queue.filter (fun x => !isCycleFrameOf r.tag x.frame) } } 7 (.groupAbort ⟨r.tag, n, reason⟩)) := by
    simp only [State.queueAbort, removeFrames_of_idle hidle, State.modRecord, hno, hgroup, Bool.false_eq_true, if_false]
    exact offer_of_room _ _ hlink hroom
  simp only [State.offerAbort, h, hoffered, hqueued, Bool.false_eq_true, if_false]
  rfl

/-- An accepted ABORT GROUP writes OK, and the claims it makes issuable follow (log 18). -/
theorem abort_accepted {a : Answer} {u : State} (h : a = accept u) :
    Host.Outcome.next (a.issuing.1.writeResult a.issuing.2) = (Host.Outcome.next (u.writeResult okSlot).issueClaims : Result) := by
  rw [h, accepted_issues]

theorem abort_refused {s : State} {a : Answer} {code : ResultCode} (hcode : code ≠ .ok) (h : a = refuse s.openFrame code 0) :
    Host.Outcome.next (a.issuing.1.writeResult a.issuing.2) = (Host.Outcome.next (s.answered code 0) : Result) := by
  rw [h, issuing_refuse _ hcode]
  rfl

end

/-- Settles O28, by the phase of the cycle. -/
theorem abortGroupActsByPhaseOfTheCycle : Obligations.AbortGroupActsByPhaseOfTheCycle := by
  unfold Obligations.AbortGroupActsByPhaseOfTheCycle
  intro g s hframe
  rw [exec_abortGroup hframe]
  refine ⟨fun hphase => ?phase, fun hrunning hg => ?zero, fun hrunning hg => ⟨fun h => ?notMember, fun hentry => ?entry⟩⟩
  case phase => exact writeResult_of_refused (whenRunning_refuses (s := s.openFrame) _ hphase)
  case zero => subst hg; exact writeResult_of_refused (runAbortGroup_zero (s := s.openFrame) hrunning)
  case notMember => exact writeResult_of_refused (runAbortGroup_not_member (s := s.openFrame) hrunning hg h)
  case entry =>
    rw [runAbortGroup_of_entry (s := s.openFrame) hrunning hg hentry]
    refine ⟨fun h => ?idle, fun r h => ⟨fun hphase => ?onPhase, fun hphase => ?restoring, fun hphase => ⟨fun hoffered => ?offered,
      fun hoffered hidle hlink hnone hroom => ?taken, fun hoffered => ?general⟩⟩⟩
    case idle => exact abort_refused nofun (hostAbort_of_idle (s := s.openFrame) h)
    case onPhase => exact abort_refused nofun (hostAbort_of_onPhase (s := s.openFrame) h hphase)
    case restoring => exact abort_accepted (hostAbort_of_restoring (s := s.openFrame) h hphase)
    case offered =>
      rw [abort_accepted (hostAbort_of_open (s := s.openFrame) h hphase), offerAbort_of_offered (s := s.openFrame) .host h hoffered]
      rfl
    case taken =>
      rw [abort_accepted (hostAbort_of_open (s := s.openFrame) h hphase),
        offerAbort_taken (s := s.openFrame) .host h hoffered hidle hlink hnone hroom]
      rfl
    case general => exact abort_accepted (hostAbort_of_open (s := s.openFrame) h hphase)

end Sys2Proof.Machine
end

section
/-! PROOFS. SET PROTECT and FORGET PEER (R22, R23, R100). -/

namespace Sys2Proof.Machine
open Sys2Proof

/-! ## The lowest outlet that has a property -/

theorem allOutlets_split (o : OutletId) : ∃ before after, allOutlets = before ++ o :: after ∧ ∀ p ∈ before, p < o := by
  have hsplit : ∀ o : OutletId, allOutlets = allOutlets.take o.val ++ o :: allOutlets.drop (o.val + 1) ∧ ∀ p ∈ allOutlets.take o.val, p < o := by
    decide
  exact ⟨_, _, hsplit o⟩

theorem find_lowest_outlet {p : OutletId → Bool} {o : OutletId} (h : p o = true) (hlow : ∀ q, q < o → p q = false) :
    allOutlets.find? p = some o := by
  obtain ⟨before, after, hsplit, hbefore⟩ := allOutlets_split o
  rw [List.find?_eq_some_iff_append]
  exact ⟨h, before, after, hsplit, fun q hq => by simp [hlow q (hbefore q hq)]⟩

theorem find_no_outlet {p : OutletId → Bool} (h : ∀ o, p o = false) : allOutlets.find? p = none := by
  rw [List.find?_eq_none]
  exact fun o _ => by simp [h o]

/-! ## SET PROTECT (R22, R23) -/

/-- A new protected set adds this outlet (R23). -/
def State.adds (s : State) (set : OutletSet) (o : OutletId) : Prop := hasOutlet set o = true ∧ (s.outlet o).isProtected = false

theorem find_added (s : State) (set : OutletSet) (p : OutletId → Bool) :
    (s.added set).find? p = allOutlets.find? (fun o => hasOutlet set o && !(s.outlet o).isProtected && p o) := by
  rw [State.added, List.find?_filter]
  simp only [Bool.decide_and, Bool.decide_eq_true]

theorem adds_iff (s : State) (set : OutletSet) (o : OutletId) :
    (hasOutlet set o && !(s.outlet o).isProtected) = true ↔ s.adds set o := by
  simp [State.adds]

/-- The lowest outlet that the set would add and that has the property. -/
theorem find_added_lowest {s : State} {set : OutletSet} {p : OutletId → Bool} {o : OutletId} (hadds : s.adds set o) (h : p o = true)
    (hlow : ∀ q, q < o → s.adds set q → p q = false) : (s.added set).find? p = some o := by
  rw [find_added]
  refine find_lowest_outlet ?_ (fun q hq => ?_)
  · rw [(adds_iff s set o).2 hadds, h]
    rfl
  · rw [Bool.and_eq_false_iff]
    by_cases hq' : s.adds set q
    · exact Or.inr (hlow q hq hq')
    · exact Or.inl (by rw [Bool.eq_false_iff, ne_eq, adds_iff]; exact hq')

theorem find_added_none {s : State} {set : OutletSet} {p : OutletId → Bool} (h : ∀ o, s.adds set o → p o = false) :
    (s.added set).find? p = none := by
  rw [find_added]
  refine find_no_outlet (fun o => ?_)
  rw [Bool.and_eq_false_iff]
  by_cases hadds : s.adds set o
  · exact Or.inr (h o hadds)
  · exact Or.inl (by rw [Bool.eq_false_iff, ne_eq, adds_iff]; exact hadds)

/-- An outlet with work of a host command pending (R23). -/
theorem isBusy_iff (x : Outlet) : x.isBusy = true ↔ x.target ≠ .none ∨ (∃ d, x.cycle = .localCycle d) ∨ x.state = .opening := by
  have hcycle : cycleMemberCode x.cycle = 1 ↔ ∃ d, x.cycle = .localCycle d := by cases x.cycle <;> simp [cycleMemberCode]
  simp [Outlet.isBusy, hcycle, or_assoc]

section
variable {s : State} {set : OutletSet}

theorem lockHonoured_eq_false (h : s.lke = false ∨ s.lockSample = false) : s.lockHonoured = false := by
  rcases h with h | h <;> simp [State.lockHonoured, h]

theorem runSetProtect_in_cycle (hlock : s.lockHonoured = false) {o : OutletId} (hadds : s.adds set o) (h : (s.outlet o).cycle = .group)
    (hlow : ∀ q, q < o → s.adds set q → (s.outlet q).cycle ≠ .group) : runSetProtect set s = refuse s .inCycle (o.val + 1) := by
  have hfind := find_added_lowest (p := fun o => decide ((s.outlet o).cycle = .group)) hadds (decide_eq_true h)
    (fun q hq hq' => decide_eq_false (hlow q hq hq'))
  simp only [runSetProtect, hlock, hfind]
  rfl

theorem runSetProtect_busy (hlock : s.lockHonoured = false) (hfree : ∀ o, s.adds set o → (s.outlet o).cycle ≠ .group) {o : OutletId}
    (hadds : s.adds set o) (h : (s.outlet o).isBusy = true) (hlow : ∀ q, q < o → s.adds set q → (s.outlet q).isBusy = false) :
    runSetProtect set s = refuse s .busy (o.val + 1) := by
  have hnone := find_added_none (p := fun o => decide ((s.outlet o).cycle = .group)) (fun q hq => decide_eq_false (hfree q hq))
  have hfind := find_added_lowest (p := fun o => (s.outlet o).isBusy) hadds h hlow
  simp only [runSetProtect, hlock, hnone, hfind]
  rfl

theorem runSetProtect_accepted (hlock : s.lockHonoured = false) (hfree : ∀ o, s.adds set o → (s.outlet o).cycle ≠ .group)
    (hidle : ∀ o, s.adds set o → (s.outlet o).isBusy = false) : runSetProtect set s = accept (s.protect set) := by
  have hnone := find_added_none (p := fun o => decide ((s.outlet o).cycle = .group)) (fun q hq => decide_eq_false (hfree q hq))
  have hnone' := find_added_none (p := fun o => (s.outlet o).isBusy) hidle
  simp only [runSetProtect, hlock, hnone, hnone']
  rfl

theorem protect_outlet (s : State) (set : OutletSet) (o : OutletId) :
    (s.protect set).outlet o = { s.outlet o with isProtected := hasOutlet set o } := by
  simp [State.protect, State.outlet, hasOutlet]

end

/-- Settles O30: of the outlets that the set would add, the lowest in the way decides. -/
theorem setProtectReplacesTheSet : Obligations.SetProtectReplacesTheSet := by
  unfold Obligations.SetProtectReplacesTheSet
  intro set s added hframe hadded
  obtain rfl : added = s.adds set := hadded
  rw [exec_setProtect hframe]
  refine ⟨fun hlke hlock => ?locked, fun hunlocked => ?unlocked⟩
  case locked => exact writeResult_of_refused (runSetProtect_of_locked (s := s.openFrame) hlke hlock set)
  case unlocked =>
    have hlock : s.openFrame.lockHonoured = false := lockHonoured_eq_false (s := s.openFrame) hunlocked
    refine ⟨fun o hadds hgroup hlow => ?inCycle, fun hfree busy hbusy => ?free⟩
    case inCycle => exact writeResult_of_refused (runSetProtect_in_cycle hlock hadds hgroup hlow)
    case free =>
      have hbusy_iff (o : OutletId) : busy o ↔ s.adds set o ∧ (s.outlet o).isBusy = true := by rw [hbusy, isBusy_iff]
      refine ⟨fun o ho hlow => ?busy, fun hnone => ?accepted⟩
      case busy =>
        obtain ⟨hadds, hisBusy⟩ := (hbusy_iff o).1 ho
        refine writeResult_of_refused (runSetProtect_busy hlock hfree hadds hisBusy (fun q hq hq' => ?_))
        exact Bool.eq_false_iff.2 (fun h => hlow q hq ((hbusy_iff q).2 ⟨hq', h⟩))
      case accepted =>
        rw [runSetProtect_accepted hlock hfree (fun q hq' => Bool.eq_false_iff.2 (fun h => hnone q ((hbusy_iff q).2 ⟨hq', h⟩)))]
        exact ⟨{ s.answered .ok 0 with outlets := (s.protect set).outlets }, rfl, rfl, protect_outlet s set⟩

/-! ## FORGET PEER (R100) -/

theorem exec_forgetPeer {s : State} (hframe : s.takesHostFrames = true) (n : Byte) :
    exec (.forgetPeer 16 n) s = .next ((runForgetPeer n s.openFrame).1.writeResult (runForgetPeer n s.openFrame).2) :=
  congrArg Host.Outcome.next (atRising_runFrame hframe 1 (runForgetPeer n))

theorem stationArg_of_number {n : Byte} {k : StationId} (h : n.toNat = k.val) : stationArg n = some k := by
  have hk := k.isLt
  rw [stationArg_in_range (by omega)]
  exact congrArg some (Fin.ext (by simp [h]))

section
variable {n : Byte} {s : State} {k : StationId}

/-- No station, or the own one, is named (log 11). -/
theorem runForgetPeer_bad_number (hrunning : s.phase = .running) (h : 15 < n.toNat ∨ n.toNat = s.station.val) :
    runForgetPeer n s = refuse s .badArg 1 := by
  rw [runForgetPeer, whenRunning_runs _ hrunning]
  rcases h with h | h
  · rw [stationArg_out_of_range h]
  · rw [stationArg_of_number h]
    exact if_pos rfl

theorem runForgetPeer_live (hrunning : s.phase = .running) (hn : n.toNat = k.val) (hother : k ≠ s.station) (hlive : (s.peer k).state = .live) :
    runForgetPeer n s = refuse s .peerLive 0 := by
  rw [runForgetPeer, whenRunning_runs _ hrunning, stationArg_of_number hn]
  exact (if_neg hother).trans (if_pos hlive)

theorem runForgetPeer_not_taken (hrunning : s.phase = .running) (hn : n.toNat = k.val) (hother : k ≠ s.station) (hlive : (s.peer k).state ≠ .live)
    (hoffer : s.offer plainUrgency (.forget k) = none) : runForgetPeer n s = refuse s s.notTakenCode 0 := by
  rw [runForgetPeer, whenRunning_runs _ hrunning, stationArg_of_number hn]
  simp only [hother, hlive, hoffer, if_false]

theorem runForgetPeer_taken (hrunning : s.phase = .running) (hn : n.toNat = k.val) (hother : k ≠ s.station) (hlive : (s.peer k).state ≠ .live)
    {t : State} (hoffer : s.offer plainUrgency (.forget k) = some t) : runForgetPeer n s = accept t := by
  rw [runForgetPeer, whenRunning_runs _ hrunning, stationArg_of_number hn]
  simp only [hother, hlive, hoffer, if_false]

end

theorem takesFrames_of_open {l : LinkState} (h : l = .joining ∨ l = .active) : l.takesFrames = true := by
  rcases h with rfl | rfl <;> rfl

theorem takesFrames_of_closed {l : LinkState} (hjoining : l ≠ .joining) (hactive : l ≠ .active) : l.takesFrames = false := by
  cases l <;> first | rfl | exact absurd rfl hjoining | exact absurd rfl hactive

/-- Settles O31, check by check in the opened frame. -/
theorem forgetPeerQueuesOneForget : Obligations.ForgetPeerQueuesOneForget := by
  unfold Obligations.ForgetPeerQueuesOneForget
  intro n s hframe
  rw [exec_forgetPeer hframe]
  refine ⟨fun hphase => ?phase, fun hrunning hbad => ?number, fun hrunning k hn hother => ⟨fun hlive => ?live, fun hlive =>
    ⟨fun hjoining hactive => ?linkDown, fun hopen => ⟨fun hfull => ?linkBusy, fun hroom => ?taken⟩⟩⟩⟩
  case phase => exact writeResult_of_refused (whenRunning_refuses (s := s.openFrame) _ hphase)
  case number => exact writeResult_of_refused (runForgetPeer_bad_number (s := s.openFrame) hrunning hbad)
  case live => exact writeResult_of_refused (runForgetPeer_live (s := s.openFrame) hrunning hn hother hlive)
  case linkDown =>
    have hclosed : s.openFrame.link.state.takesFrames = false := takesFrames_of_closed hjoining hactive
    rw [runForgetPeer_not_taken (s := s.openFrame) hrunning hn hother hlive (offer_of_closed _ _ hclosed), notTakenCode_of_closed hclosed]
    rfl
  case linkBusy =>
    have htakes : s.openFrame.link.state.takesFrames = true := takesFrames_of_open hopen
    rw [runForgetPeer_not_taken (s := s.openFrame) hrunning hn hother hlive (offer_of_full (s := s.openFrame) _ _ hfull),
      notTakenCode_of_open htakes]
    rfl
  case taken =>
    have htakes : s.openFrame.link.state.takesFrames = true := takesFrames_of_open hopen
    rw [runForgetPeer_taken (s := s.openFrame) hrunning hn hother hlive (offer_of_room (s := s.openFrame) _ _ htakes hroom)]
    rfl

end Sys2Proof.Machine
end

section
/-! PROOFS. The configuration commands: the check of the phase, of the item number and of the fields in order, and what is replaced (R163 to R168). -/

namespace Sys2Proof.Machine
open Sys2Proof

/-! ## Checks -/

/-- A field's check asks whether its value lies in its range (R189). -/
def fieldOk (f : Nat × Nat × Nat) : Bool := inRange f.1 f.2.1 f.2.2

theorem fieldOk_iff (f : Nat × Nat × Nat) : fieldOk f = true ↔ lies f := by simp [fieldOk, inRange]

/-- The position reported is that of the first field out of range (R163). -/
theorem firstOut_of_first {before after : List (Nat × Nat × Nat)} {f : Nat × Nat × Nat} (hbefore : ∀ g ∈ before, lies g) (hf : ¬ lies f) :
    firstOut ((before ++ f :: after).map fieldOk) = some (before.length + 1) := by
  induction before with
  | nil =>
    have hbad : fieldOk f = false := by rw [Bool.eq_false_iff, ne_eq, fieldOk_iff]; exact hf
    simp [firstOut, hbad]
  | cons g before ih =>
    have hgood : fieldOk g = true := (fieldOk_iff g).2 (hbefore g List.mem_cons_self)
    have hrest := ih (fun g hg => hbefore g (List.mem_cons_of_mem _ hg))
    rw [List.cons_append, List.map_cons, firstOut, hgood, hrest]
    rfl

theorem firstOut_of_all {fields : List (Nat × Nat × Nat)} (h : ∀ f ∈ fields, lies f) : firstOut (fields.map fieldOk) = none := by
  induction fields with
  | nil => rfl
  | cons f fields ih =>
    have hgood : fieldOk f = true := (fieldOk_iff f).2 (h f List.mem_cons_self)
    simp [firstOut, hgood, ih (fun g hg => h g (List.mem_cons_of_mem _ hg))]

theorem whenInRange_refuses {fields : List (Nat × Nat × Nat)} {n : Nat} (h : firstOut (fields.map fieldOk) = some n) (s : State)
    (run : State → Answer) : whenInRange (fields.map fieldOk) s run = refuse s .badArg n := by
  rw [whenInRange, h]

theorem whenInRange_runs {fields : List (Nat × Nat × Nat)} (h : ∀ f ∈ fields, lies f) (s : State) (run : State → Answer) :
    whenInRange (fields.map fieldOk) s run = run s := by
  rw [whenInRange, firstOut_of_all h]

theorem whenConfiguring_refuses {s : State} (run : State → Answer) (h : s.phase = .running) : whenConfiguring run s = refuse s .phase 0 := by
  rw [whenConfiguring, h]
  rfl

theorem profileArg_out_of_range {x : Byte} (h : 3 < x.toNat) : profileArg x = none := dif_neg (by omega)

theorem profileArg_of_number {x : Byte} {k : Fin 4} (h : k.val = x.toNat) : profileArg x = some k := by
  have hk := k.isLt
  rw [profileArg, dif_pos (by omega)]
  exact congrArg some (Fin.ext h.symm)

theorem bankArg_of_number {x : Byte} {b : Bank} (h : bankNo b = x.toNat) : bankArg x = some b := by
  cases b <;> simp only [bankNo] at h <;> simp [bankArg, bankOfCode, ← h]

/-- How a configuration command runs: its item is checked, then its fields in order, in CONFIGURING (R163). -/
structure ChecksItem (item : Nat × Nat × Nat) (fields : List (Nat × Nat × Nat)) (run : State → Answer) : Prop where
  itemChecked : ∀ s, ¬ lies item → run s = refuse s .badArg 0
  fieldsChecked : ∀ s, lies item → ∃ act, run s = whenInRange (fields.map fieldOk) s act

/-- Every configuration command is an action that runs in CONFIGURING and checks its item and its fields. -/
theorem config_course {c : Instr} {item : Nat × Nat × Nat} {fields : List (Nat × Nat × Nat)} (h : configFields c = some (item, fields)) :
    ∃ bits args run, course c = .action bits args (whenConfiguring run) ∧ ChecksItem item fields run := by
  cases c with
  | setBoard bits a =>
    cases h
    exact ⟨bits, 13, _, rfl, fun s hitem => absurd ⟨Nat.le_refl 0, Nat.le_refl 0⟩ hitem, fun s _ => ⟨_, rfl⟩⟩
  | setBank bits a =>
    cases h
    refine ⟨bits, 5, _, rfl, fun s hitem => ?_, fun s hitem => ?_⟩
    · have hout : 2 < a.bank.toNat := by simp only [lies] at hitem; omega
      rw [bankArg_out_of_range hout]
    · obtain ⟨b, hb, -⟩ := bankArg_in_range (x := a.bank) hitem.2
      exact ⟨fun s => accept (s.setBankConfig b (bankOfArgs a)), by rw [hb]; rfl⟩
  | setProfile bits a =>
    cases h
    refine ⟨bits, 9, _, rfl, fun s hitem => ?_, fun s hitem => ?_⟩
    · have hout : 3 < a.profile.toNat := by simp only [lies] at hitem; omega
      rw [profileArg_out_of_range hout]
    · have hprofile : a.profile.toNat < 4 := Nat.lt_succ_of_le hitem.2
      exact ⟨_, by rw [profileArg_of_number (k := ⟨a.profile.toNat, hprofile⟩) rfl]; rfl⟩
  | setOutlet bits a =>
    cases h
    refine ⟨bits, 8, _, rfl, fun s hitem => ?_, fun s hitem => ?_⟩
    · have hout : a.outlet.toNat < 1 ∨ 24 < a.outlet.toNat := by simp only [lies] at hitem; omega
      rw [outletArg_out_of_range hout]
    · exact ⟨_, by rw [outletArg_in_range hitem.1 hitem.2]; rfl⟩
  | setGroup bits a =>
    cases h
    have hbyte := a.group.isLt
    refine ⟨bits, 4, _, rfl, fun s hitem => ?_, fun s hitem => ?_⟩
    · have hzero : a.group = 0 := by simp only [lies] at hitem; apply BitVec.eq_of_toNat_eq; simp; omega
      exact if_pos hzero
    · have hnonzero : a.group ≠ 0 := by intro hzero; rw [hzero] at hitem; exact absurd hitem.1 (by decide)
      exact ⟨_, if_neg hnonzero⟩
  | _ => cases h

/-- A frame of the right length of an action runs it in the opened frame. -/
theorem exec_action {c : Instr} {bits args : Nat} {run : State → Answer} (hc : course c = .action bits args run)
    (hlength : actionLengthOk bits args = true) {s : State} (hframe : s.takesHostFrames = true) :
    exec c s = .next ((run s.openFrame).1.writeResult (run s.openFrame).2) := by
  obtain rfl : bits = 8 * (1 + args) := of_decide_eq_true hlength
  rw [exec_course, hc]
  exact congrArg Host.Outcome.next (atRising_runFrame hframe args run)

/-- Settles O32. -/
theorem configurationCommandsAreChecked : Obligations.ConfigurationCommandsAreChecked := by
  unfold Obligations.ConfigurationCommandsAreChecked
  intro c item fields s bits h hhost hframe
  obtain ⟨n, args, run, hc, hchecks⟩ := config_course h
  rw [hostFrame_eq, hc] at hhost
  obtain ⟨-, hlength⟩ := Prod.mk.inj (Option.some.inj hhost)
  rw [exec_action hc hlength hframe]
  refine ⟨fun hrunning => ?phase, fun hconfiguring hitem => ?item, fun hconfiguring hitem before f after hfields hbefore hf => ?field⟩
  case phase => exact writeResult_of_refused (whenConfiguring_refuses (s := s.openFrame) run hrunning)
  case item =>
    rw [whenConfiguring_of_configuring (s := s.openFrame) run hconfiguring]
    exact writeResult_of_refused (hchecks.itemChecked _ hitem)
  case field =>
    obtain ⟨act, hrun⟩ := hchecks.fieldsChecked s.openFrame hitem
    subst hfields
    rw [whenConfiguring_of_configuring (s := s.openFrame) run hconfiguring, hrun]
    exact writeResult_of_refused (whenInRange_refuses (firstOut_of_first hbefore hf) _ _)

end Sys2Proof.Machine
end

section
/-! PROOFS. What a configuration command that passes its checks replaces (R135, R164 to R168). -/

namespace Sys2Proof.Machine
open Sys2Proof

/-! ## The configuration commands run -/

section
variable {s : State} (hframe : s.takesHostFrames = true)
include hframe

theorem exec_setBoard (a : BoardArgs) :
    exec (.setBoard 112 a) s = .next ((runSetBoard a s.openFrame).1.writeResult (runSetBoard a s.openFrame).2) :=
  exec_action (c := .setBoard 112 a) (args := 13) rfl rfl hframe

theorem exec_setBank (a : BankArgs) :
    exec (.setBank 48 a) s = .next ((runSetBank a s.openFrame).1.writeResult (runSetBank a s.openFrame).2) :=
  exec_action (c := .setBank 48 a) (args := 5) rfl rfl hframe

theorem exec_setProfile (a : ProfileArgs) :
    exec (.setProfile 80 a) s = .next ((runSetProfile a s.openFrame).1.writeResult (runSetProfile a s.openFrame).2) :=
  exec_action (c := .setProfile 80 a) (args := 9) rfl rfl hframe

theorem exec_setOutlet (a : OutletArgs) :
    exec (.setOutlet 72 a) s = .next ((runSetOutlet a s.openFrame).1.writeResult (runSetOutlet a s.openFrame).2) :=
  exec_action (c := .setOutlet 72 a) (args := 8) rfl rfl hframe

theorem exec_setGroup (a : GroupArgs) :
    exec (.setGroup 40 a) s = .next ((runSetGroup a s.openFrame).1.writeResult (runSetGroup a s.openFrame).2) :=
  exec_action (c := .setGroup 40 a) (args := 4) rfl rfl hframe

end

/-! ## SET BOARD, SET BANK, SET PROFILE (R164 to R166) -/

section
variable {s : State} {item : Nat × Nat × Nat} {fields : List (Nat × Nat × Nat)}

theorem runSetBoard_in_range (hconfiguring : s.phase = .configuring) {a : BoardArgs} {bits : Nat}
    (h : configFields (.setBoard bits a) = some (item, fields)) (hfields : ∀ f ∈ fields, lies f) :
    runSetBoard a s = accept { s with cfg := boardOf a } := by
  cases h
  exact (whenConfiguring_of_configuring _ hconfiguring).trans (whenInRange_runs hfields s (fun s => accept { s with cfg := boardOf a }))

theorem runSetBank_in_range (hconfiguring : s.phase = .configuring) {a : BankArgs} {bits : Nat} {b : Bank} (hb : bankNo b = a.bank.toNat)
    (h : configFields (.setBank bits a) = some (item, fields)) (hfields : ∀ f ∈ fields, lies f) :
    runSetBank a s = accept (s.setBankConfig b (bankOfArgs a)) := by
  cases h
  rw [runSetBank, whenConfiguring_of_configuring _ hconfiguring, bankArg_of_number hb]
  exact whenInRange_runs hfields s (fun s => accept (s.setBankConfig b (bankOfArgs a)))

theorem runSetProfile_in_range (hconfiguring : s.phase = .configuring) {a : ProfileArgs} {bits : Nat} {k : Fin 4} (hk : k.val = a.profile.toNat)
    (h : configFields (.setProfile bits a) = some (item, fields)) (hfields : ∀ f ∈ fields, lies f) :
    runSetProfile a s = accept { s with profiles := s.profiles.set k (profileOf a) } := by
  cases h
  rw [runSetProfile, whenConfiguring_of_configuring _ hconfiguring, profileArg_of_number hk]
  exact whenInRange_runs hfields s (fun s => accept { s with profiles := s.profiles.set k (profileOf a) })

/-- The overload record of a branch that the map starts or stops using has the reset values (R124). -/
theorem setBankConfig_over (s : State) (b : Bank) (x : BankConfig) (n : BranchId) :
    (s.setBankConfig b x).over n = if s.uses n = (s.setBankConfig b x).uses n then s.over n else ⟨.clear, none, 0, false⟩ := by
  have hn : Fin.ofNat 16 n.val = n := Fin.ext (Nat.mod_eq_of_lt n.isLt)
  show (Tab.mapIdx _ s.overload).get n = _
  rw [Tab.get_mapIdx, hn]
  rfl

theorem alignmentOf_byte (x : Byte) : alignmentOf x.toNat = if x = 0 then .none else if x = 1 then .zero else .strict := by
  have hzero : x.toNat = 0 ↔ x = 0 := ⟨fun h => BitVec.eq_of_toNat_eq h, fun h => by rw [h]; rfl⟩
  have hone : x.toNat = 1 ↔ x = 1 := ⟨fun h => BitVec.eq_of_toNat_eq h, fun h => by rw [h]; rfl⟩
  simp only [alignmentOf, hzero, hone]

end

/-! ## SET OUTLET and SET GROUP (R135, R167, R168) -/

/-- The entry put is found under its group, and every other group's entry stays (R135). -/
theorem find_insertGroup (e : GroupEntry) (g : Nat) (l : List GroupEntry) :
    (insertGroup e l).find? (fun x => decide (x.group = g)) =
      if g = e.group then some e else l.find? (fun x => decide (x.group = g)) := by
  induction l with
  | nil =>
    by_cases hg : g = e.group
    · simp [insertGroup, hg]
    · simp [insertGroup, hg, Ne.symm hg]
  | cons x l ih =>
    by_cases hg : g = e.group
    · subst hg
      rw [if_pos rfl] at ih ⊢
      unfold insertGroup
      split
      · simp
      · next hne =>
        split
        · simp
        · simp [Ne.symm hne, ih]
    · rw [if_neg hg] at ih ⊢
      unfold insertGroup
      split
      · next heq => simp [← heq, Ne.symm hg]
      · split
        · simp [Ne.symm hg]
        · rw [List.find?_cons, List.find?_cons, ih]

theorem putGroup_group (s : State) (n dwell : Nat) (policy : Policy) (g : Nat) :
    (s.putGroup n dwell policy).group? g = if g = n then some ⟨n, dwell, policy, none, 0⟩ else s.group? g :=
  find_insertGroup ⟨n, dwell, policy, none, 0⟩ g s.groups

theorem groupsFull_iff (s : State) (g : Nat) : s.groupsFull g = true ↔ s.group? g = none ∧ 16 ≤ s.groups.length := by
  rw [State.groupsFull, Bool.and_eq_true, Option.isNone_iff_eq_none, decide_eq_true_iff]
  exact Iff.rfl

theorem groupsFull_eq_false {s : State} {g : Nat} (h : (s.group? g).isSome = true ∨ s.groups.length < 16) : s.groupsFull g = false := by
  rw [Bool.eq_false_iff, ne_eq, groupsFull_iff]
  rintro ⟨hnone, hfull⟩
  rcases h with h | h
  · rw [hnone] at h; exact absurd h (by decide)
  · omega

theorem byte_ne_zero {x : Byte} (h : x ≠ 0) : x.toNat ≠ 0 := fun hx => h (BitVec.eq_of_toNat_eq hx)

/-- A group that has an entry, or none, is named without a change. -/
theorem nameGroup_of_kept {s : State} {n : Nat} (h : n = 0 ∨ (s.group? n).isSome = true) : s.nameGroup n = s := if_pos h

theorem nameGroup_of_new {s : State} {n : Nat} (hn : n ≠ 0) (h : s.group? n = none) : s.nameGroup n = s.putGroup n 10 .strict :=
  if_neg (fun hkept => hkept.elim hn (fun hsome => by rw [h] at hsome; exact absurd hsome (by decide)))

/-- Naming a group leaves every other group's entry. -/
theorem nameGroup_other (s : State) {n g : Nat} (hg : g ≠ n) : (s.nameGroup n).group? g = s.group? g := by
  unfold State.nameGroup
  split
  · rfl
  · rw [putGroup_group, if_neg hg]

section
variable {s : State} {item : Nat × Nat × Nat} {fields : List (Nat × Nat × Nat)} {bits : Nat}

theorem runSetOutlet_in_range (hconfiguring : s.phase = .configuring) {a : OutletArgs} {o : OutletId} (ho : a.outlet.toNat = o.val + 1)
    (h : configFields (.setOutlet bits a) = some (item, fields)) (hfields : ∀ f ∈ fields, lies f) :
    runSetOutlet a s =
      if (decide (a.group ≠ 0) && s.groupsFull a.group.toNat) = true then refuse s .groupFull a.group.toNat
      else accept ((s.nameGroup a.group.toNat).modOutlet o (fun r => { r with cfg := outletOfArgs a })) := by
  cases h
  rw [runSetOutlet, whenConfiguring_of_configuring _ hconfiguring, outletArg_of_number ho]
  exact whenInRange_runs hfields s _

theorem runSetGroup_in_range (hconfiguring : s.phase = .configuring) {a : GroupArgs} (hg : a.group ≠ 0)
    (h : configFields (.setGroup bits a) = some (item, fields)) (hfields : ∀ f ∈ fields, lies f) :
    runSetGroup a s =
      if s.groupsFull a.group.toNat = true then refuse s .groupFull a.group.toNat
      else accept (s.putGroup a.group.toNat a.dwell.toNat (policyOfByte a.policy)) := by
  cases h
  rw [runSetGroup, whenConfiguring_of_configuring _ hconfiguring, if_neg hg]
  exact whenInRange_runs hfields s _

end

/-- What SET OUTLET leaves: the outlet's configuration, and the entry of a group it names first (R135, R167). -/
theorem setOutlet_replaces {s : State} (hframe : s.takesHostFrames = true) (hconfiguring : s.phase = .configuring) {a : OutletArgs}
    {item : Nat × Nat × Nat} {fields : List (Nat × Nat × Nat)} {o : OutletId} (h : configFields (.setOutlet 72 a) = some (item, fields))
    (ho : a.outlet.toNat = o.val + 1) (hfields : ∀ f ∈ fields, lies f)
    (hroom : a.group = 0 ∨ (s.group? a.group.toNat).isSome = true ∨ s.groups.length < 16) :
    exec (.setOutlet 72 a) s = .next { s.answered .ok 0 with
      outlets := s.outlets.set o { s.outlet o with cfg := outletOfArgs a }
      groups := (s.nameGroup a.group.toNat).groups } := by
  have hnotFull : ¬ (decide (a.group ≠ 0) && s.openFrame.groupsFull a.group.toNat) = true := by
    rcases hroom with hzero | hroom
    · simp [hzero]
    · rw [show s.openFrame.groupsFull a.group.toNat = s.groupsFull a.group.toNat from rfl, groupsFull_eq_false hroom]
      simp
  rw [exec_setOutlet hframe, runSetOutlet_in_range (s := s.openFrame) hconfiguring ho h hfields, if_neg hnotFull]
  by_cases hkept : a.group.toNat = 0 ∨ (s.group? a.group.toNat).isSome = true
  · rw [nameGroup_of_kept (s := s.openFrame) hkept, nameGroup_of_kept hkept]
    rfl
  · obtain ⟨hn, hnone⟩ := not_or.1 hkept
    have hnew : s.group? a.group.toNat = none := Option.not_isSome_iff_eq_none.1 hnone
    rw [nameGroup_of_new (s := s.openFrame) hn hnew, nameGroup_of_new hn hnew]
    rfl

/-- Settles O33, command by command. -/
theorem configurationCommandsReplaceTheirItem : Obligations.ConfigurationCommandsReplaceTheirItem := by
  unfold Obligations.ConfigurationCommandsReplaceTheirItem
  refine ⟨fun s hframe hconfiguring => ⟨fun a item fields h hfields => ?board, fun a item fields b h hb hfields => ?bank,
    fun a item fields k h hk hfields => ?profile⟩, fun s hframe hconfiguring => ⟨fun a item fields o h ho hfields => ⟨fun hg hnone hfull => ?outletFull,
      fun hroom => ?outlet⟩, fun a item fields h hg hfields => ⟨fun hnone hfull => ?groupFull, fun hroom => ?group⟩⟩⟩
  case board =>
    rw [exec_setBoard hframe, runSetBoard_in_range (s := s.openFrame) hconfiguring h hfields]
    rfl
  case bank =>
    rw [exec_setBank hframe, runSetBank_in_range (s := s.openFrame) hconfiguring hb h hfields]
    refine ⟨{ s.answered .ok 0 with
      banks := s.banks.set b (bankOfArgs a), overload := (s.setBankConfig b (bankOfArgs a)).overload }, bankOfArgs a, rfl, rfl, ?branch, rfl,
      decide_eq_true_iff, rfl, setBankConfig_over s b (bankOfArgs a)⟩
    cases h
    obtain ⟨-, hbranch⟩ := hfields (0, 15, a.branch.toNat) (by simp)
    exact Nat.mod_eq_of_lt (Nat.lt_succ_of_le hbranch)
  case profile =>
    rw [exec_setProfile hframe, runSetProfile_in_range (s := s.openFrame) hconfiguring hk h hfields, ← alignmentOf_byte]
    rfl
  case outletFull =>
    have hfull' : (decide (a.group ≠ 0) && s.openFrame.groupsFull a.group.toNat) = true := by
      rw [decide_eq_true hg, Bool.true_and]
      exact (groupsFull_iff s _).2 ⟨hnone, hfull⟩
    rw [exec_setOutlet hframe, runSetOutlet_in_range (s := s.openFrame) hconfiguring ho h hfields, if_pos hfull']
    rfl
  case outlet =>
    refine ⟨_, outletOfArgs a, setOutlet_replaces hframe hconfiguring h ho hfields hroom, rfl, ?number, rfl, rfl, decide_eq_true_iff, rfl, rfl, rfl,
      fun hkept => ?kept, fun hg hnone => ?new, fun g hg => nameGroup_other s hg⟩
    case number =>
      cases h
      obtain ⟨-, hprofile⟩ := hfields (0, 3, a.profile.toNat) (by simp)
      exact Nat.mod_eq_of_lt (Nat.lt_succ_of_le hprofile)
    case kept =>
      show (s.nameGroup a.group.toNat).groups = s.groups
      rw [nameGroup_of_kept (hkept.imp (fun hzero => by rw [hzero]; rfl) id)]
    case new =>
      show (s.nameGroup a.group.toNat).group? a.group.toNat = _
      rw [nameGroup_of_new (byte_ne_zero hg) hnone, putGroup_group, if_pos rfl]
  case groupFull =>
    rw [exec_setGroup hframe, runSetGroup_in_range (s := s.openFrame) hconfiguring hg h hfields,
      if_pos ((groupsFull_iff s.openFrame _).2 ⟨hnone, hfull⟩)]
    rfl
  case group =>
    have hnotFull : ¬ s.openFrame.groupsFull a.group.toNat = true := by
      rw [groupsFull_eq_false (s := s.openFrame) hroom]
      exact Bool.false_ne_true
    rw [exec_setGroup hframe, runSetGroup_in_range (s := s.openFrame) hconfiguring hg h hfields, if_neg hnotFull]
    refine ⟨{ s.answered .ok 0 with groups := (s.putGroup a.group.toNat a.dwell.toNat (policyOfByte a.policy)).groups }, rfl, rfl,
      (putGroup_group s _ _ _ _).trans (if_pos rfl), fun g hother => (putGroup_group s _ _ _ g).trans (if_neg hother)⟩

end Sys2Proof.Machine
end

section
/-! PROOFS. START (R169 to R171). -/

namespace Sys2Proof.Machine
open Sys2Proof

/-! ## The checks of R169 -/

theorem find_lowest_number {p : Fin 16 → Bool} {k : Fin 16} (h : p k = true) (hlow : ∀ j, j < k → p j = false) : allNumbers.find? p = some k := by
  obtain ⟨before, after, hsplit, hbefore⟩ := allNumbers_split k
  rw [List.find?_eq_some_iff_append]
  exact ⟨h, before, after, hsplit, fun j hj => by simp [hlow j (hbefore j hj)]⟩

theorem find_no_number {p : Fin 16 → Bool} (h : ∀ k, p k = false) : allNumbers.find? p = none := by
  rw [List.find?_eq_none]
  exact fun k _ => by simp [h k]

/-- Two of the station's banks share a branch with different limits (R169). -/
def State.clashes (s : State) (n : BranchId) : Prop := ∃ b c, (s.bank b).branch = n ∧ (s.bank c).branch = n ∧ (s.bank b).limit ≠ (s.bank c).limit

theorem mem_ownBanksOn {s : State} {n : BranchId} {b : Bank} : b ∈ s.ownBanksOn n ↔ (s.bank b).branch = n := by
  cases b <;> simp [State.ownBanksOn, allBanks]

/-- The check compares every bank's limit with that of the first. -/
theorem limitsClash_iff (s : State) (n : BranchId) : s.limitsClash n = true ↔ s.clashes n := by
  simp only [State.limitsClash, List.any_eq_true, mem_ownBanksOn, decide_eq_true_iff]
  constructor
  · rintro ⟨b, hb, hlimit⟩
    cases hbanks : s.ownBanksOn n with
    | nil => exact absurd (mem_ownBanksOn.2 hb) (by rw [hbanks]; exact List.not_mem_nil)
    | cons c rest =>
      have hc : (s.bank c).branch = n := mem_ownBanksOn.1 (by rw [hbanks]; exact List.mem_cons_self)
      exact ⟨b, c, hb, hc, by simpa only [State.ownLimit, hbanks] using hlimit⟩
  · rintro ⟨b, c, hb, hc, hlimit⟩
    by_cases hfirst : (s.bank b).limit = s.ownLimit n
    · exact ⟨c, hc, fun hsame => hlimit (hfirst.trans hsame.symm)⟩
    · exact ⟨b, hb, hfirst⟩

theorem limitsClash_eq_false {s : State} {n : BranchId} (h : ¬ s.clashes n) : s.limitsClash n = false := by
  rw [Bool.eq_false_iff, ne_eq, limitsClash_iff]
  exact h

section
variable {s : State} (hconfiguring : s.phase = .configuring)
include hconfiguring

theorem runStart_clash {n : BranchId} (h : s.clashes n) (hlow : ∀ m, m < n → ¬ s.clashes m) : runStart s = refuse s .configInvalid (64 + n.val) := by
  have hfind : allNumbers.find? s.limitsClash = some n :=
    find_lowest_number ((limitsClash_iff s n).2 h) (fun m hm => limitsClash_eq_false (hlow m hm))
  rw [runStart, whenConfiguring_of_configuring _ hconfiguring, hfind]

theorem runStart_large (hclash : ∀ n, ¬ s.clashes n) {o : OutletId} (h : (s.bank (bankOf o)).limit < (s.profile o).inrush)
    (hlow : ∀ p, p < o → ¬ (s.bank (bankOf p)).limit < (s.profile p).inrush) : runStart s = refuse s .configInvalid (o.val + 1) := by
  have hnone : allNumbers.find? s.limitsClash = none := find_no_number (fun n => limitsClash_eq_false (hclash n))
  have hfind : allOutlets.find? s.inrushTooLarge = some o :=
    find_lowest_outlet (decide_eq_true h) (fun p hp => decide_eq_false (hlow p hp))
  rw [runStart, whenConfiguring_of_configuring _ hconfiguring, hnone, hfind]
  rfl

theorem runStart_accepted (hclash : ∀ n, ¬ s.clashes n) (hlarge : ∀ o, ¬ (s.bank (bankOf o)).limit < (s.profile o).inrush) :
    runStart s = accept s.startBoard := by
  have hnone : allNumbers.find? s.limitsClash = none := find_no_number (fun n => limitsClash_eq_false (hclash n))
  have hnone' : allOutlets.find? s.inrushTooLarge = none := find_no_outlet (fun o => decide_eq_false (hlarge o))
  rw [runStart, whenConfiguring_of_configuring _ hconfiguring, hnone, hnone']

end

/-! ## What START fixes (R170, R171) -/

/-- A group is named by an outlet when one of the outlets is a member (R136, R170). -/
theorem isNamed_eq (s : State) (g : Nat) : s.isNamed g = allOutlets.any (fun o => (s.outlet o).cfg.group == g) := by
  rw [Bool.eq_iff_iff]
  simp [State.isNamed, State.members, List.filter_eq_nil_iff]

/-- The roster of a station alone (R86). -/
theorem numbersWhere_self (k : StationId) : numbersWhere (fun j => decide (j = k)) = 1#16 <<< k.val := by
  revert k
  decide

theorem fixGroups_eq (s : State) : s.fixGroups = { s with
    groups := (s.groups.filter (fun e => allOutlets.any (fun o => (s.outlet o).cfg.group == e.group))).map
      (fun e => { e with roster := 1#16 <<< s.station.val }) } := by
  have hnamed : (fun e : GroupEntry => s.isNamed e.group) = fun e => allOutlets.any (fun o => (s.outlet o).cfg.group == e.group) :=
    funext fun e => isNamed_eq s e.group
  simp only [State.fixGroups, hnamed, numbersWhere_self]

theorem hasOutlet_formRestoreSet (s : State) (o : OutletId) :
    hasOutlet s.formRestoreSet o = true ↔ (s.outlet o).cfg.startOn = true ∧ (s.outlet o).state = .off := by
  rw [State.formRestoreSet, hasOutlet_outletsWhere, Bool.and_eq_true, decide_eq_true_iff]

theorem enterJoining_withPort (s : State) (p : Port) : State.enterJoining { s with port := p } = { s.enterJoining with port := p } :=
  offerReserved_withPort (s.modLink (fun l => { l with state := .joining, failures := 0, joining := some joiningTime, quiet := none })) p _

/-- What a START that passes its checks hands to the link controller. -/
def State.startFixed (s : State) : State :=
  { s with
    phase := .running
    groups := (s.groups.filter (fun e => allOutlets.any (fun o => (s.outlet o).cfg.group == e.group))).map
      (fun e => { e with roster := 1#16 <<< s.station.val })
    restoreSet := s.formRestoreSet, startRestored := false }

theorem startBoard_eq (s : State) : s.startBoard = s.startFixed.enterJoining := by
  rw [State.startBoard, fixGroups_eq]
  rfl

/-- START writes its result after the board has started. -/
theorem writeResult_startBoard (s : State) :
    s.openFrame.startBoard.writeResult okSlot = State.enterJoining { s.startFixed with port := s.portAfter ⟨.ok, 0⟩ } := by
  have hopen : s.openFrame.startBoard = { s.startFixed.enterJoining with port := s.openFrame.port } := by
    rw [startBoard_eq]
    exact enterJoining_withPort s.startFixed s.openFrame.port
  rw [hopen, enterJoining_withPort s.startFixed (s.portAfter ⟨.ok, 0⟩)]
  rfl

theorem exec_start {s : State} (hframe : s.takesHostFrames = true) :
    exec (.start 8) s = .next ((runStart s.openFrame).1.writeResult (runStart s.openFrame).2) :=
  exec_action (c := .start 8) (args := 0) rfl rfl hframe

/-- Settles O34: the lowest branch that clashes, then the lowest outlet with too large an allowance, is in the way. -/
theorem startIsCheckedAndFixesTheConfiguration : Obligations.StartIsCheckedAndFixesTheConfiguration := by
  unfold Obligations.StartIsCheckedAndFixesTheConfiguration
  intro s clash large hframe hclash hlarge
  obtain rfl : clash = s.clashes := hclash
  subst hlarge
  rw [exec_start hframe]
  refine ⟨fun hrunning => ?phase, fun hconfiguring => ⟨fun n h hlow => ?clash, fun hnone =>
    ⟨fun o h hlow => ?large, fun hsmall => ⟨s.formRestoreSet, hasOutlet_formRestoreSet s, ?accepted⟩⟩⟩⟩
  case phase => exact writeResult_of_refused (whenConfiguring_refuses (s := s.openFrame) _ hrunning)
  case clash => exact writeResult_of_refused (runStart_clash (s := s.openFrame) hconfiguring h hlow)
  case large => exact writeResult_of_refused (runStart_large (s := s.openFrame) hconfiguring hnone h hlow)
  case accepted =>
    rw [runStart_accepted (s := s.openFrame) hconfiguring hnone hsmall]
    exact congrArg Host.Outcome.next (writeResult_startBoard s)

end Sys2Proof.Machine
end

section
/-! PROOFS. The switching sequences record by record: entry into CLOSING and OPENING, the steps' ends, and the meeting of a target (R5 to R15, R21). -/

namespace Sys2Proof.Machine
open Sys2Proof

/-! ## The steps of a sequence -/

section
variable (s : State) (o : OutletId)

theorem startOpeningSettle_eq : s.startOpeningSettle o = s.withOutlet o
    { s.outlet o with
      state := .opening, sub := some .settle, relay := .opened, coil := .off, pendingOff := false, claimWait := none,
      stateTimer := some (s.profile o).settle }
    { s.meter o with overCount := 0, disturbed := true } := by
  simp [State.startOpeningSettle, place_eq, loadTimer_eq, Outlet.place, Meter.follow, Outlet.live, relayFor, coilFor]

theorem startClosingSettle_eq : s.startClosingSettle o = s.withOutlet o
    { s.outlet o with
      state := .closing, sub := some .settle, relay := .closed, coil := .hold, claimWait := none, stateTimer := some (s.profile o).settle }
    { s.meter o with overCount := if (s.outlet o).coil = .off then 0 else (s.meter o).overCount, disturbed := true } := by
  simp [State.startClosingSettle, place_eq, loadTimer_eq, Outlet.place, Meter.follow, Outlet.live, relayFor, coilFor]

theorem startCoil_eq : s.startCoil o = s.withOutlet o
    { s.outlet o with
      state := .closing, sub := some .coil, relay := .closed, coil := .pulse, claimWait := none, stateTimer := some (s.profile o).coilPulse }
    { s.meter o with overCount := if (s.outlet o).coil = .off then 0 else (s.meter o).overCount, disturbed := true } := by
  simp [State.startCoil, place_eq, loadTimer_eq, Outlet.place, Meter.follow, Outlet.live, relayFor, coilFor]

theorem startAlign_opening_eq : s.startAlign o .opening = s.withOutlet o
    { s.outlet o with
      state := .opening, sub := some .align, relay := .opened, coil := .hold, pendingOff := false, claimWait := none,
      stateTimer := some (s.alignLimit o), alignLimitMs := s.alignLimit o, alignPeak := 0 }
    { s.meter o with overCount := if (s.outlet o).coil = .off then 0 else (s.meter o).overCount, disturbed := true } := by
  simp [State.startAlign, place_eq, modOutlet_eq, Outlet.place, Meter.follow, Outlet.live, relayFor, coilFor]

theorem startAlign_closing_eq : s.startAlign o .closing = s.withOutlet o
    { s.outlet o with
      state := .closing, sub := some .align, relay := .opened, coil := .off, claimWait := none, stateTimer := some (s.alignLimit o),
      alignLimitMs := s.alignLimit o, alignPeak := 0 }
    { s.meter o with overCount := 0, disturbed := true } := by
  simp [State.startAlign, place_eq, modOutlet_eq, Outlet.place, Meter.follow, Outlet.live, relayFor, coilFor]

theorem place_on_eq : s.place o .on none = s.withOutlet o
    { s.outlet o with state := .on, sub := none, relay := .closed, coil := .hold, pendingOff := false, claimWait := none, stateTimer := none }
    { s.meter o with overCount := if (s.outlet o).coil = .off then 0 else (s.meter o).overCount } := by
  simp [place_eq, Outlet.place, Meter.follow, Outlet.live, relayFor, coilFor]

/-! ## Entry into CLOSING and OPENING (R5, R7, R13, R14) -/

theorem alignLimit_of_line {r : LineRecord} (hline : (s.window (bankOf o)).line = some r) (hvalid : r.noLine = false) :
    s.alignLimit o = (s.profile o).alignLimit * 50000 / r.frequency := by
  simp [State.alignLimit, hline, hvalid, Nat.mul_comm]

theorem alignLimit_of_no_line (h : ∀ r, (s.window (bankOf o)).line = some r → r.noLine = true) :
    s.alignLimit o = 10 * (s.profile o).alignLimit := by
  unfold State.alignLimit
  split
  · next r hline => rw [if_pos (h r hline)]
  · rfl

theorem enterOpening_unaligned (h : (s.profile o).alignment = .none) : s.enterOpening o = (s.startOpeningSettle o).dropClaim o := by
  rw [State.enterOpening, h]

theorem enterOpening_aligned (h : (s.profile o).alignment ≠ .none) : s.enterOpening o = (s.startAlign o .opening).dropClaim o := by
  unfold State.enterOpening
  split
  · next hnone => exact absurd hnone h
  all_goals rfl

theorem enterClosing_unaligned (h : (s.profile o).alignment = .none) : s.enterClosing o = (s.leaveQueue o).startCoil o := by
  rw [State.enterClosing, h]

theorem enterClosing_aligned (h : (s.profile o).alignment ≠ .none) : s.enterClosing o = (s.leaveQueue o).startAlign o .closing := by
  unfold State.enterClosing
  split
  · next hnone => exact absurd hnone h
  all_goals rfl

/-! ## The target (R21) -/

theorem post_withOutlet (x : Outlet) (m : Meter) (k : EventKind) (subject detail value : Nat) :
    (s.withOutlet o x m).post k subject detail value = { s.withOutlet o x m with port := s.portWith k subject detail value } :=
  post_of_same (s := s) (t := s.withOutlet o x m) rfl rfl rfl k subject detail value

theorem meetTarget_on (hstate : (s.outlet o).state = .on) (htarget : (s.outlet o).target = .on) : s.meetTarget o =
    { s.withOutlet o { s.outlet o with target := .none } (s.meter o) with port := s.portWith .switchDone (o.val + 1) 1 0 } := by
  rw [meetTarget_of_met hstate htarget (Or.inl ⟨rfl, rfl, rfl⟩), post_withOutlet]

theorem meetTarget_off (hstate : (s.outlet o).state = .off) (htarget : (s.outlet o).target = .off) : s.meetTarget o =
    { s.withOutlet o { s.outlet o with target := .none } (s.meter o) with port := s.portWith .switchDone (o.val + 1) 0 0 } := by
  rw [meetTarget_of_met hstate htarget (Or.inr ⟨rfl, rfl, rfl⟩), post_withOutlet]

theorem meetTarget_not_met (hon : ¬ ((s.outlet o).state = .on ∧ (s.outlet o).target = .on))
    (hoff : ¬ ((s.outlet o).state = .off ∧ (s.outlet o).target = .off)) : s.meetTarget o = s := by
  unfold State.meetTarget
  split
  · next hstate htarget => exact absurd ⟨hstate, htarget⟩ hon
  · next hstate htarget => exact absurd ⟨hstate, htarget⟩ hoff
  · rfl

end

/-- Settles O35. -/
theorem openingAndClosingAreEnteredByAlignment : Obligations.OpeningAndClosingAreEnteredByAlignment := by
  unfold Obligations.OpeningAndClosingAreEnteredByAlignment
  intro s o x m hx hm
  subst hx hm
  refine ⟨fun r hline hvalid => alignLimit_of_line s o hline hvalid, alignLimit_of_no_line s o, fun h => ⟨?_, ?_⟩, fun h => ⟨?_, ?_⟩,
    meetTarget_on s o, meetTarget_off s o, meetTarget_not_met s o⟩
  · rw [enterOpening_unaligned s o h, startOpeningSettle_eq]
  · rw [enterClosing_unaligned s o h, startCoil_eq]
    rfl
  · rw [enterOpening_aligned s o h, startAlign_opening_eq]
  · rw [enterClosing_aligned s o h, startAlign_closing_eq]
    rfl

/-! ## An expiry (log 2) -/

/-- A timer that runs: its remaining time passes, then it acts. -/
theorem unlessReset_expire_some {s : State} (due : State → Option Nat) (fire : State → State) {d : Nat} (hr : s.inReset = false)
    (h : due s = some d) :
    Host.Outcome.next (s.unlessReset (fun s => s.expire (due s) fire)) = (Host.Outcome.next (fire (s.passTime d)) : Result) := by
  rw [unlessReset_running hr]
  simp only [h, State.expire]

theorem phaseDue_eq_some {s : State} {o : OutletId} {st : OutletState} {sub : SubPhase} {d : Nat} (hstate : (s.outlet o).state = st)
    (hsub : (s.outlet o).sub = some sub) (htimer : (s.outlet o).stateTimer = some d) : s.phaseDue o st sub = some d := by
  simp [State.phaseDue, State.isIn, hstate, hsub, htimer]

/-- What time leaves of an outlet in a relay sequence (R6, R9). -/
structure Outlet.Passed (x y : Outlet) : Prop where
  state : y.state = x.state
  sub : y.sub = x.sub
  consistent : x.consistent → y.consistent

theorem passTime_passed {s : State} (hr : s.inReset = false) (d : Nat) (o : OutletId) : (s.outlet o).Passed ((s.passTime d).outlet o) := by
  rw [passTime_outlet s d o hr]
  exact ⟨rfl, rfl, fun h => Outlet.consistent_of_part (age_switchPart _ _ _ _) h⟩

/-- What R2 and R6 say of a record that stands in a sequence. -/
theorem sequence_of_consistent {x : Outlet} (h : x.consistent) (hstate : x.state = .closing ∨ x.state = .opening) :
    x.relay = relayFor x.state x.sub ∧ x.coil = coilFor x.state x.sub ∧ x.claimWait = none ∧ (x.state = .opening → x.pendingOff = false) := by
  obtain ⟨hrelay, hcoil, -, -, hpending, hwait⟩ := h
  refine ⟨hrelay, hcoil, ?_, fun hopening => ?_⟩
  · cases hclaim : x.claimWait with
    | none => rfl
    | some n =>
      rw [hclaim] at hwait
      have hclaiming := hwait.1 rfl
      rcases hstate with hstate | hstate <;> rw [hstate] at hclaiming <;> cases hclaiming
  · rw [Bool.eq_false_iff]
    intro hp
    have hclosing := hpending hp
    rw [hopening] at hclosing
    cases hclosing

/-! ## The ends of a closing's steps (R8 to R12) -/

section
variable {a : State} {o : OutletId} {x : Outlet} {m : Meter}

/-- COIL ends (R9). -/
theorem startClosingSettle_of_coil (hx : x = a.outlet o) (hm : m = a.meter o) (hconsistent : x.consistent) (hstate : x.state = .closing)
    (hsub : x.sub = some .coil) :
    a.startClosingSettle o = a.withOutlet o { x with sub := some .settle, coil := .hold, stateTimer := some (a.profile o).settle }
      { m with disturbed := true } := by
  obtain ⟨hrelay, hcoil, hwait, -⟩ := sequence_of_consistent hconsistent (Or.inl hstate)
  rw [hstate, hsub] at hrelay hcoil
  subst hx hm
  rw [startClosingSettle_eq]
  simp [hstate, hrelay, hcoil, hwait, relayFor, coilFor]

/-- SETTLE ends in ON (R10). -/
theorem place_on_of_settle (hx : x = a.outlet o) (hm : m = a.meter o) (hconsistent : x.consistent) (hstate : x.state = .closing)
    (hsub : x.sub = some .settle) (hpending : x.pendingOff = false) :
    a.place o .on none = a.withOutlet o { x with state := .on, sub := none, coil := .hold, stateTimer := none } m := by
  obtain ⟨hrelay, hcoil, hwait, -⟩ := sequence_of_consistent hconsistent (Or.inl hstate)
  rw [hstate, hsub] at hrelay hcoil
  subst hx hm
  rw [place_on_eq]
  simp [hpending, hrelay, hcoil, hwait, relayFor, coilFor]

/-- ALIGN ends by its limit under ZERO (R8). -/
theorem alignClosing_of_align (hx : x = a.outlet o) (hm : m = a.meter o) (hconsistent : x.consistent) (hstate : x.state = .closing)
    (hsub : x.sub = some .align) (v : Bool) :
    a.alignClosing o v = a.withOutlet o
      { x with sub := some .coil, relay := .closed, coil := .pulse, unalignedLast := v, stateTimer := some (a.profile o).coilPulse }
      { m with overCount := 0, disturbed := true } := by
  obtain ⟨-, hcoil, hwait, -⟩ := sequence_of_consistent hconsistent (Or.inl hstate)
  rw [hstate, hsub] at hcoil
  subst hx hm
  have hprofile : (a.withOutlet o { a.outlet o with unalignedLast := v } (a.meter o)).profile o = a.profile o := by
    simp only [State.profile, withOutlet_outlet_self]
    rfl
  rw [State.alignClosing, setUnaligned_eq, startCoil_eq, hprofile]
  simp [hstate, hcoil, hwait, coilFor]

theorem closingAlignEnds_of_lenient (h : (a.profile o).alignment ≠ .strict) : a.closingAlignEnds o = a.alignClosing o true := by
  unfold State.closingAlignEnds
  split
  · next hstrict => exact absurd hstrict h
  all_goals rfl

theorem closingAlignEnds_of_strict (h : (a.profile o).alignment = .strict) : a.closingAlignEnds o = a.failClosing o := by
  rw [State.closingAlignEnds, h]

/-- A closing that fails its alignment without pending-off (R11). -/
theorem failClosing_refused (hx : x = a.outlet o) (hm : m = a.meter o) (hpending : x.pendingOff = false) :
    a.failClosing o =
      (((a.withOutlet o
        { x.idle .off with
          unalignedLast := true, target := .none, restoreIntent := false, cycle := if x.cycle = .group then .group else .none }
        { m with overCount := 0 }).dropClaim o).post .switchFailed (o.val + 1) 1 x.alignLimitMs).noteFailed o := by
  subst hx hm
  rw [State.failClosing, if_neg (by rw [hpending]; decide), place_rest _ _ rfl]
  simp only [setUnaligned_eq, setTarget_eq, setRestore_eq, endLocal_state_eq, endLocal_eq, withOutlet_outlet_self, withOutlet_meter_self,
    withOutlet_withOutlet]
  rfl

/-- A closing that fails its alignment with pending-off and restore-intent (R11, R12). -/
theorem failClosing_dwells (hx : x = a.outlet o) (hm : m = a.meter o) (hpending : x.pendingOff = true) (hrestore : x.restoreIntent = true) :
    a.failClosing o = ((a.withOutlet o { x.idle .dwell with unalignedLast := true } { m with overCount := 0 }).dropClaim o).noteOpened o := by
  subst hx hm
  rw [State.failClosing, if_pos hpending, setUnaligned_eq, State.endPendingOff, if_pos (by rw [withOutlet_outlet_self]; exact hrestore),
    place_rest _ _ rfl, withOutlet_outlet_self, withOutlet_meter_self, withOutlet_withOutlet]
  rfl

/-- A closing that fails its alignment with pending-off alone (R11, R12). -/
theorem failClosing_ends_off (hx : x = a.outlet o) (hm : m = a.meter o) (hpending : x.pendingOff = true) (hrestore : x.restoreIntent = false) :
    a.failClosing o =
      (((a.withOutlet o { x.idle .off with unalignedLast := true } { m with overCount := 0 }).meetTarget o).dropClaim o).noteOpened o := by
  subst hx hm
  rw [State.failClosing, if_pos hpending, setUnaligned_eq, State.endPendingOff,
    if_neg (by rw [withOutlet_outlet_self]; exact Bool.eq_false_iff.1 hrestore), State.enterOff, place_rest _ _ rfl, withOutlet_outlet_self,
    withOutlet_meter_self, withOutlet_withOutlet]
  rfl

end

/-- Settles O36, by the step that ends. -/
theorem closingStepsEndAtTheirTimers : Obligations.ClosingStepsEndAtTheirTimers := by
  unfold Obligations.ClosingStepsEndAtTheirTimers
  intro o s a d x m hr hconsistent htimer hstate ha hx hm
  have hpassed : (s.outlet o).Passed x := by rw [hx, ha]; exact passTime_passed hr d o
  have hx_consistent : x.consistent := hpassed.consistent hconsistent
  have hx_state : x.state = .closing := hpassed.state.trans hstate
  have due {sub : SubPhase} (hsub : x.sub = some sub) : s.phaseDue o .closing sub = some d :=
    phaseDue_eq_some hstate (hpassed.sub.symm.trans hsub) htimer
  refine ⟨fun hsub => ?coil, fun hsub hpending => ?opens, fun hsub hpending => ?settles, fun hsub hlenient => ?aligned,
    fun hsub hstrict y n hy hn => ⟨fun hpending => ?refused, fun hpending hrestore => ?dwells, fun hpending hrestore => ?off⟩⟩
  case coil =>
    rw [← startClosingSettle_of_coil hx hm hx_consistent hx_state hsub, ha]
    exact unlessReset_expire_some (·.phaseDue o .closing .coil) _ hr (due hsub)
  case opens =>
    have hends : a.endClosing o = a.enterOpening o := if_pos (by rw [← hx]; exact hpending)
    rw [← hends, ha]
    exact unlessReset_expire_some (·.phaseDue o .closing .settle) _ hr (due hsub)
  case settles =>
    have hends : a.endClosing o = ((a.place o .on none).meetTarget o).noteRestored o :=
      if_neg (by rw [← hx]; exact Bool.eq_false_iff.1 hpending)
    rw [← place_on_of_settle hx hm hx_consistent hx_state hsub hpending, ← hends, ha]
    exact unlessReset_expire_some (·.phaseDue o .closing .settle) _ hr (due hsub)
  case aligned =>
    rw [← alignClosing_of_align hx hm hx_consistent hx_state hsub, ← closingAlignEnds_of_lenient hlenient, ha]
    exact unlessReset_expire_some (·.phaseDue o .closing .align) _ hr (due hsub)
  all_goals
    have hexpires : exec (.closingAlignExpiry o) s = .next (a.failClosing o).issueClaims := by
      rw [← closingAlignEnds_of_strict hstrict, ha]
      exact unlessReset_expire_some (·.phaseDue o .closing .align) _ hr (due hsub)
    rw [hexpires, hy, hn]
  case refused => rw [failClosing_refused hx hm hpending]
  case dwells => rw [failClosing_dwells hx hm hpending hrestore]; rfl
  case off => rw [failClosing_ends_off hx hm hpending hrestore]

end Sys2Proof.Machine
end

section
/-! PROOFS. The ends of an opening's steps, of a local dwell and of a claim wait (R14, R15, R20, R58, R115). -/

namespace Sys2Proof.Machine
open Sys2Proof

/-! ## OPENING and the local dwell -/

section
variable {a : State} {o : OutletId} {x : Outlet} {m : Meter}

/-- ALIGN of an opening ends (R14). -/
theorem alignOpening_of_align (hx : x = a.outlet o) (hm : m = a.meter o) (hconsistent : x.consistent) (hstate : x.state = .opening)
    (hsub : x.sub = some .align) (v : Bool) :
    a.alignOpening o v = a.withOutlet o
      { x with sub := some .settle, coil := .off, unalignedLast := v, stateTimer := some (a.profile o).settle }
      { m with overCount := 0, disturbed := true } := by
  obtain ⟨hrelay, -, hwait, hpending⟩ := sequence_of_consistent hconsistent (Or.inr hstate)
  have hnotPending := hpending hstate
  rw [hstate, hsub] at hrelay
  subst hx hm
  have hprofile : (a.withOutlet o { a.outlet o with unalignedLast := v } (a.meter o)).profile o = a.profile o := by
    simp only [State.profile, withOutlet_outlet_self]
    rfl
  rw [State.alignOpening, setUnaligned_eq, startOpeningSettle_eq, hprofile]
  simp [hstate, hrelay, hwait, hnotPending, relayFor]

theorem endOpening_of_off (hx : x = a.outlet o) (hm : m = a.meter o) (hrestore : x.restoreIntent = false) :
    a.endOpening o = ((a.withOutlet o (x.idle .off) { m with overCount := 0 }).meetTarget o).noteOpened o := by
  subst hx hm
  rw [State.endOpening, if_neg (Bool.eq_false_iff.1 hrestore), State.enterOff, place_rest _ _ rfl]

/-- What the state timer of an outlet that enters DWELL is loaded with: the length of a local dwell (R15, R20). -/
def CycleMember.dwellTimer : CycleMember → Option Nat
  | .localCycle n => some (n * 1000)
  | .none | .group => Option.none

/-- A local dwell is loaded with its length (R15, R20). -/
theorem loadDwell_of_idle (s : State) (o : OutletId) (x : Outlet) (m : Meter) (hx : x.stateTimer = none) :
    (s.withOutlet o x m).loadDwell o =
      s.withOutlet o { x with stateTimer := x.cycle.dwellTimer } m := by
  unfold State.loadDwell
  rw [withOutlet_outlet_self]
  cases hcycle : x.cycle with
  | localCycle n =>
    simp only [loadTimer_eq, withOutlet_outlet_self, withOutlet_meter_self, withOutlet_withOutlet, hcycle, CycleMember.dwellTimer]
  | none =>
    show s.withOutlet o x m = _
    rw [CycleMember.dwellTimer, ← hx, ← hcycle]
  | group =>
    show s.withOutlet o x m = _
    rw [CycleMember.dwellTimer, ← hx, ← hcycle]

theorem endOpening_of_restore (hx : x = a.outlet o) (hm : m = a.meter o) (hrestore : x.restoreIntent = true) :
    a.endOpening o =
      (a.withOutlet o { x.idle .dwell with stateTimer := x.cycle.dwellTimer } { m with overCount := 0 }).noteOpened o := by
  subst hx hm
  rw [State.endOpening, if_pos hrestore, place_rest _ _ rfl, loadDwell_of_idle _ _ _ _ rfl]
  rfl

/-- An outlet whose record was rewritten before it claims (R6, R104). -/
theorem enterClaiming_withOutlet (s : State) (o : OutletId) (x : Outlet) (m : Meter) (hstate : x.state ≠ .claiming)
    (hcfg : x.cfg = (s.outlet o).cfg) :
    (s.withOutlet o x m).enterClaiming o =
      { s.withOutlet o { x.idle .claiming with claimWait := some 0 } { m with overCount := 0 } with queues := (s.joinQueue o).queues } := by
  have hqueue : (s.withOutlet o x m).joinQueue o = { s.withOutlet o x m with queues := (s.joinQueue o).queues } := by
    refine joinQueue_of_same s _ o rfl (fun p => ?_)
    rw [withOutlet_outlet]
    split
    · next hp => rw [hp, hcfg]
    · rfl
  rw [enterClaiming_eq _ _ (by rw [withOutlet_outlet_self]; exact hstate), withOutlet_outlet_self, withOutlet_meter_self,
    withOutlet_withOutlet, hqueue]

/-- A local dwell ends, and its outlet claims (R20). -/
theorem leaveDwell_of_dwell (hx : x = a.outlet o) (hm : m = a.meter o) (hstate : x.state = .dwell) :
    a.leaveDwell o =
      { a.withOutlet o { x.idle .claiming with restoreIntent := false, cycle := .none, claimWait := some 0 } { m with overCount := 0 } with
        queues := (a.joinQueue o).queues } := by
  subst hx hm
  have hclaims := enterClaiming_withOutlet a o { a.outlet o with restoreIntent := false, cycle := .none } (a.meter o)
    (by rw [show ({ a.outlet o with restoreIntent := false, cycle := .none } : Outlet).state = (a.outlet o).state from rfl, hstate]; decide) rfl
  have hleaves : a.leaveDwell o = (a.withOutlet o { a.outlet o with restoreIntent := false, cycle := .none } (a.meter o)).enterClaiming o := by
    simp only [State.leaveDwell, setRestore_eq, setCycle_eq, withOutlet_outlet_self, withOutlet_meter_self, withOutlet_withOutlet]
  exact hleaves.trans hclaims

end

theorem passTime_cycle {s : State} (hr : s.inReset = false) (d : Nat) (o : OutletId) :
    ((s.passTime d).outlet o).cycle = (s.outlet o).cycle := by
  rw [passTime_outlet s d o hr]
  rfl

theorem localDwellDue_of_held {s : State} {o : OutletId} (hheld : s.isHeld (bankOf o) = true) : s.localDwellDue o = none := by
  simp [State.localDwellDue, hheld]

theorem localDwellDue_of_running {s : State} {o : OutletId} {d : Nat} (hstate : (s.outlet o).state = .dwell)
    (hcycle : ∃ n, (s.outlet o).cycle = .localCycle n) (hheld : s.isHeld (bankOf o) = false) (htimer : (s.outlet o).stateTimer = some d) :
    s.localDwellDue o = some d := by
  obtain ⟨n, hn⟩ := hcycle
  simp [State.localDwellDue, hstate, hn, cycleMemberCode, hheld, htimer]

/-- Settles O37, by the step that ends. -/
theorem openingStepsAndLocalDwellEndAtTheirTimers : Obligations.OpeningStepsAndLocalDwellEndAtTheirTimers := by
  unfold Obligations.OpeningStepsAndLocalDwellEndAtTheirTimers
  intro o s a d x m hr hconsistent htimer ha hx hm
  have hpassed : (s.outlet o).Passed x := by rw [hx, ha]; exact passTime_passed hr d o
  have hcycle : x.cycle = (s.outlet o).cycle := by rw [hx, ha]; exact passTime_cycle hr d o
  have due {sub : SubPhase} (hstate : x.state = .opening) (hsub : x.sub = some sub) : s.phaseDue o .opening sub = some d :=
    phaseDue_eq_some (hpassed.state.symm.trans hstate) (hpassed.sub.symm.trans hsub) htimer
  refine ⟨fun hstate hsub => ?align, fun hstate hsub hrestore => ?off, fun hstate hsub hrestore => ?dwells, fun hstate hlocal hheld => ?claims,
    fun hstate hlocal hheld => ?frozen⟩
  case align =>
    rw [← alignOpening_of_align hx hm (hpassed.consistent hconsistent) hstate hsub, ha]
    exact unlessReset_expire_some (·.phaseDue o .opening .align) _ hr (due hstate hsub)
  case off =>
    rw [← endOpening_of_off hx hm hrestore, ha]
    exact unlessReset_expire_some (·.phaseDue o .opening .settle) _ hr (due hstate hsub)
  case dwells =>
    have hexpires : exec (.openingSettleEnd o) s = .next (a.endOpening o).issueClaims := by
      rw [ha]
      exact unlessReset_expire_some (·.phaseDue o .opening .settle) _ hr (due hstate hsub)
    rw [hexpires, endOpening_of_restore hx hm hrestore]
    cases x.cycle <;> rfl
  case claims =>
    rw [← leaveDwell_of_dwell hx hm hstate, ha]
    exact unlessReset_expire_some (·.localDwellDue o) _ hr
      (localDwellDue_of_running (hpassed.state.symm.trans hstate) (by rw [← hcycle]; exact hlocal) hheld htimer)
  case frozen => exact unlessReset_expire_none (·.localDwellDue o) _ hr (localDwellDue_of_held hheld)

/-! ## The claim wait (R115) -/

/-- What time leaves of the blocks that have no timer. -/
theorem passTime_rest {s : State} (hr : s.inReset = false) (d : Nat) :
    (s.passTime d).conflicts = s.conflicts ∧ (s.passTime d).claims = s.claims ∧ (s.passTime d).link.state = s.link.state ∧
      (s.passTime d).banks = s.banks ∧ (s.passTime d).peers = s.peers := by
  simp [State.passTime, hr]

theorem claimWaitDue_of_held {s : State} {o : OutletId} (hheld : s.isHeld (bankOf o) = true) : s.claimWaitDue o = none := by
  simp [State.claimWaitDue, hheld]

theorem claimWaitDue_of_running {s : State} {o : OutletId} {t : Nat} (hstate : (s.outlet o).state = .claiming)
    (hwait : (s.outlet o).claimWait = some t) (hheld : s.isHeld (bankOf o) = false) :
    s.claimWaitDue o = some (s.cfg.claimWait * 1000 - t) := by
  simp [State.claimWaitDue, hstate, hwait, hheld]

/-- What the outlet waited on does not change with time. -/
theorem waitingOn_passTime {s : State} (hr : s.inReset = false) (d : Nat) (o : OutletId) :
    (s.passTime d).waitingOn o =
      if hasNumber s.conflicts (s.bank (bankOf o)).branch = true then 1
      else if 0 < (s.claim (bankOf o)).denials then 2
      else if s.link.state ≠ .active then 3
      else 4 := by
  obtain ⟨hconflicts, hclaims, hlink, hbanks, -⟩ := passTime_rest hr d
  simp only [State.waitingOn, State.bank, State.claim, hconflicts, hclaims, hlink, hbanks] <;> rfl

theorem branchTotal_passTime {s : State} (hr : s.inReset = false) (d : Nat) (b : Bank) :
    (s.passTime d).branchTotal ((s.passTime d).bank b).branch = s.branchTotal (s.bank b).branch := by
  obtain ⟨-, -, -, hbanks, hpeers⟩ := passTime_rest hr d
  simp only [State.branchTotal, State.bank, hbanks, hpeers]

theorem expireClaim_eq (a : State) (o : OutletId) :
    a.expireClaim o =
      (((a.leaveClaiming o).withOutlet o
        { (a.outlet o).idle .off with
          restoreIntent := false, cycle := if (a.outlet o).cycle = .group then .group else .none, target := .none }
        { a.meter o with overCount := 0 }).noteFailed o).post .claimExpired (o.val + 1) (a.waitingOn o)
          (a.branchTotal (a.bank (bankOf o)).branch) := by
  rw [State.expireClaim, place_rest _ _ rfl, leaveClaiming_outlet, leaveClaiming_meter]
  simp only [setTarget_eq, setRestore_eq, endLocal_state_eq, endLocal_eq, withOutlet_outlet_self, withOutlet_meter_self, withOutlet_withOutlet]
  rfl

/-- Settles O38. -/
theorem claimWaitExpiryEndsTheWait : Obligations.ClaimWaitExpiryEndsTheWait := by
  unfold Obligations.ClaimWaitExpiryEndsTheWait
  intro o b s a t x hr hstate hwait hb ha hx
  subst hb
  refine ⟨fun hheld => ?held, fun hnormal cause hcause => ?expires⟩
  case held => exact unlessReset_expire_none (·.claimWaitDue o) _ hr (claimWaitDue_of_held (decide_eq_true hheld))
  case expires =>
    have hfree : s.isHeld (bankOf o) = false := by simp [State.isHeld, hnormal]
    have hexpires : exec (.claimWaitExpiry o) s = .next (a.expireClaim o).issueClaims := by
      rw [ha]
      exact unlessReset_expire_some (·.claimWaitDue o) _ hr (claimWaitDue_of_running hstate hwait hfree)
    have hwaiting : a.waitingOn o = cause := by rw [ha, waitingOn_passTime hr, hcause]
    have htotal : a.branchTotal (a.bank (bankOf o)).branch = s.branchTotal (s.bank (bankOf o)).branch := by rw [ha, branchTotal_passTime hr]
    rw [hexpires, expireClaim_eq, hwaiting, htotal, hx]

end Sys2Proof.Machine
end

section
/-! PROOFS. The closure queues and the own claims: leaving, withdrawal, drop, absorb and issue (R75, R104, R107, R113, R117 to R119). -/

namespace Sys2Proof.Machine
open Sys2Proof

/-! ## Leaving a queue, withdrawing a claim (R104, R113) -/

section
variable {s : State} {o : OutletId} {b : Bank} {c : Claim}

theorem leaveQueue_eq (s : State) (o : OutletId) :
    s.leaveQueue o =
      { s with
        queues := s.queues.set (bankOf o) ((s.queue (bankOf o)).filter (fun x => x != o))
        claims := s.claims.set (bankOf o)
          { s.claim (bankOf o) with
            retryWait := if (s.claim (bankOf o)).retryWait = some o then none else (s.claim (bankOf o)).retryWait } } := by
  have hfilter : (fun x : OutletId => decide (x ≠ o)) = fun x => x != o := by funext x; by_cases h : x = o <;> simp [h]
  have hclaim : (if (s.claim (bankOf o)).retryWait = some o then { s.claim (bankOf o) with retryWait := none } else s.claim (bankOf o)) =
      { s.claim (bankOf o) with
        retryWait := if (s.claim (bankOf o)).retryWait = some o then none else (s.claim (bankOf o)).retryWait } := by
    split <;> rfl
  rw [← hclaim, ← hfilter]
  rfl

theorem withdrawClaim_of_not_sent (h : (s.claim b).state ≠ .sent) : s.withdrawClaim b = s := if_neg h

theorem leaveClaiming_of_claimed (h : (s.claim (bankOf o)).outlet = some o) :
    s.leaveClaiming o = (s.withdrawClaim (bankOf o)).leaveQueue o := by
  rw [State.leaveClaiming, if_pos h]

theorem leaveClaiming_of_free (h : (s.claim (bankOf o)).outlet ≠ some o ∨ (s.claim (bankOf o)).state ≠ .sent) :
    s.leaveClaiming o = s.leaveQueue o := by
  unfold State.leaveClaiming
  rcases h with h | h
  · rw [if_neg h]
  · rw [withdrawClaim_of_not_sent h, ite_self]

/-- The frame being sent is no CLAIM of the bank: the bank's CLAIM is removed at once (R77, R113). -/
theorem removeFrames_of_other (h : s.sendingClaim b = false) :
    s.removeFrames (isClaimOf b) = { s with link := { s.link with queue := s.link.queue.filter (fun x => !isClaimOf b x.frame) } } := by
  cases hsending : s.link.sending with
  | none => exact removeFrames_of_idle hsending (isClaimOf b)
  | some a =>
    have hother : isClaimOf b a.frame.frame = false := by simpa [State.sendingClaim, hsending] using h
    have hkept (x : QueuedFrame) : (!isClaimOf b x.frame || s.isSending x) = !isClaimOf b x.frame := by
      by_cases hx : a.frame = x
      · subst hx
        rw [hother]
        rfl
      · simp [State.isSending, hsending, hx]
    have hmap : s.link.sending.map (fun a => if isClaimOf b a.frame.frame then { a with removeAfter := true } else a) = s.link.sending := by
      simp [hsending, hother]
    simp only [State.removeFrames, State.modLink, hkept, hmap]

/-- The frame being sent is a CLAIM of the bank: its removal waits for the end of the attempt (R77, R113). -/
theorem removeFrames_of_sending {a : Sending} (hsending : s.link.sending = some a) (h : isClaimOf b a.frame.frame = true) :
    s.removeFrames (isClaimOf b) =
      { s with
        link := { s.link with
          queue := s.link.queue.filter (fun x => !isClaimOf b x.frame || x == a.frame), sending := some { a with removeAfter := true } } } := by
  have hkept (x : QueuedFrame) : s.isSending x = (x == a.frame) := by
    by_cases hx : a.frame = x
    · simp [State.isSending, hsending, hx]
    · simp [State.isSending, hsending, hx, Ne.symm hx]
  simp only [State.removeFrames, State.modLink, hkept, hsending, Option.map_some, h, if_true]

theorem withdrawClaim_of_unsent (hstate : (s.claim b).state = .sent) (h : s.sendingClaim b = false) :
    s.withdrawClaim b =
      { s with
        link := { s.link with queue := s.link.queue.filter (fun x => !isClaimOf b x.frame) }
        claims := s.claims.set b
          { s.claim b with state := .none, outlet := none, withdrawn := false, ending := .none, absorbCount := 0, retryWait := none } } := by
  rw [State.withdrawClaim, if_pos hstate, if_neg (Bool.eq_false_iff.1 h), removeFrames_of_other h]
  rfl

theorem withdrawClaim_of_sending (hstate : (s.claim b).state = .sent) {a : Sending} (hsending : s.link.sending = some a)
    (h : isClaimOf b a.frame.frame = true) :
    s.withdrawClaim b =
      { s with
        link := { s.link with
          queue := s.link.queue.filter (fun x => !isClaimOf b x.frame || x == a.frame), sending := some { a with removeAfter := true } }
        claims := s.claims.set b { s.claim b with withdrawn := true } } := by
  have hclaim : s.sendingClaim b = true := by rw [State.sendingClaim, hsending]; exact h
  rw [State.withdrawClaim, if_pos hstate, if_pos hclaim, removeFrames_of_sending hsending h]
  rfl

/-! ## Drop and absorb (R117 to R119) -/

theorem holds_iff : c.holds o = true ↔ c.state = .granted ∧ c.outlet = some o ∧ c.ending = .none := by simp [Claim.holds]

theorem dropClaim_of_held (h : (s.claim (bankOf o)).holds o = true) :
    s.dropClaim o = State.offerStatus { s with claims := s.claims.set (bankOf o) { s.claim (bankOf o) with ending := .dropped } } := by
  rw [State.dropClaim, if_pos h, State.markDropped, if_pos h]
  rfl

theorem dropClaim_of_free (h : ¬ (s.claim (bankOf o)).holds o = true) : s.dropClaim o = s := if_neg h

theorem markDropped_of_held (h : (s.claim (bankOf o)).holds o = true) :
    s.markDropped o = { s with claims := s.claims.set (bankOf o) { s.claim (bankOf o) with ending := .dropped } } := if_pos h

theorem markDropped_of_free (h : ¬ (s.claim (bankOf o)).holds o = true) : s.markDropped o = s := if_neg h

variable {clean : OutletId → Bool}

/-- A clean window of a claimed outlet that is ON (R117). -/
def State.absorbs (s : State) (b : Bank) (clean : OutletId → Bool) (o : OutletId) : Prop :=
  (s.claim b).outlet = some o ∧ (s.claim b).holds o = true ∧ (s.outlet o).state = .on ∧ clean o = true

theorem absorbWindow_counts (h : s.absorbs b clean o) (hcount : (s.claim b).absorbCount + 1 < (s.claim b).absorbTarget) :
    s.absorbWindow b clean = { s with claims := s.claims.set b { s.claim b with absorbCount := (s.claim b).absorbCount + 1 } } := by
  obtain ⟨houtlet, hholds, hon, hclean⟩ := h
  have hall : ((s.claim b).holds o && decide ((s.outlet o).state = .on) && clean o) = true := by simp [hholds, hon, hclean]
  rw [State.absorbWindow, houtlet]
  exact (if_pos hall).trans (if_pos hcount)

theorem absorbWindow_releases (h : s.absorbs b clean o) (hcount : (s.claim b).absorbTarget ≤ (s.claim b).absorbCount + 1) :
    s.absorbWindow b clean =
      State.offerStatus { s with
        claims := s.claims.set b { s.claim b with absorbCount := (s.claim b).absorbCount + 1, ending := .released } } := by
  obtain ⟨houtlet, hholds, hon, hclean⟩ := h
  have hall : ((s.claim b).holds o && decide ((s.outlet o).state = .on) && clean o) = true := by simp [hholds, hon, hclean]
  rw [State.absorbWindow, houtlet]
  exact (if_pos hall).trans (if_neg (Nat.not_lt.2 hcount))

theorem absorbWindow_of_other (h : ∀ o, ¬ s.absorbs b clean o) : s.absorbWindow b clean = s := by
  unfold State.absorbWindow
  split
  · rfl
  · next o houtlet =>
    refine if_neg (fun hall => ?_)
    simp only [Bool.and_eq_true, decide_eq_true_iff] at hall
    obtain ⟨⟨hholds, hon⟩, hclean⟩ := hall
    exact h o ⟨houtlet, hholds, hon, hclean⟩

end

/-- Settles O39. -/
theorem claimsLeaveAreDroppedAndAbsorbed : Obligations.ClaimsLeaveAreDroppedAndAbsorbed := by
  unfold Obligations.ClaimsLeaveAreDroppedAndAbsorbed
  refine ⟨fun s o b c hb hc => ?leave, fun s b c hc => ⟨fun o hb => ⟨fun hgranted houtlet hending => ?drop, fun hfree => ?kept⟩,
    fun clean => ⟨fun o hgranted houtlet hending hon hclean => ⟨fun hcount => ?counts, fun hcount => ?releases⟩, fun hfree => ?absorbs⟩⟩⟩
  case leave =>
    subst hb hc
    exact ⟨leaveQueue_eq s o, leaveClaiming_of_free, leaveClaiming_of_claimed, withdrawClaim_of_not_sent, withdrawClaim_of_unsent,
      fun hstate a hsending h => withdrawClaim_of_sending hstate hsending h⟩
  case drop =>
    subst hc hb
    exact dropClaim_of_held (holds_iff.2 ⟨hgranted, houtlet, hending⟩)
  case kept =>
    subst hc hb
    refine dropClaim_of_free (fun hholds => ?_)
    obtain ⟨hgranted, houtlet, hending⟩ := holds_iff.1 hholds
    exact hfree.elim (· hgranted) (·.elim (· houtlet) (· hending))
  case counts =>
    subst hc
    exact absorbWindow_counts ⟨houtlet, holds_iff.2 ⟨hgranted, houtlet, hending⟩, hon, hclean⟩ hcount
  case releases =>
    subst hc
    exact absorbWindow_releases ⟨houtlet, holds_iff.2 ⟨hgranted, houtlet, hending⟩, hon, hclean⟩ hcount
  case absorbs =>
    subst hc
    refine absorbWindow_of_other ?_
    rintro o ⟨houtlet, hholds, hon, hclean⟩
    obtain ⟨hgranted, -, hending⟩ := holds_iff.1 hholds
    refine hfree.elim (· hgranted) (·.elim (· hending) (fun hother => ?_))
    exact (hother o houtlet).elim (· hon) (fun h => Bool.eq_false_iff.1 h hclean)

/-! ## Issuing (R78, R107) -/

section
variable {s : State} {b : Bank} {head : OutletId} {rest : List OutletId}

theorem mayIssue_iff : s.mayIssue b head = true ↔
    s.phase = .running ∧ s.link.state = .active ∧ (s.claim b).state = .none ∧ (s.line b).state = .normal ∧ (s.claim b).retryWait ≠ some head := by
  simp [State.mayIssue, State.isHeld, and_assoc]

theorem issueClaim_of_refused (h : ∀ head rest, s.queue b = head :: rest → ¬ s.mayIssue b head = true) : s.issueClaim b = s := by
  unfold State.issueClaim
  split
  · rfl
  · next head rest hqueue => exact if_neg (h head rest hqueue)

theorem issueClaim_taken (hqueue : s.queue b = head :: rest) (hmay : s.mayIssue b head = true) (hlink : s.link.state = .active)
    (hroom : ordinaryCount s.link.queue < 30) :
    s.issueClaim b =
      { s with
        link := { s.link with
          queue := insertByKey
            (queuedFrame (7 - (s.claim b).denials) s.station (.claim ⟨b, (s.bank b).branch, head, (s.profile head).inrush⟩)) s.link.queue }
        claims := s.claims.set b
          { s.claim b with
            state := .sent, outlet := some head, amount := (s.profile head).inrush, absorbTarget := (s.profile head).absorb,
            absorbCount := 0, withdrawn := false, retryWait := none } } := by
  simp only [State.issueClaim, hqueue, hmay, if_true, offer_of_room _ _ (takesFrames_of_open (Or.inr hlink)) hroom]
  rfl

theorem issueClaim_not_taken (hqueue : s.queue b = head :: rest) (hmay : s.mayIssue b head = true)
    (hfull : 30 ≤ ordinaryCount s.link.queue) :
    s.issueClaim b = { s with claims := s.claims.set b { s.claim b with retryWait := some head } } := by
  simp only [State.issueClaim, hqueue, hmay, if_true, offer_of_full _ _ hfull]
  rfl

end

/-! ## The orders of the queues (R75, R104) -/

/-- Insertion into a list in order, behind what is of the same order. -/
theorem insertByOrder_sorted (order : OutletId → Nat) (o : OutletId) {q : List OutletId}
    (hq : q.Pairwise (fun x y => order x ≤ order y)) :
    insertByOrder order o q = q.filter (fun x => order x ≤ order o) ++ o :: q.filter (fun x => order o < order x) := by
  induction q with
  | nil => rfl
  | cons x q ih =>
    rw [List.pairwise_cons] at hq
    obtain ⟨hfirst, hrest⟩ := hq
    by_cases hlater : order o < order x
    · have hall : ∀ y ∈ q, order o < order y := fun y hy => Nat.lt_of_lt_of_le hlater (hfirst y hy)
      have hnone : q.filter (fun y => decide (order y ≤ order o)) = [] := by
        rw [List.filter_eq_nil_iff]
        intro y hy
        simpa using hall y hy
      have hkept : q.filter (fun y => decide (order o < order y)) = q := by
        rw [List.filter_eq_self]
        intro y hy
        simpa using hall y hy
      simp [insertByOrder, hlater, hnone, hkept, Nat.not_le.2 hlater]
    · simp [insertByOrder, hlater, Nat.not_lt.1 hlater, ih hrest]

theorem insertByKey_sorted (x : QueuedFrame) {q : List QueuedFrame} (hq : q.Pairwise (fun y z => y.key ≤ z.key)) :
    insertByKey x q = q.filter (fun y => y.key ≤ x.key) ++ x :: q.filter (fun y => x.key < y.key) := by
  induction q with
  | nil => rfl
  | cons y q ih =>
    rw [List.pairwise_cons] at hq
    obtain ⟨hfirst, hrest⟩ := hq
    by_cases hlater : x.key < y.key
    · have hall : ∀ z ∈ q, x.key < z.key := fun z hz => Nat.lt_of_lt_of_le hlater (hfirst z hz)
      have hnone : q.filter (fun z => decide (z.key ≤ x.key)) = [] := by
        rw [List.filter_eq_nil_iff]
        intro z hz
        simpa using hall z hz
      have hkept : q.filter (fun z => decide (x.key < z.key)) = q := by
        rw [List.filter_eq_self]
        intro z hz
        simpa using hall z hz
      simp [insertByKey, hlater, hnone, hkept, Nat.not_le.2 hlater]
    · simp [insertByKey, hlater, Nat.not_lt.1 hlater, ih hrest]

/-- Settles O40. -/
theorem claimsAreIssuedInBankOrder : Obligations.ClaimsAreIssuedInBankOrder := by
  unfold Obligations.ClaimsAreIssuedInBankOrder
  refine ⟨fun s => ⟨rfl, fun b c hc => ⟨fun hrefused => ?refused, fun head rest hqueue hphase hlink hstate hline hretry =>
    ⟨fun hroom => ?taken, fun hfull => ?notTaken⟩⟩⟩, fun s o b q hb hq => ⟨fun hmem => ?member, fun hmem hsorted => ?joins⟩,
    fun x q hq => insertByKey_sorted x hq⟩
  case refused =>
    subst hc
    refine issueClaim_of_refused (fun head rest hqueue hmay => ?_)
    obtain ⟨hphase, hlink, hstate, hline, hretry⟩ := mayIssue_iff.1 hmay
    rcases hrefused with h | h | h | h | h | ⟨first, hfirst, hhead⟩
    · rw [hqueue] at h; cases h
    · exact h hphase
    · exact h hlink
    · exact h hstate
    · exact h hline
    · rw [hqueue] at hhead
      obtain rfl : head = first := Option.some.inj hhead
      exact hretry hfirst
  case taken =>
    subst hc
    exact issueClaim_taken hqueue (mayIssue_iff.2 ⟨hphase, hlink, hstate, hline, hretry⟩) hlink hroom
  case notTaken =>
    subst hc
    exact issueClaim_not_taken hqueue (mayIssue_iff.2 ⟨hphase, hlink, hstate, hline, hretry⟩) hfull
  case member =>
    subst hq hb
    exact if_pos (by simpa using hmem)
  case joins =>
    subst hq hb
    rw [State.joinQueue, if_neg (by simpa using hmem), insertByOrder_sorted _ _ hsorted]
    rfl

end Sys2Proof.Machine
end

section
/-! PROOFS. A CLAIM judged, recorded and acted on; the totals and limits it is judged by; the unsent frames composed again (R95, R103, R110 to R112). -/

namespace Sys2Proof.Machine
open Sys2Proof

/-! ## The verdict (R103, R110) -/

section
variable {s : State} {k : StationId} {p : ClaimPayload}

theorem onBranch_iff {e : Peer} {n : BranchId} {b : Bank} :
    e.onBranch n b = true ↔ e.state ≠ .absent ∧ ∃ i, e.info = some i ∧ i.map.get b = n := by
  cases h : e.info <;> simp [Peer.onBranch, h, Peer.known]

theorem claimPassesChecks_iff : s.claimPassesChecks k p = true ↔
    (s.peer k).state ≠ .absent ∧ ∃ i, (s.peer k).info = some i ∧ i.map.get p.bank = p.branch := onBranch_iff

theorem grantRule_iff : s.grantRule k p = true ↔ hasNumber s.conflicts p.branch = false ∧
    s.branchTotal p.branch - (s.peer k).helds.get p.bank + p.amount ≤ s.ownLimit p.branch := by simp [State.grantRule]

/-- What a station finds of a CLAIM: it passes the checks, and where the station uses the branch the grant rule too (R110). -/
def State.grants (s : State) (k : StationId) (p : ClaimPayload) : Prop :=
  ((s.peer k).state ≠ .absent ∧ ∃ i, (s.peer k).info = some i ∧ i.map.get p.bank = p.branch) ∧
    (s.uses p.branch = true → hasNumber s.conflicts p.branch = false ∧
      s.branchTotal p.branch - (s.peer k).helds.get p.bank + p.amount ≤ s.ownLimit p.branch)

theorem grants_iff : s.grants k p ↔ s.claimPassesChecks k p = true ∧ (s.uses p.branch = true → s.grantRule k p = true) := by
  rw [State.grants, claimPassesChecks_iff, grantRule_iff]

theorem recordClaim_of_granted (h : s.grants k p) :
    s.recordClaim k p = { s with peers := s.peers.set k { s.peer k with helds := (s.peer k).helds.set p.bank p.amount } } := by
  obtain ⟨hchecks, hrule⟩ := grants_iff.1 h
  rw [State.recordClaim, if_pos hchecks]
  split
  · next huses => exact if_pos (hrule huses)
  · rfl

theorem recordClaim_of_denied (h : ¬ s.grants k p) : s.recordClaim k p = s := by
  unfold State.recordClaim
  split
  · next hchecks =>
    split
    · next huses => exact if_neg (fun hrule => h (grants_iff.2 ⟨hchecks, fun _ => hrule⟩))
    · next huses => exact absurd (grants_iff.2 ⟨hchecks, fun hu => absurd hu huses⟩) h
  · rfl

theorem verdict_iff (huses : s.uses p.branch = true) : s.verdict k p = true ↔ s.grants k p := by
  rw [grants_iff, State.verdict, Bool.and_eq_true]
  exact and_congr_right (fun _ => ⟨fun h _ => h, fun h => h huses⟩)

end

/-! ## The claimant (R112) -/

section
variable {r : State} {p : ClaimPayload} {c : Claim}

theorem actOnVerdict_of_other (granted : Bool) (h : (r.claim p.bank).state ≠ .sent) : r.actOnVerdict p granted = r := if_neg h

theorem actOnVerdict_denied (hc : r.claim p.bank = c) (h : c.state = .sent) :
    r.actOnVerdict p false = { r with claims := r.claims.set p.bank (c.denied p.outlet) } := by
  subst hc
  exact if_pos h

theorem denied_of_withdrawn (o : OutletId) (h : c.withdrawn = true) :
    c.denied o = { c with state := .none, outlet := none, withdrawn := false, ending := .none, absorbCount := 0, retryWait := none } := if_pos h

theorem denied_of_waiting (o : OutletId) (h : c.withdrawn = false) :
    c.denied o =
      { c with state := .none, outlet := none, ending := .none, absorbCount := 0, denials := min 7 (c.denials + 1), retryWait := some o } := by
  rw [Claim.denied, h, if_neg Bool.false_ne_true]
  rfl

theorem actOnVerdict_taken (hc : r.claim p.bank = c) (h : c.state = .sent) (hwithdrawn : c.withdrawn = false)
    (hclaiming : (r.outlet p.outlet).state = .claiming) :
    r.actOnVerdict p true =
      State.enterClosing { r with claims := r.claims.set p.bank { c with state := .granted, denials := 0, retryWait := none } } p.outlet := by
  subst hc
  have htaken : (!(r.claim p.bank).withdrawn && decide ((r.outlet p.outlet).state = .claiming)) = true := by simp [hwithdrawn, hclaiming]
  exact (if_pos h).trans ((if_pos rfl).trans (if_pos htaken))

theorem actOnVerdict_dropped (hc : r.claim p.bank = c) (h : c.state = .sent)
    (hother : c.withdrawn = true ∨ (r.outlet p.outlet).state ≠ .claiming) :
    r.actOnVerdict p true =
      State.offerStatus { r with claims := r.claims.set p.bank { c with state := .granted, withdrawn := false, ending := .dropped } } := by
  subst hc
  have hdropped : ¬ (!(r.claim p.bank).withdrawn && decide ((r.outlet p.outlet).state = .claiming)) = true := by
    rcases hother with hother | hother <;> simp [hother]
  exact (if_pos h).trans ((if_pos rfl).trans (if_neg hdropped))

end

/-! ## Totals, limits, and the unsent frames (R95, R103) -/

theorem uses_iff {s : State} {n : BranchId} : s.uses n = true ↔ ∃ b, (s.bank b).branch = n := by
  simp only [State.uses, Bool.not_eq_true', ← Bool.not_eq_true, List.isEmpty_iff, ← mem_ownBanksOn]
  exact ⟨fun h => List.exists_mem_of_ne_nil _ h, fun ⟨b, hb⟩ => List.ne_nil_of_mem hb⟩

/-- Where the banks on a branch agree on its limit, that is the station's limit (R103). -/
theorem ownLimit_of_agreed {s : State} {n : BranchId} {b : Bank} (hb : (s.bank b).branch = n)
    (hagree : ∀ a, (s.bank a).branch = n → (s.bank a).limit = (s.bank b).limit) : s.ownLimit n = (s.bank b).limit := by
  unfold State.ownLimit
  split
  · next hnone => exact absurd (mem_ownBanksOn.2 hb) (by rw [hnone]; exact List.not_mem_nil)
  · next a rest hbanks => exact hagree a (mem_ownBanksOn.1 (by rw [hbanks]; exact List.mem_cons_self))

theorem reservedIn_iff {q : List QueuedFrame} {k : FrameKind} : (reservedIn q k).isSome = true ↔ ∃ x ∈ q, frameKind x.frame = k := by
  simp [reservedIn]

/-- The unsent frames composed again, by which of them stand in the queue (R95). -/
theorem recompose_cases (s : State) (kinds : FrameKind → Prop) (hkinds : kinds = fun q => ∃ x ∈ s.link.queue, frameKind x.frame = q) :
    (¬kinds .status → ¬kinds .join → s.recompose = s) ∧ (kinds .status → ¬kinds .join → s.recompose = s.offerStatus) ∧
      (¬kinds .status → kinds .join → s.recompose = s.offerJoin false) ∧
        (kinds .status → kinds .join → s.recompose = s.offerStatus.offerJoin false) := by
  have hstands (k : FrameKind) : kinds k ↔ (reservedIn s.link.queue k).isSome = true := by rw [hkinds, reservedIn_iff]
  simp only [hstands, State.recompose]
  refine ⟨fun hstatus hjoin => ?_, fun hstatus hjoin => ?_, fun hstatus hjoin => ?_, fun hstatus hjoin => ?_⟩
  · rw [if_neg hjoin, if_neg hstatus]
  · rw [if_neg hjoin, if_pos hstatus]
  · rw [if_pos hjoin, if_neg hstatus]
  · rw [if_pos hjoin, if_pos hstatus]

section
variable {s : State} {k : StationId} {p : ClaimPayload}

theorem applyClaim_of_peer (h : k ≠ s.station) : s.applyClaim k p = (s.heardFrom k).recordClaim k p := if_neg h

/-- The claimant acts on what it recorded, and composes again. -/
theorem applyClaim_of_own (h : k = s.station) {granted : Bool} (hverdict : (s.heardFrom k).verdict k p = granted) :
    s.applyClaim k p = (((s.heardFrom k).recordClaim k p).actOnVerdict p granted).recompose := by
  rw [← hverdict]
  exact if_pos h

end

/-- Settles O41. -/
theorem claimsAreJudgedAndActedOn : Obligations.ClaimsAreJudgedAndActedOn := by
  unfold Obligations.ClaimsAreJudgedAndActedOn
  intro s h k p grant hh hgrant
  obtain rfl : grant = h.grants k p := hgrant
  refine ⟨⟨h.recordClaim k p, recordClaim_of_denied, recordClaim_of_granted, fun hpeer => ?peer, fun hown huses c x hc hx => ?own⟩, fun n => ?total,
    fun n => ⟨uses_iff, fun b hb hagree => ownLimit_of_agreed hb hagree⟩, recompose_cases s⟩
  case peer => rw [hh]; exact applyClaim_of_peer hpeer
  case total =>
    simp only [State.branchTotal, totalCeiling, Peer.sumOn]
    congr 4
    funext e
    congr 3
    funext b
    cases hinfo : e.info with
    | none => simp [Peer.onBranch, hinfo]
    | some i => rw [Bool.eq_iff_iff]; simp [onBranch_iff, hinfo]
  case own =>
    have hclaim : (h.recordClaim k p).claim p.bank = c := by rw [hc]; exact congrArg (fun t => t.get p.bank) (recordClaim_claims h k p)
    have houtlet : (h.recordClaim k p).outlet p.outlet = x := by rw [hx]; exact congrArg (fun t => t.get p.outlet) (recordClaim_outlets h k p)
    have applied {granted : Bool} (hverdict : h.verdict k p = granted) :
        s.applyClaim k p = ((h.recordClaim k p).actOnVerdict p granted).recompose := by
      rw [hh] at hverdict ⊢
      exact applyClaim_of_own hown hverdict
    have denied (hdenied : ¬ h.grants k p) : s.applyClaim k p = ((h.recordClaim k p).actOnVerdict p false).recompose :=
      applied (by rw [Bool.eq_false_iff, ne_eq, verdict_iff huses]; exact hdenied)
    have granted (hgranted : h.grants k p) : s.applyClaim k p = ((h.recordClaim k p).actOnVerdict p true).recompose :=
      applied ((verdict_iff huses).2 hgranted)
    refine ⟨fun hother => ?other, fun hsent hdenied hwithdrawn => ?withdrawn, fun hsent hdenied hwithdrawn => ?waits,
      fun hsent hgranted hwithdrawn hclaiming => ?taken, fun hsent hgranted hother => ?dropped⟩
    case other => rw [applied rfl, actOnVerdict_of_other _ (by rw [hclaim]; exact hother)]
    case withdrawn => rw [denied hdenied, actOnVerdict_denied hclaim hsent, denied_of_withdrawn _ hwithdrawn]
    case waits => rw [denied hdenied, actOnVerdict_denied hclaim hsent, denied_of_waiting _ hwithdrawn]
    case taken => rw [granted hgranted, actOnVerdict_taken hclaim hsent hwithdrawn (by rw [houtlet]; exact hclaiming)]
    case dropped => rw [granted hgranted, actOnVerdict_dropped hclaim hsent (by rw [houtlet]; exact hother)]

end Sys2Proof.Machine
end

section
/-! PROOFS. Zero-crossings: the peaks they show, the aligns they end, the half-cycles and windows they close (R8, R14, R29 to R31). -/

namespace Sys2Proof.Machine
open Sys2Proof

/-! ## The outlets of a bank, one after the other -/

theorem Tab.ext_get {α : Type} {n : Nat} {t u : Tab n α} (h : ∀ i, t.get i = u.get i) : t = u := by
  obtain ⟨cells, hcells⟩ := t
  obtain ⟨others, hothers⟩ := u
  have hlists : cells = others := List.ext_getElem (hcells.trans hothers.symm) (fun i hi _ => h ⟨i, hcells ▸ hi⟩)
  subst hlists
  rfl

/-- Steps that rewrite one outlet record each, taken for the outlets of a bank. -/
theorem foldl_outlets (f : State → OutletId → State) (s : State) (F : OutletId → Outlet) (hcfg : ∀ o, (F o).cfg = (s.outlet o).cfg)
    (h : ∀ t o, { t with outlets := s.outlets, meters := s.meters } = s → t.outlet o = s.outlet o → f t o = t.withOutlet o (F o) (t.meter o))
    (b : Bank) :
    { (bankOutlets b).foldl f s with outlets := s.outlets } = s ∧
      ∀ o, ((bankOutlets b).foldl f s).outlet o = if bankOf o = b then F o else s.outlet o := by
  obtain ⟨hrest, houtlets, hmeters⟩ := foldl_outletRecords f s (fun o => (F o, s.meter o)) hcfg
    (fun t o hrest houtlet hmeter _ => (h t o hrest houtlet).trans (by rw [hmeter])) (bankOutlets b) (bankOutlets_nodup b)
  have hkept : ((bankOutlets b).foldl f s).meters = s.meters := Tab.ext_get (fun o => (hmeters o).trans (ite_self _))
  rw [← hkept] at hrest
  exact ⟨hrest, fun o => by rw [houtlets o]; simp only [bankOutlets_mem]⟩

/-! ## The peak since ALIGN began (R14) -/

/-- A current seen by an outlet: remembered while it aligns an opening. -/
def Outlet.seePeak (peak : Nat) (x : Outlet) : Outlet :=
  if x.state = .opening ∧ x.sub = some .align then { x with alignPeak := max x.alignPeak peak } else x

theorem isIn_iff (s : State) (o : OutletId) (st : OutletState) (sub : SubPhase) :
    s.isIn o st sub = true ↔ (s.outlet o).state = st ∧ (s.outlet o).sub = some sub := by
  simp [State.isIn]

theorem notePeak_eq (s : State) (o : OutletId) (peak : Nat) :
    s.notePeak o peak = s.withOutlet o ((s.outlet o).seePeak peak) (s.meter o) := by
  unfold State.notePeak Outlet.seePeak
  by_cases h : (s.outlet o).state = .opening ∧ (s.outlet o).sub = some .align
  · rw [if_pos ((isIn_iff ..).2 h), if_pos h, modOutlet_eq]
  · rw [if_neg (mt (isIn_iff ..).1 h), if_neg h, withOutlet_self]

theorem seePeak_part (peak : Nat) (x : Outlet) : (x.seePeak peak).switchPart = x.switchPart ∧ (x.seePeak peak).cfg = x.cfg := by
  unfold Outlet.seePeak
  split <;> exact ⟨rfl, rfl⟩

theorem notePeaks_spec (s : State) (b : Bank) (peaks : List Nat) :
    { s.notePeaks b peaks with outlets := s.outlets } = s ∧
      ∀ o, (s.notePeaks b peaks).outlet o = if bankOf o = b then (s.outlet o).seePeak (measured peaks o) else s.outlet o :=
  foldl_outlets _ s (fun o => (s.outlet o).seePeak (measured peaks o)) (fun o => (seePeak_part _ _).2)
    (fun t o _ houtlet => by rw [notePeak_eq, houtlet]) b

/-! ## The aligns a voltage crossing ends (R8, R14) -/

/-- The record of an outlet whose bank's voltage crosses zero. -/
def Outlet.cross (p : Profile) (x : Outlet) : Outlet :=
  if x.state = .closing ∧ x.sub = some .align then
    { x with sub := some .coil, relay := .closed, coil := .pulse, unalignedLast := false, stateTimer := some p.coilPulse }
  else if x.state = .opening ∧ x.sub = some .align ∧ x.alignPeak ≤ 10 then
    { x with sub := some .settle, coil := .off, unalignedLast := false, stateTimer := some p.settle }
  else x

theorem opens_on_crossing_iff (s : State) (o : OutletId) :
    (s.isIn o .opening .align && decide ((s.outlet o).alignPeak ≤ alignCurrent)) = true ↔
      (s.outlet o).state = .opening ∧ (s.outlet o).sub = some .align ∧ (s.outlet o).alignPeak ≤ 10 := by
  rw [Bool.and_eq_true, isIn_iff, decide_eq_true_eq, and_assoc, alignCurrent]

theorem crossOutlet_eq (s : State) (o : OutletId) (h : (s.outlet o).consistent) :
    s.crossOutlet o = s.withOutlet o ((s.outlet o).cross (s.profile o))
      (if (s.outlet o).cross (s.profile o) = s.outlet o then s.meter o else { s.meter o with overCount := 0, disturbed := true }) := by
  unfold State.crossOutlet Outlet.cross
  by_cases hclosing : (s.outlet o).state = .closing ∧ (s.outlet o).sub = some .align
  · rw [if_pos ((isIn_iff ..).2 hclosing), if_pos hclosing, alignClosing_of_align rfl rfl h hclosing.1 hclosing.2, if_neg]
    intro heq
    have hsub := congrArg Outlet.sub heq
    rw [hclosing.2] at hsub
    cases hsub
  rw [if_neg (mt (isIn_iff ..).1 hclosing), if_neg hclosing]
  by_cases hopening : (s.outlet o).state = .opening ∧ (s.outlet o).sub = some .align ∧ (s.outlet o).alignPeak ≤ 10
  · obtain ⟨hstate, hsub, hpeak⟩ := hopening
    rw [if_pos ((opens_on_crossing_iff s o).2 ⟨hstate, hsub, hpeak⟩), if_pos ⟨hstate, hsub, hpeak⟩,
      alignOpening_of_align rfl rfl h hstate hsub, if_neg]
    intro heq
    have heq' := congrArg Outlet.sub heq
    rw [hsub] at heq'
    cases heq'
  · rw [if_neg (mt (opens_on_crossing_iff s o).1 hopening), if_neg hopening, if_pos rfl, withOutlet_self]

theorem cross_cfg (p : Profile) (x : Outlet) : (x.cross p).cfg = x.cfg := by
  unfold Outlet.cross
  split
  · rfl
  · split <;> rfl

theorem crossOutlets_spec (s : State) (b : Bank) (h : s.outletsConsistent) :
    { s.crossOutlets b with outlets := s.outlets, meters := s.meters } = s ∧
      (∀ o, (s.crossOutlets b).outlet o = if bankOf o = b then (s.outlet o).cross (s.profile o) else s.outlet o) ∧
      ∀ o, (s.crossOutlets b).meter o =
        if (s.crossOutlets b).outlet o = s.outlet o then s.meter o else { s.meter o with overCount := 0, disturbed := true } := by
  obtain ⟨hrest, houtlets, hmeters⟩ := foldl_outletRecords State.crossOutlet s
    (fun o => ((s.outlet o).cross (s.profile o),
      if (s.outlet o).cross (s.profile o) = s.outlet o then s.meter o else { s.meter o with overCount := 0, disturbed := true }))
    (fun o => cross_cfg _ _)
    (fun t o hrest houtlet hmeter _ => by
      have hprofile : t.profile o = s.profile o := by
        rw [State.profile, State.profile, houtlet, show t.profiles = s.profiles from (congrArg State.profiles hrest :)]
      rw [crossOutlet_eq t o (by rw [houtlet]; exact h o), houtlet, hmeter, hprofile])
    (bankOutlets b) (bankOutlets_nodup b)
  refine ⟨hrest, fun o => (houtlets o).trans (by simp only [bankOutlets_mem]), fun o => ?_⟩
  have houtlet := houtlets o
  have hmeter := hmeters o
  rw [State.crossOutlets, hmeter, houtlet]
  split
  · rfl
  · rw [if_pos rfl]

/-! ## The hold-off (R29) -/

theorem heldOff_some {last : Option Stamp} {t now : Stamp} (hlast : last = some t) (h : microsBetween t now < 2000) : heldOff last now = true := by
  rw [hlast]
  exact decide_eq_true h

theorem heldOff_of_later {last : Option Stamp} {now : Stamp} (h : ∀ t, last = some t → 2000 ≤ microsBetween t now) : heldOff last now = false := by
  cases last with
  | none => rfl
  | some t => exact decide_eq_false (Nat.not_lt.2 (h t rfl))

section
variable {s : State} {b : Bank} {edge : Edge} {micros : Fin 1000} {h : HalfMeasure} {w : WindowMeasure} (hr : s.inReset = false)
include hr

theorem exec_voltageZeroCrossing_held (hheld : heldOff (s.line b).lastCross (s.now micros) = true) :
    exec (.voltageZeroCrossing b edge micros h w) s = .next (s.notePeaks b h.peaks) :=
  congrArg Host.Outcome.next ((unlessReset_running hr _).trans (if_pos hheld))

theorem exec_voltageZeroCrossing_taken (hheld : heldOff (s.line b).lastCross (s.now micros) = false) :
    exec (.voltageZeroCrossing b edge micros h w) s =
      .next ((s.notePeaks b h.peaks).takeVoltageCrossing b edge (s.now micros) h w).issueClaims :=
  congrArg Host.Outcome.next ((unlessReset_running hr _).trans (if_neg (Bool.eq_false_iff.1 hheld)))

end

/-- The peaks a crossing shows change neither what an outlet's switch does nor its profile. -/
theorem notePeaks_parts (s : State) (b : Bank) (peaks : List Nat) (o : OutletId) :
    ((s.notePeaks b peaks).outlet o).switchPart = (s.outlet o).switchPart ∧ (s.notePeaks b peaks).profile o = s.profile o := by
  obtain ⟨hrest, houtlet⟩ := notePeaks_spec s b peaks
  have hparts : ((s.notePeaks b peaks).outlet o).switchPart = (s.outlet o).switchPart ∧
      ((s.notePeaks b peaks).outlet o).cfg = (s.outlet o).cfg := by
    rw [houtlet o]
    split
    · exact seePeak_part _ _
    · exact ⟨rfl, rfl⟩
  refine ⟨hparts.1, ?_⟩
  rw [State.profile, State.profile, hparts.2, show (s.notePeaks b peaks).profiles = s.profiles from (congrArg State.profiles hrest :)]

/-- The aligns that a voltage crossing ends, from the state before its peaks were seen (R8, R14). -/
theorem crossOutlets_of_notePeaks (s a : State) (b : Bank) (peaks : List Nat) (h : s.outletsConsistent) (ha : a = s.notePeaks b peaks) :
    { a.crossOutlets b with outlets := a.outlets, meters := a.meters } = a ∧
      (∀ o, (a.crossOutlets b).outlet o =
        if bankOf o = b ∧ (s.outlet o).state = .closing ∧ (s.outlet o).sub = some .align then
          { a.outlet o with
            sub := some .coil, relay := .closed, coil := .pulse, unalignedLast := false, stateTimer := some (s.profile o).coilPulse }
        else if bankOf o = b ∧ (s.outlet o).state = .opening ∧ (s.outlet o).sub = some .align ∧ (a.outlet o).alignPeak ≤ 10 then
          { a.outlet o with sub := some .settle, coil := .off, unalignedLast := false, stateTimer := some (s.profile o).settle }
        else a.outlet o) ∧
      ∀ o, (a.crossOutlets b).meter o =
        if (a.crossOutlets b).outlet o = a.outlet o then s.meter o else { s.meter o with overCount := 0, disturbed := true } := by
  have hparts (o : OutletId) : (a.outlet o).switchPart = (s.outlet o).switchPart ∧ a.profile o = s.profile o := by
    rw [ha]
    exact notePeaks_parts s b peaks o
  have hmeter (o : OutletId) : a.meter o = s.meter o := by
    rw [ha, State.meter, State.meter, show (s.notePeaks b peaks).meters = s.meters from (congrArg State.meters (notePeaks_spec s b peaks).1 :)]
  obtain ⟨hrest, houtlets, hmeters⟩ := crossOutlets_spec a b (fun o => Outlet.consistent_of_part (hparts o).1 (h o))
  refine ⟨hrest, fun o => ?_, fun o => (hmeters o).trans (by rw [hmeter o])⟩
  rw [houtlets o, Outlet.cross, (hparts o).2, ← Outlet.state_of_part (hparts o).1,
    ← show (a.outlet o).sub = (s.outlet o).sub from congrArg (·.2.1) (hparts o).1]
  by_cases hb : bankOf o = b
  · simp only [hb, if_true, true_and]
  · simp only [hb, if_false, false_and]

/-- Settles O42. -/
theorem voltageCrossingsReachTheOutlets : Obligations.VoltageCrossingsReachTheOutlets := by
  unfold Obligations.VoltageCrossingsReachTheOutlets
  intro b edge micros h w s a hr hconsistent ha
  obtain ⟨hrest, houtlet⟩ := notePeaks_spec s b h.peaks
  obtain ⟨hcrossed, haligns, hmeters⟩ := crossOutlets_of_notePeaks s a b h.peaks hconsistent ha
  refine ⟨⟨ha ▸ hrest, fun o => ?peaks⟩, fun t hlast hnear => ?ignored, fun hlater => ⟨a.crossOutlets b, hcrossed, haligns, hmeters,
    fun half hhalf => ?taken⟩⟩
  case peaks =>
    rw [ha, houtlet o]
    by_cases hb : bankOf o = b
    · simp only [hb, if_true, true_and]
      rfl
    · simp only [hb, if_false, false_and]
  case ignored =>
    rw [ha]
    exact exec_voltageZeroCrossing_held hr (heldOff_some hlast hnear)
  case taken =>
    have htaken := exec_voltageZeroCrossing_taken (edge := edge) (h := h) (w := w) hr (heldOff_of_later (now := s.now micros) hlater)
    have hlines : a.lines = s.lines := by
      rw [ha]
      exact (congrArg State.lines hrest :)
    have hline : (a.crossOutlets b).modLine b (fun l => { l with lastCross := some (s.now micros) }) =
        { a.crossOutlets b with lines := s.lines.set b { s.line b with lastCross := some ⟨s.boardTime, micros⟩ } } := by
      rw [State.modLine, State.line, show (a.crossOutlets b).lines = s.lines from (congrArg State.lines hcrossed :).trans hlines]
      rfl
    rw [← ha] at htaken
    unfold State.takeVoltageCrossing at htaken
    rw [hline] at htaken
    exact ⟨fun hedge => by rw [htaken, hedge, hhalf]; rfl, fun hedge => by rw [htaken, hedge, hhalf]; rfl⟩

/-! ## Current crossings -/

section
variable {s : State} {o : OutletId} {micros : Fin 1000} {peak : Nat} (hr : s.inReset = false)
include hr

theorem exec_currentZeroCrossing_held (hheld : heldOff (s.meter o).lastCross (s.now micros) = true) :
    exec (.currentZeroCrossing o micros peak) s = .next (s.notePeak o peak) :=
  congrArg Host.Outcome.next ((unlessReset_running hr _).trans (if_pos hheld))

theorem exec_currentZeroCrossing_taken (hheld : heldOff (s.meter o).lastCross (s.now micros) = false) :
    exec (.currentZeroCrossing o micros peak) s = .next ((s.notePeak o peak).takeCurrentCrossing o (s.now micros)) :=
  congrArg Host.Outcome.next ((unlessReset_running hr _).trans (if_neg (Bool.eq_false_iff.1 hheld)))

end

section
variable (s : State) (o : OutletId) (x : Outlet) (m : Meter) (now : Stamp)

theorem modMeter_withOutlet (f : Meter → Meter) : (s.withOutlet o x m).modMeter o f = s.withOutlet o x (f m) := by
  simp [State.modMeter, State.withOutlet, State.meter]

theorem takeCurrentCrossing_settles (h : x.consistent) (hcfg : x.cfg = (s.outlet o).cfg) (hstate : x.state = .opening)
    (hsub : x.sub = some .align) (hpeak : 10 < x.alignPeak) :
    (s.withOutlet o x m).takeCurrentCrossing o now =
      s.withOutlet o { x with sub := some .settle, coil := .off, unalignedLast := false, stateTimer := some (s.profile o).settle }
        { m with lastCross := some now, overCount := 0, disturbed := true } := by
  have hprofile (n : Meter) : (s.withOutlet o x n).profile o = s.profile o := by
    rw [State.profile, State.profile, withOutlet_outlet_self, hcfg]
    rfl
  rw [State.takeCurrentCrossing, modMeter_withOutlet,
    if_pos (by simpa [isIn_iff, alignCurrent, hstate, hsub] using hpeak),
    alignOpening_of_align (withOutlet_outlet_self ..).symm (withOutlet_meter_self ..).symm h hstate hsub, withOutlet_withOutlet, hprofile]

theorem takeCurrentCrossing_passes (h : x.state ≠ .opening ∨ x.sub ≠ some .align ∨ x.alignPeak ≤ 10) :
    (s.withOutlet o x m).takeCurrentCrossing o now = s.withOutlet o x { m with lastCross := some now } := by
  rw [State.takeCurrentCrossing, modMeter_withOutlet, if_neg]
  intro hends
  obtain ⟨⟨hstate, hsub⟩, hpeak⟩ : (x.state = .opening ∧ x.sub = some .align) ∧ 10 < x.alignPeak := by
    simpa [isIn_iff, alignCurrent] using hends
  rcases h with h | h | h
  · exact h hstate
  · exact h hsub
  · exact absurd h (Nat.not_le.2 hpeak)

end

/-- Settles O43. -/
theorem currentCrossingsEndTheOpeningAlign : Obligations.CurrentCrossingsEndTheOpeningAlign := by
  unfold Obligations.CurrentCrossingsEndTheOpeningAlign
  intro o micros peak s x m hr hconsistent hm hx
  have hnote : s.notePeak o peak = s.withOutlet o x m := by
    rw [notePeak_eq, hm, hx]
    rfl
  obtain ⟨hpart, hcfg⟩ : x.switchPart = (s.outlet o).switchPart ∧ x.cfg = (s.outlet o).cfg := by
    rw [hx]
    exact seePeak_part peak (s.outlet o)
  refine ⟨fun t hlast hnear => ?ignored, fun hlater => ⟨fun hstate hsub hpeak => ?settles, fun h => ?passes⟩⟩
  case ignored =>
    rw [← hnote]
    exact exec_currentZeroCrossing_held hr (heldOff_some (hm ▸ hlast) hnear)
  all_goals
    rw [exec_currentZeroCrossing_taken hr (heldOff_of_later (now := s.now micros) (hm ▸ hlater)), hnote]
  case settles => rw [takeCurrentCrossing_settles s o x m _ (Outlet.consistent_of_part hpart hconsistent) hcfg hstate hsub hpeak]; rfl
  case passes => rw [takeCurrentCrossing_passes s o x m _ h]; rfl

end Sys2Proof.Machine
end

section
/-! PROOFS. Half-cycles, trips and sags: the line monitor and the trip watch (R30, R42 to R45, R51 to R57, R59). -/

namespace Sys2Proof.Machine
open Sys2Proof

/-! ## Trips (R43 to R45) -/

theorem placeTripped_disturb (s : State) (o : OutletId) :
    (s.placeTripped o).disturb o =
      s.withOutlet o
        { (s.outlet o).idle .tripped with
          restoreIntent := false, target := .none, cycle := if (s.outlet o).cycle = .group then .group else .none }
        { s.meter o with overCount := 0, disturbed := true } := by
  rw [State.placeTripped, place_rest _ _ rfl]
  simp only [State.disturb, setRestore_eq, setTarget_eq, endLocal_state_eq, endLocal_eq, withOutlet_outlet_self, withOutlet_meter_self,
    withOutlet_withOutlet, modMeter_withOutlet]
  rfl

theorem trip_of_live (s : State) (o : OutletId) (reason : TripReason) (value : Nat) (h : (s.outlet o).coil ≠ .off) :
    s.trip o reason value =
      (((((s.placeTripped o).disturb o).dropClaim o).noteOpened o).noteFailed o).post .trip (o.val + 1) (tripReasonCode reason) value :=
  if_pos (decide_eq_true h)

theorem trip_of_not_live (s : State) (o : OutletId) (reason : TripReason) (value : Nat) (h : (s.outlet o).coil = .off) :
    s.trip o reason value = s :=
  if_neg (by simp [Outlet.live, h])

/-- Settles O45. -/
theorem tripsLockTheOutletOut : Obligations.TripsLockTheOutletOut := by
  unfold Obligations.TripsLockTheOutletOut
  intro o s x m hx hm
  subst hx hm
  refine ⟨fun reason value hlive => ?_, fun reason value hdead => trip_of_not_live s o reason value hdead, fun magnitude hr => ⟨fun h => ?_, fun h => ?_⟩⟩
  · rw [trip_of_live s o reason value hlive, placeTripped_disturb]
    cases reason <;> rfl
  · exact congrArg Host.Outcome.next ((unlessReset_running hr _).trans (if_pos h))
  · exact congrArg Host.Outcome.next ((unlessReset_running hr _).trans (if_neg (Nat.not_lt.2 h)))

/-! ## The trip watch (R42) -/

section
variable (amps : List Nat) (s : State) (o : OutletId)

theorem modMeter_eq (f : Meter → Meter) : s.modMeter o f = s.withOutlet o (s.outlet o) (f (s.meter o)) := by
  simp [State.modMeter, State.withOutlet, State.outlet]

theorem watchOutlet_of_not_live (h : (s.outlet o).coil = .off) : State.watchOutlet amps s o = s :=
  if_neg (by simp [Outlet.live, h])

/-- The trip watch of a live outlet, by its over-count after the half-cycle. -/
theorem watchOutlet_of_live (h : (s.outlet o).coil ≠ .off) {n : Nat}
    (hn : overCountAfter (s.outlet o).cfg.tripThreshold (measured amps o) (s.meter o).overCount = n) :
    State.watchOutlet amps s o =
      if 2 ≤ n then (s.withOutlet o (s.outlet o) { s.meter o with overCount := n }).trip o .halfCycle (measured amps o)
      else s.withOutlet o (s.outlet o) { s.meter o with overCount := n } := by
  rw [State.watchOutlet, if_pos (show (s.outlet o).live = true from decide_eq_true h)]
  simp only [hn, modMeter_eq]

end

/-! ## The line monitor (R51 to R53, R57) -/

section
variable (s : State) (b : Bank) (volts : Nat) (onCrossings : Bool)

/-- A half-cycle in NORMAL or RECOVERING, by the count of low ones after it. -/
theorem judgeHalf_of_not_sag (h : (s.line b).state ≠ .sag) :
    s.judgeHalf b volts onCrossings =
      if 3 ≤ (if volts < s.sagThreshold then (s.line b).low + 1 else 0) then
        (s.modLine b (fun l => { l with low := if volts < s.sagThreshold then (s.line b).low + 1 else 0 })).sagCondition b .lowVoltage
      else s.modLine b (fun l => { l with low := if volts < s.sagThreshold then (s.line b).low + 1 else 0 }) := by
  unfold State.judgeHalf
  split
  · rfl
  · rfl
  · next hsag => exact absurd hsag h

/-- A half-cycle in SAG, by the count of good ones after it. -/
theorem judgeHalf_of_sag (h : (s.line b).state = .sag) {n : Nat}
    (hn : (if onCrossings && decide (s.recoveryLevel ≤ volts) then (s.line b).good + 1 else 0) = n) :
    s.judgeHalf b volts onCrossings =
      if 3 ≤ n then (s.modLine b (fun l => { l with good := n })).enterRecovering b else s.modLine b (fun l => { l with good := n }) := by
  rw [State.judgeHalf, h]
  simp only [hn]

theorem enterRecovering_eq (n : Nat) :
    (s.modLine b (fun l => { l with good := n })).enterRecovering b =
      State.offerStatus { s with
        lines := s.lines.set b { s.line b with state := .recovering, low := 0, good := 0, recovery := some (s.cfg.recoveryWait * 100) } } := by
  simp only [State.enterRecovering, State.modLine, State.line, Banked.get_set_self, Banked.set_set, Line.enter]

end

theorem passTime_windows {s : State} (hr : s.inReset = false) (d : Nat) : (s.passTime d).windows = s.windows := by
  simp [State.passTime, hr]

/-- Rounding a product to the nearest hundredth leaves a tie open (R51, log 5). -/
theorem roundNearest_mul_near (n k : Nat) :
    2 * roundNearest (n * k) 100 * 100 ≤ 2 * n * k + 100 ∧ 2 * n * k ≤ 2 * roundNearest (n * k) 100 * 100 + 100 := by
  rw [Nat.mul_assoc 2 n k]
  exact roundNearest_near (n * k) 100 (by decide)

/-- Settles O44: the timeout, the hand-over, the thresholds, the line monitor, the trip watch. -/
theorem halfCyclesAreJudgedAndWatched : Obligations.HalfCyclesAreJudgedAndWatched := by
  unfold Obligations.HalfCyclesAreJudgedAndWatched
  intro s
  refine ⟨fun b h w d a hr hw hd ha => ?timeout, fun b h crossing start w hw => by rw [hw]; rfl,
    roundNearest_mul_near s.cfg.nominal s.cfg.sagPercent, roundNearest_mul_near s.cfg.nominal (s.cfg.sagPercent + 5), fun b volts onCrossings l hl => ?monitor,
    fun amps o x m n hx hm hn => ?watch⟩
  case timeout =>
    have hwindow : a.window b = w := by rw [ha, hw, State.window, passTime_windows hr]; rfl
    have hexpires := unlessReset_expire_some (s := s) (·.halfDue b)
      (fun s => ((s.notePeaks b h.peaks).closeHalf b h false (s.window b).nextHalf).issueClaims) hr (d := d) (by rw [hd, hw]; rfl)
    rw [← ha, hwindow] at hexpires
    exact hexpires
  case monitor =>
    subst hl
    refine ⟨fun h hgood => ?_, fun h hlow hfew => ?_, fun h hlow hmany => ?_, fun h hnot => ?_, fun h hon hlevel hfew => ?_,
      fun h hon hlevel hmany => ?_⟩
    · rw [judgeHalf_of_not_sag s b volts onCrossings h, if_neg (Nat.not_lt.2 hgood), if_neg (by decide)]
      rfl
    · rw [judgeHalf_of_not_sag s b volts onCrossings h, if_pos hlow, if_neg (by omega)]
      rfl
    · rw [judgeHalf_of_not_sag s b volts onCrossings h, if_pos hlow, if_pos (by omega)]
      rfl
    · have hzero : (if onCrossings && decide (s.recoveryLevel ≤ volts) then (s.line b).good + 1 else 0) = 0 := by
        rcases hnot with hnot | hnot
        · rw [hnot]
          rfl
        · rw [if_neg (by simp [Nat.not_le.2 hnot])]
      rw [judgeHalf_of_sag s b volts onCrossings h hzero, if_neg (by decide)]
      rfl
    all_goals
      have hone : (if onCrossings && decide (s.recoveryLevel ≤ volts) then (s.line b).good + 1 else 0) = (s.line b).good + 1 :=
        if_pos (by simp [hon, hlevel])
      rw [judgeHalf_of_sag s b volts onCrossings h hone]
    · rw [if_neg (by omega)]
      rfl
    · rw [if_pos (by omega), enterRecovering_eq]
  case watch =>
    subst hx hm hn
    refine ⟨watchOutlet_of_not_live amps s o, fun hlive hlow => ?_, fun hlive hover hfirst => ?_, fun hlive hover hsecond => ?_⟩
    · rw [watchOutlet_of_live amps s o hlive (if_neg (Nat.not_lt.2 hlow)), if_neg (by decide)]
    · rw [watchOutlet_of_live amps s o hlive (if_pos hover), if_neg (by omega), hfirst]
    · rw [watchOutlet_of_live amps s o hlive (if_pos hover), if_pos (by omega)]
      rfl

end Sys2Proof.Machine
end

section
/-! PROOFS. Entry into SAG and the return to NORMAL (R53 to R60). -/

namespace Sys2Proof.Machine
open Sys2Proof

/-! ## The disturbed windows of a bank (R35) -/

/-- Steps that write one outlet's meter values each, taken for the outlets of a bank. -/
theorem foldl_meters (f : State → OutletId → State) (s : State) (F : OutletId → Meter)
    (h : ∀ t o, { t with outlets := s.outlets, meters := s.meters } = s → t.outlet o = s.outlet o → t.meter o = s.meter o →
      f t o = t.withOutlet o (t.outlet o) (F o)) (b : Bank) :
    { (bankOutlets b).foldl f s with meters := s.meters } = s ∧
      ∀ o, ((bankOutlets b).foldl f s).meter o = if bankOf o = b then F o else s.meter o := by
  obtain ⟨hrest, houtlets, hmeters⟩ := foldl_outletRecords f s (fun o => (s.outlet o, F o)) (fun _ => rfl)
    (fun t o hrest houtlet hmeter _ => (h t o hrest houtlet hmeter).trans (by rw [houtlet])) (bankOutlets b) (bankOutlets_nodup b)
  have hkept : ((bankOutlets b).foldl f s).outlets = s.outlets := Tab.ext_get (fun o => (houtlets o).trans (ite_self _))
  rw [← hkept] at hrest
  exact ⟨hrest, fun o => by rw [hmeters o]; simp only [bankOutlets_mem]⟩

theorem disturbBank_spec (s : State) (b : Bank) :
    { s.disturbBank b with meters := s.meters } = s ∧
      ∀ o, (s.disturbBank b).meter o = { s.meter o with disturbed := (s.meter o).disturbed || bankOf o == b } := by
  obtain ⟨hrest, hmeters⟩ := foldl_meters State.disturb s (fun o => { s.meter o with disturbed := true })
    (fun t o _ _ hmeter => by rw [State.disturb, modMeter_eq, hmeter]) b
  refine ⟨hrest, fun o => (hmeters o).trans ?_⟩
  by_cases hb : bankOf o = b
  · simp [hb]
  · rw [if_neg hb, beq_false_of_ne hb, Bool.or_false]

/-! ## The outlets on entry into SAG (R55, R56) -/

section
variable {s : State} {b : Bank} {o : OutletId}

theorem endPendingOff_of_restore (h : (s.outlet o).restoreIntent = true) :
    s.endPendingOff o = s.withOutlet o ((s.outlet o).idle .dwell) { s.meter o with overCount := 0 } := by
  rw [State.endPendingOff, if_pos h, place_rest _ _ rfl]

theorem endPendingOff_of_no_restore (h : (s.outlet o).restoreIntent = false) :
    s.endPendingOff o = (s.withOutlet o ((s.outlet o).idle .off) { s.meter o with overCount := 0 }).meetTarget o := by
  rw [State.endPendingOff, if_neg (by rw [h]; decide), State.enterOff, place_rest _ _ rfl]

theorem sagOutlet_on (hstate : (s.outlet o).state = .on) :
    s.sagOutlet b o = if (s.line b).shedInUse = true then (s.place o .shed none).markDropped o else s := by
  rw [State.sagOutlet, hstate]

theorem sagOutlet_closing (hstate : (s.outlet o).state = .closing) :
    s.sagOutlet b o =
      if (s.outlet o).pendingOff = true then ((s.endPendingOff o).markDropped o).noteOpened o else (s.place o .shed none).markDropped o := by
  rw [State.sagOutlet, hstate]

theorem sagOutlet_of_other (hon : (s.outlet o).state ≠ .on) (hclosing : (s.outlet o).state ≠ .closing) : s.sagOutlet b o = s := by
  unfold State.sagOutlet
  split
  · next h => exact absurd h hon
  · next h => exact absurd h hclosing
  all_goals rfl

theorem sagOutlet_sheds (h : (s.outlet o).state = .on ∧ (s.line b).shedInUse = true ∨
      (s.outlet o).state = .closing ∧ (s.outlet o).pendingOff = false) :
    s.sagOutlet b o = (s.withOutlet o ((s.outlet o).idle .shed) { s.meter o with overCount := 0 }).markDropped o := by
  rcases h with ⟨hstate, hshed⟩ | ⟨hstate, hpending⟩
  · rw [sagOutlet_on hstate, if_pos hshed, place_rest _ _ rfl]
  · rw [sagOutlet_closing hstate, if_neg (by rw [hpending]; decide), place_rest _ _ rfl]

theorem sagOutlet_dwells (hstate : (s.outlet o).state = .closing) (hpending : (s.outlet o).pendingOff = true)
    (hrestore : (s.outlet o).restoreIntent = true) :
    s.sagOutlet b o = ((s.withOutlet o ((s.outlet o).idle .dwell) { s.meter o with overCount := 0 }).markDropped o).noteOpened o := by
  rw [sagOutlet_closing hstate, if_pos hpending, endPendingOff_of_restore hrestore]

theorem sagOutlet_ends_off (hstate : (s.outlet o).state = .closing) (hpending : (s.outlet o).pendingOff = true)
    (hrestore : (s.outlet o).restoreIntent = false) :
    s.sagOutlet b o =
      (((s.withOutlet o ((s.outlet o).idle .off) { s.meter o with overCount := 0 }).meetTarget o).markDropped o).noteOpened o := by
  rw [sagOutlet_closing hstate, if_pos hpending, endPendingOff_of_no_restore hrestore]

theorem sagOutlet_keeps (h : (s.outlet o).state = .on ∧ (s.line b).shedInUse = false ∨
      (s.outlet o).state ≠ .on ∧ (s.outlet o).state ≠ .closing) : s.sagOutlet b o = s := by
  rcases h with ⟨hstate, hshed⟩ | ⟨hon, hclosing⟩
  · rw [sagOutlet_on hstate, if_neg (by rw [hshed]; decide)]
  · exact sagOutlet_of_other hon hclosing

end

/-! ## The sag condition (R53, R54, R59) -/

theorem noCrossingDue_of_sag {s : State} {b : Bank} (h : (s.line b).state = .sag) : s.noCrossingDue b = none := by
  rw [State.noCrossingDue, h]

theorem noCrossingDue_of_last {s : State} {b : Bank} {t : Stamp} (h : (s.line b).state ≠ .sag) (hlast : (s.line b).lastCross = some t) :
    s.noCrossingDue b = some (25 - (s.boardTime - t.ms).toNat) := by
  unfold State.noCrossingDue
  rw [hlast]
  cases hstate : (s.line b).state with
  | normal | recovering => rfl
  | sag => exact absurd hstate h

theorem noCrossingDue_of_none {s : State} {b : Bank} (h : (s.line b).state ≠ .sag) (hlast : (s.line b).lastCross = none) :
    s.noCrossingDue b = some (25 - s.boardTime.toNat) := by
  unfold State.noCrossingDue
  rw [hlast]
  cases hstate : (s.line b).state with
  | normal | recovering => rfl
  | sag => exact absurd hstate h

theorem newlyShed_eq (s t : State) (b : Bank) :
    newlyShed s t b = ((bankOutlets b).filter (fun o => (t.outlet o).state == .shed && (s.outlet o).state != .shed)).length := by
  unfold newlyShed
  congr 2
  funext o
  cases (t.outlet o).state <;> cases (s.outlet o).state <;> rfl

theorem sagCondition_of_normal (s : State) (b : Bank) (cause : SagCause) (h : (s.line b).state = .normal) :
    s.sagCondition b cause = s.enterSag b cause := by
  rw [State.sagCondition, h]

theorem sagCondition_of_recovering (s : State) (b : Bank) (cause : SagCause) (h : (s.line b).state = .recovering) :
    s.sagCondition b cause = s.reenterSag b := by
  rw [State.sagCondition, h]

theorem sagCondition_of_sag (s : State) (b : Bank) (cause : SagCause) (h : (s.line b).state = .sag) : s.sagCondition b cause = s := by
  rw [State.sagCondition, h]

theorem markDropped_eq (s : State) (o : OutletId) :
    s.markDropped o =
      if (s.claim (bankOf o)).state = .granted ∧ (s.claim (bankOf o)).outlet = some o ∧ (s.claim (bankOf o)).ending = .none then
        { s with claims := s.claims.set (bankOf o) { s.claim (bankOf o) with ending := .dropped } }
      else s := by
  by_cases h : (s.claim (bankOf o)).holds o = true
  · rw [markDropped_of_held h, if_pos (holds_iff.1 h)]
  · rw [markDropped_of_free h, if_neg (mt holds_iff.2 h)]

/-- Settles O46: the timeout, the sag condition by line state, and the handling of the outlets. -/
theorem sagConditionsOpenTheOutlets : Obligations.SagConditionsOpenTheOutlets := by
  unfold Obligations.SagConditionsOpenTheOutlets
  intro b s l hl
  subst hl
  refine ⟨fun d a hr hstate hd ha => ?timeout, fun hr hstate => ?silent, fun cause shed hstate hshed => ?enters, fun cause hstate => ?reenters,
    fun cause hstate => sagCondition_of_sag s b cause hstate, fun o _ x m hx hm => ?outlet, fun o c hc => by rw [hc]; exact markDropped_eq s o,
    disturbBank_spec s b⟩
  case timeout =>
    rw [ha]
    refine unlessReset_expire_some (s := s) (·.noCrossingDue b) (fun s => (s.sagCondition b .noCrossing).issueClaims) hr ?_
    cases hlast : (s.line b).lastCross with
    | some t => rw [hd, hlast]; exact noCrossingDue_of_last hstate hlast
    | none => rw [hd, hlast]; exact noCrossingDue_of_none hstate hlast
  case silent => exact unlessReset_expire_none (s := s) (·.noCrossingDue b) _ hr (noCrossingDue_of_sag hstate)
  case enters =>
    rw [sagCondition_of_normal s b cause hstate, hshed, ← newlyShed_eq]
    cases cause <;> rfl
  case reenters => exact sagCondition_of_recovering s b cause hstate
  case outlet =>
    subst hx hm
    exact ⟨sagOutlet_sheds, sagOutlet_dwells, sagOutlet_ends_off, sagOutlet_keeps⟩

end Sys2Proof.Machine
end

section
/-! PROOFS. The recovery of a bank (R57, R60, R108). -/

namespace Sys2Proof.Machine
open Sys2Proof

theorem recoveryDue_of_recovering {s : State} {b : Bank} {d : Nat} (hstate : (s.line b).state = .recovering)
    (htimer : (s.line b).recovery = some d) : s.recoveryDue b = some d := by
  rw [State.recoveryDue, if_pos hstate, htimer]

theorem noteClaiming_lines (s : State) (o : OutletId) : (s.noteClaiming o).lines = s.lines := by
  unfold State.noteClaiming
  split
  · rfl
  · split
    · split <;> simp [State.withdrawMember, State.setStatus, State.setRestore, State.setCycle]
    · rfl

theorem restoreShed_lines (s : State) (o : OutletId) : (s.restoreShed o).lines = s.lines := by
  simp [State.restoreShed, State.enterClaiming, noteClaiming_lines]

theorem foldl_restoreShed_lines (l : List OutletId) (s : State) : (l.foldl State.restoreShed s).lines = s.lines := by
  induction l generalizing s with
  | nil => rfl
  | cons o l ih => rw [List.foldl_cons, ih, restoreShed_lines]

/-- The state in which a bank is back to NORMAL, before its outlets are restored (R60). -/
def State.backToNormal (s : State) (b : Bank) : State :=
  { s with lines := s.lines.set b { s.line b with state := .normal, low := 0, good := 0, recovery := none } }

/-- A line written over one just written. -/
theorem modLine_of_lines {s t : State} {b : Bank} {l : Line} (h : t.lines = s.lines.set b l) (f : Line → Line) :
    t.modLine b f = { t with lines := s.lines.set b (f l) } := by
  simp only [State.modLine, State.line, h, Banked.get_set_self, Banked.set_set]

/-- What the return to NORMAL makes of the state in which its outlets are restored (R60). -/
theorem enterNormal_of_restored {s r : State} {b : Bank}
    (hr : (if s.phase = .running then (s.shedOutlets b).foldl State.restoreShed (s.backToNormal b) else s.backToNormal b) = r) :
    s.enterNormal b =
      { (State.offerStatus { r with claims := r.claims.set b { r.claim b with retryWait := none } }).post .sagEnd (bankNo b) (s.line b).reentry
          (s.sagElapsed b) with
        lines := s.lines.set b
          { s.line b with state := .normal, low := 0, good := 0, recovery := none, sagStart := none, reentry := 0 } } := by
  have hlines : r.lines = (s.backToNormal b).lines := by
    rw [← hr]
    split
    · exact foldl_restoreShed_lines _ _
    · rfl
  have hdef : s.enterNormal b =
      ((State.offerStatus { r with claims := r.claims.set b { r.claim b with retryWait := none } }).post .sagEnd (bankNo b) (s.line b).reentry
        (s.sagElapsed b)).modLine b (fun l => { l with sagStart := none, reentry := 0 }) := by
    rw [← hr]
    rfl
  rw [hdef]
  exact modLine_of_lines (s := s) (l := { s.line b with state := .normal, low := 0, good := 0, recovery := none })
    (by rw [post_lines, offerStatus_lines]; exact hlines) _

/-- Settles O47. -/
theorem recoveryRestoresTheShedOutlets : Obligations.RecoveryRestoresTheShedOutlets := by
  unfold Obligations.RecoveryRestoresTheShedOutlets
  intro b s l hl
  subst hl
  have hconfiguring (hphase : s.phase = .configuring) : ¬ s.phase = .running := by rw [hphase]; decide
  refine ⟨fun d a hr hstate htimer ha => ?expires, fun n r hn hrunning hwaiting => ?returns, fun hphase => ?kept,
    ⟨fun o => ?shed, (inRestoreOrder_spec s _ ((bankOutlets_sorted b).filter _)).2⟩, fun o x hx hstate => ?restores⟩
  case expires =>
    rw [ha]
    exact unlessReset_expire_some (s := s) (·.recoveryDue b) (fun s => (s.enterNormal b).issueClaims) hr (recoveryDue_of_recovering hstate htimer)
  case returns =>
    refine enterNormal_of_restored (r := r) ?_
    subst hn
    cases hphase : s.phase with
    | running => exact (hrunning hphase).symm
    | configuring => exact (hwaiting hphase).symm
  case kept =>
    rw [enterNormal_of_restored (if_neg (hconfiguring hphase))]
    exact ⟨by simp [State.backToNormal], by simp [State.backToNormal]⟩
  case shed =>
    rw [State.shedOutlets, (inRestoreOrder_spec s _ ((bankOutlets_sorted b).filter _)).1, List.mem_filter, bankOutlets_mem, decide_eq_true_eq]
  case restores =>
    subst hx
    rw [State.restoreShed, enterClaiming_eq s o hstate]

end Sys2Proof.Machine
end

section
/-! PROOFS. The end of a window: its records, its energy, the next window (R31 to R41). -/

namespace Sys2Proof.Machine
open Sys2Proof

/-! ## Readings (R33, R34) -/

theorem inReading_of_range {r : Config.Reading} {lo hi n : Nat} (hlo : lo ≤ n) (hhi : n ≤ hi) : inReading r lo hi n = n :=
  if_pos (by simp [inRange, hlo, hhi])

/-- A quotient rounds to at most `k` when the fraction is at most `k`. -/
theorem roundNearest_le {n d k : Nat} (hd : 0 < d) (h : n ≤ k * d) : roundNearest n d ≤ k := by
  have hnear := (roundNearest_near n d hd).1
  refine Nat.le_of_not_lt fun hgreater => ?_
  have hmul : (k + 1) * d ≤ roundNearest n d * d := Nat.mul_le_mul_right d (by omega)
  rw [Nat.add_mul, Nat.one_mul] at hmul
  rw [Nat.mul_assoc] at hnear
  omega

theorem frequencyOf_near {cycles micros : Nat} (hmicros : 0 < micros) (h : cycles * 100000000 < 9999 * micros) :
    2 * frequencyOf cycles micros * micros ≤ 2 * cycles * 100000000 + micros ∧
      2 * cycles * 100000000 ≤ 2 * frequencyOf cycles micros * micros + micros := by
  rw [frequencyOf, if_neg (by omega), inReading_of_range (Nat.zero_le _) (roundNearest_le hmicros (by omega)), Nat.mul_assoc 2 cycles]
  exact roundNearest_near _ micros hmicros

theorem realPower_of_small {w : Int} (h : w.natAbs ≤ 200000) : realPower w = w := by
  rw [realPower, inReading_of_range (Nat.zero_le _) h]
  split <;> omega

theorem apparentPower_near (volts amps : Nat) :
    volts * amps < apparentPower volts amps * 100 + 100 ∧ apparentPower volts amps * 100 < volts * amps + 100 := by
  unfold apparentPower
  split
  · omega
  · split <;> omega

theorem powerFactor_near {watts : Int} {voltAmps : Nat} (hpower : 10 ≤ voltAmps) (h : watts.natAbs ≤ voltAmps) :
    2 * powerFactor watts voltAmps * voltAmps ≤ 200 * watts.natAbs + voltAmps ∧
      200 * watts.natAbs ≤ 2 * powerFactor watts voltAmps * voltAmps + voltAmps := by
  have hnear := roundNearest_near (watts.natAbs * 100) voltAmps (by omega)
  rw [powerFactor, if_neg (by omega), inReading_of_range (Nat.zero_le _) (roundNearest_le (by omega) (by omega))]
  omega

/-! ## The line record and the window that opens (R31 to R33, R35) -/

section
variable (w : BankWindow) (now : BoardTime) (volts : Nat)

theorem lineRecord_of_crossings {closing : Option Stamp} {t u : Stamp} (hrise : w.riseStart = some t) (hclosing : closing = some u) :
    w.lineRecord now closing volts =
      ⟨min 3000 volts, frequencyOf w.cycles (microsBetween t u), inReading .halfCycles 0 255 w.halves,
        inReading .duration 1 65535 (msSince now w.start), false, now⟩ := by
  simp only [BankWindow.lineRecord, hrise, hclosing]

theorem lineRecord_of_no_line {closing : Option Stamp} (h : w.riseStart = none ∨ closing = none) :
    w.lineRecord now closing volts =
      ⟨0, 0, inReading .halfCycles 0 255 w.halves, inReading .duration 1 65535 (msSince now w.start), true, now⟩ := by
  unfold BankWindow.lineRecord
  split
  · next _ _ hrise =>
    rcases h with h | h
    · rw [hrise] at h
      cases h
    · cases h
  · rfl

/-- A record is of one of the two kinds; its count and duration are those of the window. -/
theorem lineRecord_cases (closing : Option Stamp) :
    ((∃ t u, w.riseStart = some t ∧ closing = some u) ∨ (w.riseStart = none ∨ closing = none)) ∧
      (w.lineRecord now closing volts).endTime = now ∧
      (w.lineRecord now closing volts).halves = inReading .halfCycles 0 255 w.halves ∧
      (w.lineRecord now closing volts).duration = inReading .duration 1 65535 (msSince now w.start) := by
  cases hrise : w.riseStart with
  | none =>
    rw [lineRecord_of_no_line w now volts (Or.inl hrise)]
    exact ⟨Or.inr (Or.inl rfl), rfl, rfl, rfl⟩
  | some t =>
    cases closing with
    | none =>
      rw [lineRecord_of_no_line w now volts (Or.inr rfl)]
      exact ⟨Or.inr (Or.inr rfl), rfl, rfl, rfl⟩
    | some u =>
      rw [lineRecord_of_crossings w now volts hrise rfl]
      exact ⟨Or.inl ⟨t, u, rfl, rfl⟩, rfl, rfl, rfl⟩

end

theorem nextCycles_eq (r : LineRecord) : r.nextCycles = if r.noLine = true ∨ r.frequency < 5500 then 10 else 12 := by
  unfold LineRecord.nextCycles
  cases r.noLine <;> simp

theorem endOutletWindow_windows (noLine : Bool) (volts ms : Nat) (w : WindowMeasure) (s : State) (o : OutletId) :
    (State.endOutletWindow noLine volts ms w s o).windows = s.windows := by
  unfold State.endOutletWindow
  simp only
  split <;> simp

theorem foldl_endOutletWindow_windows (noLine : Bool) (volts ms : Nat) (w : WindowMeasure) (l : List OutletId) (s : State) :
    (l.foldl (State.endOutletWindow noLine volts ms w) s).windows = s.windows := by
  induction l generalizing s with
  | nil => rfl
  | cons o l ih => rw [List.foldl_cons, ih, endOutletWindow_windows]

theorem endWindow_eq (s : State) (b : Bank) (m : WindowMeasure) (closing : Option Stamp) (r : LineRecord)
    (hr : r = (s.window b).lineRecord s.boardTime closing m.volts) :
    s.endWindow b m closing =
      ((bankOutlets b).foldl (State.openOutletWindow b)
        { (bankOutlets b).foldl (State.endOutletWindow r.noLine r.volts (s.boardTime - (s.window b).start).toNat m) s with
          windows := s.windows.set b ((s.window b).reopen s.boardTime closing r) }).absorbWindow b
        (fun o => !(s.meter o).disturbed) := by
  rw [hr, State.endWindow]
  simp only [State.modWindow, State.window, foldl_endOutletWindow_windows, msSince]

theorem windowDue_of_last {s : State} {b : Bank} {t : Stamp} (h : (s.line b).lastCross = some t) :
    s.windowDue b = some (250 - min (s.boardTime - (s.window b).start).toNat (s.boardTime - t.ms).toNat) := by
  simp only [State.windowDue, h, msSince]

theorem windowDue_of_none {s : State} {b : Bank} (h : (s.line b).lastCross = none) :
    s.windowDue b = some (250 - (s.boardTime - (s.window b).start).toNat) := by
  simp only [State.windowDue, h, msSince]

theorem openOutletWindow_mark (s : State) (b : Bank) (o : OutletId) :
    (s.isHeld b || decide ((s.outlet o).state = .closing) || decide ((s.outlet o).state = .opening)) =
      decide ((s.line b).state ≠ .normal ∨ (s.outlet o).state = .closing ∨ (s.outlet o).state = .opening) := by
  simp [State.isHeld, Bool.or_assoc]

/-- Settles O48: the timeout, the end of a window, the count of rises, the line record, the marks of the window that opens. -/
theorem windowsEndWithTheirRecords : Obligations.WindowsEndWithTheirRecords := by
  unfold Obligations.WindowsEndWithTheirRecords
  intro b m s w hw
  subst hw
  refine ⟨fun d a hr hd ha => ?timeout, fun closing r hr => ?ends, fun now => ⟨fun h => if_pos h, fun hrise hcycles => ?counts⟩,
    fun now closing volts r hr => ?record, fun o => ⟨rfl, fun p => ?opens⟩⟩
  case timeout =>
    rw [ha]
    refine unlessReset_expire_some (s := s) (·.windowDue b) (fun s => s.endWindow b m none) hr ?_
    cases hlast : (s.line b).lastCross with
    | some t => rw [hd, hlast]; exact windowDue_of_last hlast
    | none => rw [hd, hlast]; exact windowDue_of_none hlast
  case ends =>
    rw [endWindow_eq s b m closing r hr, BankWindow.reopen, nextCycles_eq]
  case counts =>
    refine if_neg ?_
    rintro (h | h)
    · exact hrise h
    · omega
  case record =>
    obtain ⟨hkind, hend, hhalves, hduration⟩ := lineRecord_cases (s.window b) now volts closing
    rw [← hr] at hend hhalves hduration
    refine ⟨?_, ?_, ?_, hend, fun h => hhalves.trans (inReading_of_range (Nat.zero_le _) h),
      fun hlow hhigh => hduration.trans (inReading_of_range hlow hhigh), fun t u micros hrise hclosing hmicros hpos hfast => ?_⟩
    case refine_4 =>
      rw [hr, lineRecord_of_crossings _ now volts hrise hclosing]
      have hbetween : microsBetween t u = micros := hmicros.symm
      rw [hbetween]
      exact frequencyOf_near hpos hfast
    all_goals
      rcases hkind with ⟨t, u, hrise, hclosing⟩ | hnone
      · rw [hr, lineRecord_of_crossings _ now volts hrise hclosing]
        simp [hrise, hclosing]
      · rw [hr, lineRecord_of_no_line _ now volts hnone]
        simp [hnone]
  case opens =>
    rw [State.openOutletWindow, modMeter_eq, withOutlet_meter, openOutletWindow_mark]

end Sys2Proof.Machine
end

section
/-! PROOFS. What a window's end does to one outlet: record, energy, peak and the event of a wrap (R34 to R41). -/

namespace Sys2Proof.Machine
open Sys2Proof

/-! ## The record (R34) -/

theorem windowRecord_no_line (disturbed : Bool) (volts amps : Nat) (watts : Int) :
    windowRecord true disturbed volts amps watts = ⟨amps, 0, 0, 0, disturbed, true, false⟩ := rfl

theorem windowRecord_on_line (disturbed : Bool) (volts amps : Nat) (watts : Int) :
    windowRecord false disturbed volts amps watts =
      ⟨amps, realPower watts, apparentPower volts amps, powerFactor (realPower watts) (apparentPower volts amps), disturbed, false,
        decide (realPower watts < 0)⟩ := rfl

theorem windowRecord_kept (noLine disturbed : Bool) (volts amps : Nat) (watts : Int) :
    (windowRecord noLine disturbed volts amps watts).amps = amps ∧ (windowRecord noLine disturbed volts amps watts).disturbed = disturbed ∧
      (windowRecord noLine disturbed volts amps watts).noLine = noLine ∧
      (windowRecord noLine disturbed volts amps watts).reverse = decide ((windowRecord noLine disturbed volts amps watts).watts < 0) := by
  cases noLine <;> exact ⟨rfl, rfl, rfl, rfl⟩

/-! ## The meter values (R36, R38, R39, R41) -/

theorem addEnergy_conserves (m : Meter) (added : Nat) :
    36000 * (m.energy.toNat + (m.remainder + added) / 36000) + (m.addEnergy added).remainder = 36000 * m.energy.toNat + m.remainder + added := by
  show 36000 * (m.energy.toNat + (m.remainder + added) / 36000) + (m.remainder + added) % 36000 = _
  omega

theorem addEnergy_energy (m : Meter) (added : Nat) :
    (m.addEnergy added).energy.toNat = (m.energy.toNat + (m.remainder + added) / 36000) % 2 ^ 48 := by
  simp [Meter.addEnergy, Meter.wholeAfter, BitVec.toNat_ofNat]

theorem wraps_iff (m : Meter) (added : Nat) :
    m.wraps added = true ↔ 2 ^ 48 ≤ m.energy.toNat + (m.remainder + added) / 36000 := decide_eq_true_iff

/-! ## The captured reply and the events -/

/-- What a captured reply remembers of a window of outlet `o` (R41). -/
structure Capture.Saw (o : OutletId) (amps : Nat) (c d : Capture) : Prop where
  request : d.request = c.request
  result : d.result = c.result
  hadEvent : d.hadEvent = c.hadEvent
  peak : ∀ x clear, c.request = .outlet x clear → x.toNat = o.val + 1 → d.peakSince = max c.peakSince amps
  noPeak : (∀ x clear, c.request = .outlet x clear → x.toNat ≠ o.val + 1) → d.peakSince = c.peakSince

theorem outletArg_eq_some (x : Byte) (o : OutletId) : outletArg x = some o ↔ x.toNat = o.val + 1 := by
  have ho := o.isLt
  unfold outletArg outletOfNo
  split
  · rw [Option.some.injEq, Fin.ext_iff]
    dsimp only
    omega
  · simp
    omega

theorem seeWindow_capture (o : OutletId) (amps : Nat) (p : Port) (c : Capture) (h : p.capture = some c) :
    ∃ d, (p.seeWindow o amps).capture = some d ∧ c.Saw o amps d ∧ d.lossSince = c.lossSince := by
  cases hrequest : c.request with
  | outlet x clear =>
    by_cases hx : outletArg x = some o
    · refine ⟨{ c with peakSince := max c.peakSince amps }, by simp [Port.seeWindow, h, hrequest, hx], ⟨rfl, rfl, rfl, fun _ _ _ _ => rfl, fun hno => ?_⟩, rfl⟩
      exact absurd ((outletArg_eq_some x o).1 hx) (hno x clear hrequest)
    · refine ⟨c, by simp [Port.seeWindow, h, hrequest, hx], ⟨rfl, rfl, rfl, fun y clear' hy hno => ?_, fun _ => rfl⟩, rfl⟩
      rw [hrequest] at hy
      cases hy
      exact absurd ((outletArg_eq_some x o).2 hno) hx
  | status | bank | peer | group | event | result =>
    refine ⟨c, by simp [Port.seeWindow, h, hrequest], ⟨rfl, rfl, rfl, fun y clear' hy _ => ?_, fun _ => rfl⟩, rfl⟩
    rw [hrequest] at hy
    cases hy

theorem seeWindow_rest (o : OutletId) (amps : Nat) (p : Port) :
    (p.seeWindow o amps).events = p.events ∧ (p.seeWindow o amps).lost = p.lost ∧
      (p.capture = none → (p.seeWindow o amps).capture = none) :=
  ⟨rfl, rfl, fun h => by simp [Port.seeWindow, h]⟩

/-- The queue after a posting depends on the mask, the time, the queue and its loss mark alone (R184, R185). -/
theorem post_events_of_same {s t : State} (hcfg : t.cfg = s.cfg) (htime : t.boardTime = s.boardTime) (hevents : t.port.events = s.port.events)
    (hlost : t.port.lost = s.port.lost) (k : EventKind) (subject detail value : Nat) :
    (t.post k subject detail value).port.events = (s.portWith k subject detail value).events ∧
      (t.post k subject detail value).port.lost = (s.portWith k subject detail value).lost := by
  simp only [State.portWith, State.post, hcfg, htime, hevents]
  split
  · split
    · exact ⟨by simp only [State.modPort, hevents], by simp only [State.modPort, hlost]⟩
    · exact ⟨hevents, rfl⟩
  · exact ⟨hevents, hlost⟩

/-- A captured reply through a posting: only the loss of the event is noted. -/
theorem post_capture (s : State) (k : EventKind) (subject detail value : Nat) :
    (s.post k subject detail value).port.capture =
      if maskEnables s.cfg.eventMask k = true ∧ 64 ≤ s.port.events.length then s.port.capture.map (fun c => { c with lossSince := true })
      else s.port.capture := by
  unfold State.post
  by_cases hmask : maskEnables s.cfg.eventMask k = true
  · rw [if_pos hmask]
    by_cases hroom : s.port.events.length < eventCapacity
    · rw [if_pos hroom, if_neg (fun h => absurd hroom (Nat.not_lt.2 h.2))]
      rfl
    · rw [if_neg hroom, if_pos ⟨hmask, Nat.not_lt.1 hroom⟩]
      rfl
  · rw [if_neg hmask, if_neg (fun h => hmask h.1)]

/-! ## The end of a window for one outlet -/

section
variable (noLine : Bool) (volts ms : Nat) (w : WindowMeasure) (s : State) (o : OutletId)

/-- The record of an outlet's window (R34). -/
def State.recordOf : WindowRecord :=
  windowRecord noLine (s.meter o).disturbed volts (min 6500 (measured w.amps o)) (measuredWatts w.watts o)

/-- The state once the record is taken in, before the event of a wrap. -/
def State.takesWindow (r : WindowRecord) : State :=
  (s.modMeter o (fun m => m.takeWindow r ms)).modPort (Port.seeWindow o r.amps)

variable {noLine volts ms w s o} {r : WindowRecord}

theorem endOutletWindow_of_wrap (hr : r = s.recordOf noLine volts w o) (h : (s.meter o).wraps (windowEnergy r ms) = true) :
    State.endOutletWindow noLine volts ms w s o =
      (s.takesWindow ms o r).post .energyWrap (o.val + 1) 0 (((s.takesWindow ms o r).meter o).energy.toNat % 2 ^ 32) := by
  subst hr
  exact if_pos h

theorem endOutletWindow_of_no_wrap (hr : r = s.recordOf noLine volts w o) (h : (s.meter o).wraps (windowEnergy r ms) ≠ true) :
    State.endOutletWindow noLine volts ms w s o = s.takesWindow ms o r := by
  subst hr
  exact if_neg h

theorem endOutletWindow_port (hr : r = s.recordOf noLine volts w o) :
    { State.endOutletWindow noLine volts ms w s o with port := (s.takesWindow ms o r).port } = s.takesWindow ms o r := by
  by_cases h : (s.meter o).wraps (windowEnergy r ms) = true
  · rw [endOutletWindow_of_wrap hr h, post_eq]
  · rw [endOutletWindow_of_no_wrap hr h]

theorem takesWindow_meter (p : OutletId) : (s.takesWindow ms o r).meter p = if p = o then (s.meter o).takeWindow r ms else s.meter p := by
  rw [State.takesWindow, modMeter_eq]
  exact withOutlet_meter s o (s.outlet o) _ p

theorem endOutletWindow_meter (hr : r = s.recordOf noLine volts w o) (p : OutletId) :
    (State.endOutletWindow noLine volts ms w s o).meter p = if p = o then (s.meter o).takeWindow r ms else s.meter p := by
  rw [← takesWindow_meter, State.meter, State.meter]
  exact congrArg (fun t : Tab 24 Meter => t.get p) (congrArg State.meters (endOutletWindow_port (ms := ms) hr) :)

/-- The captured reply after the window. -/
theorem endOutletWindow_capture (hr : r = s.recordOf noLine volts w o) (c : Capture) (h : s.port.capture = some c) :
    ∃ d, (State.endOutletWindow noLine volts ms w s o).port.capture = some d ∧ c.Saw o r.amps d ∧
      (d.lossSince = true ↔ c.lossSince = true ∨ (s.meter o).wraps (windowEnergy r ms) = true ∧
        maskEnables s.cfg.eventMask .energyWrap = true ∧ 64 ≤ s.port.events.length) := by
  obtain ⟨d, hd, hsaw, hloss⟩ := seeWindow_capture o r.amps s.port c h
  have htaken : (s.takesWindow ms o r).port.capture = some d := hd
  by_cases hwraps : (s.meter o).wraps (windowEnergy r ms) = true
  · rw [endOutletWindow_of_wrap hr hwraps, post_capture, htaken]
    by_cases hlost : maskEnables s.cfg.eventMask .energyWrap = true ∧ 64 ≤ s.port.events.length
    · exact ⟨{ d with lossSince := true }, if_pos hlost, ⟨hsaw.request, hsaw.result, hsaw.hadEvent, hsaw.peak, hsaw.noPeak⟩,
        iff_of_true rfl (Or.inr ⟨hwraps, hlost⟩)⟩
    · exact ⟨d, if_neg hlost, hsaw, by rw [hloss]; simp [hlost]⟩
  · rw [endOutletWindow_of_no_wrap hr hwraps]
    exact ⟨d, htaken, hsaw, by rw [hloss]; simp [hwraps]⟩

theorem endOutletWindow_no_capture (hr : r = s.recordOf noLine volts w o) (h : s.port.capture = none) :
    (State.endOutletWindow noLine volts ms w s o).port.capture = none := by
  have htaken : (s.takesWindow ms o r).port.capture = none := (seeWindow_rest o r.amps s.port).2.2 h
  by_cases hwraps : (s.meter o).wraps (windowEnergy r ms) = true
  · rw [endOutletWindow_of_wrap hr hwraps, post_capture, htaken]
    exact ite_self _
  · rw [endOutletWindow_of_no_wrap hr hwraps, htaken]

end

/-- Settles O49: the record, the meter values, the energy and the port. -/
theorem windowsUpdateEachOutlet : Obligations.WindowsUpdateEachOutlet := by
  unfold Obligations.WindowsUpdateEachOutlet
  intro noLine volts ms w s o r m n hm hr hn
  subst hm
  have hrecord : r = s.recordOf noLine volts w o := hr
  have hmeter : n = (s.meter o).takeWindow r ms := by
    rw [hn, endOutletWindow_meter hrecord, if_pos rfl]
  obtain ⟨hamps, hdisturbed, hnoLine, hreverse⟩ := windowRecord_kept noLine (s.meter o).disturbed volts
    (min 6500 (w.amps.getD (o.val % 8) 0)) (w.watts.getD (o.val % 8) 0)
  rw [← hr] at hamps hdisturbed hnoLine hreverse
  refine ⟨⟨hamps, hdisturbed, hnoLine, fun hline => ?noline, fun hline => ?line⟩, ?meter, fun added hadded => ?energy, ?rest, fun p hp => ?others⟩
  case noline =>
    rw [hline, windowRecord_no_line] at hr
    rw [hr]
    exact ⟨rfl, rfl, rfl, rfl⟩
  case line =>
    rw [hreverse, hamps]
    rw [hline, windowRecord_on_line] at hr
    rw [hr]
    refine ⟨realPower_of_small, decide_eq_true_iff, (apparentPower_near _ _).1, (apparentPower_near _ _).2, fun h => if_pos h, powerFactor_near⟩
  case meter =>
    rw [hmeter, hreverse]
    refine ⟨rfl, ?_, rfl, rfl, rfl, rfl, rfl⟩
    rw [← hdisturbed]
    rfl
  case energy =>
    have henergy : windowEnergy r ms = added := by
      rw [windowEnergy, hnoLine, hadded]
    have hwraps := wraps_iff (s.meter o) added
    rw [← henergy] at hwraps ⊢
    refine ⟨?_, ?_, fun hsmall => ?_, fun c hc => ?_, endOutletWindow_no_capture hrecord, fun hlarge => ?_⟩
    · rw [hmeter]
      exact addEnergy_conserves _ _
    · rw [hmeter]
      exact addEnergy_energy _ _
    · rw [endOutletWindow_of_no_wrap hrecord (fun h => absurd (hwraps.1 h) (Nat.not_le.2 hsmall))]
      exact ⟨rfl, rfl⟩
    · obtain ⟨d, hd, hsaw, hloss⟩ := endOutletWindow_capture (ms := ms) hrecord c hc
      exact ⟨d, hd, hsaw.request, hsaw.result, hsaw.hadEvent, hsaw.peak, hsaw.noPeak, by rw [hloss, hwraps]⟩
    · have hsame : (s.takesWindow ms o r).meter o = n := by
        rw [takesWindow_meter, if_pos rfl, hmeter]
      rw [endOutletWindow_of_wrap hrecord (hwraps.2 hlarge), hsame]
      exact post_events_of_same (s := s) (t := s.takesWindow ms o r) rfl rfl rfl rfl _ _ _ _
  case rest =>
    have hport := endOutletWindow_port (ms := ms) hrecord
    exact (congrArg (fun t : State => { t with meters := s.meters, port := s.port }) hport :)
  case others => rw [endOutletWindow_meter hrecord, if_neg hp]

end Sys2Proof.Machine
end

section
/-! PROOFS. STATUS and JOIN: when they are offered, what they carry, the place reserved for them (R36, R75, R76, R87, R93, R95, R106, R127). -/

namespace Sys2Proof.Machine
open Sys2Proof

/-! ## The schedule (R93) -/

theorem passTime_boardTime {s : State} (hr : s.inReset = false) (d : Nat) : (s.passTime d).boardTime = s.boardTime + BitVec.ofNat 32 d := by
  simp [State.passTime, hr]

theorem passTime_linkState {s : State} (hr : s.inReset = false) (d : Nat) : (s.passTime d).link.state = s.link.state := by
  simp [State.passTime, hr]

/-- The next multiple of 250 that a counter modulo 2^32 reaches; 0 where it wraps first. -/
theorem next_multiple_of_250 {t : Nat} (h : t < 2 ^ 32) : (t + min ((250 - t % 250) % 250) (2 ^ 32 - t) % 2 ^ 32) % 2 ^ 32 % 250 = 0 := by
  have hsmall : min ((250 - t % 250) % 250) (2 ^ 32 - t) % 2 ^ 32 = min ((250 - t % 250) % 250) (2 ^ 32 - t) :=
    Nat.mod_eq_of_lt (Nat.lt_of_le_of_lt (Nat.min_le_left _ _) (by omega))
  rw [hsmall]
  by_cases hat : t % 250 = 0
  · rw [hat, Nat.sub_zero, Nat.mod_self, Nat.zero_min, Nat.add_zero, Nat.mod_eq_of_lt h, hat]
  · rw [Nat.mod_eq_of_lt (show 250 - t % 250 < 250 by omega)]
    rcases Nat.le_total (250 - t % 250) (2 ^ 32 - t) with hle | hle
    · rw [Nat.min_eq_left hle]
      rcases Nat.lt_or_eq_of_le hle with hlt | heq
      · rw [Nat.mod_eq_of_lt (show t + (250 - t % 250) < 2 ^ 32 by omega)]
        omega
      · rw [heq, Nat.add_sub_cancel' (Nat.le_of_lt h), Nat.mod_self]
    · rw [Nat.min_eq_right hle, Nat.add_sub_cancel' (Nat.le_of_lt h), Nat.mod_self]

theorem statusDue_reaches {s : State} (hr : s.inReset = false) : (s.passTime s.statusDue).boardTime.toNat % 250 = 0 := by
  rw [passTime_boardTime hr, BitVec.toNat_add, BitVec.toNat_ofNat, State.statusDue]
  exact next_multiple_of_250 s.boardTime.isLt

theorem scheduleStatus_of_open {s : State} (h : s.link.state = .joining ∨ s.link.state = .active ∨ s.link.state = .linkDown) :
    s.scheduleStatus = s.offerStatus := by
  rcases h with h | h | h <;> rw [State.scheduleStatus, h]

theorem scheduleStatus_of_closed {s : State} (h : s.link.state = .silent ∨ s.link.state = .isolated) : s.scheduleStatus = s := by
  rcases h with h | h <;> rw [State.scheduleStatus, h]

/-! ## What a STATUS says of a bank (R36, R95, R106, R127) -/

theorem foldl_min_spec (a : Nat) (l : List Nat) :
    l.foldl min a ≤ a ∧ (∀ x ∈ l, l.foldl min a ≤ x) ∧ (l.foldl min a = a ∨ l.foldl min a ∈ l) := by
  induction l generalizing a with
  | nil => simp
  | cons y l ih =>
    obtain ⟨hstart, hall, hone⟩ := ih (min a y)
    rw [List.foldl_cons]
    refine ⟨by omega, fun x hx => ?_, ?_⟩
    · rcases List.mem_cons.1 hx with hx | hx
      · omega
      · exact hall x hx
    · rcases hone with hone | hone
      · rcases Nat.le_total a y with hle | hle
        · exact Or.inl (by omega)
        · exact Or.inr (List.mem_cons.2 (Or.inl (by omega)))
      · exact Or.inr (List.mem_cons_of_mem _ hone)

theorem isCandidate_iff (x : Outlet) :
    x.isCandidate = true ↔ x.state = .on ∧ x.isProtected = false ∧ x.cycle ≠ .group ∧ 1 ≤ x.cfg.shedRank ∧ x.cfg.shedRank ≤ 254 := by
  simp [Outlet.isCandidate, inRange, and_assoc]

/-- The rank reported for a bank is the lowest of its candidates', 255 without one (R127). -/
theorem bankRank_spec (s : State) (b : Bank) (candidate : OutletId → Prop)
    (h : ∀ o, candidate o ↔ bankOf o = b ∧ (s.outlet o).isCandidate = true) :
    (∀ o, candidate o → s.bankRank b ≤ (s.outlet o).cfg.shedRank) ∧
      ((∀ o, ¬candidate o) ∧ s.bankRank b = 255 ∨ ∃ o, candidate o ∧ s.bankRank b = (s.outlet o).cfg.shedRank) := by
  have hmem (n : Nat) : n ∈ ((bankOutlets b).filter (fun o => (s.outlet o).isCandidate)).map (fun o => (s.outlet o).cfg.shedRank) ↔
      ∃ o, candidate o ∧ (s.outlet o).cfg.shedRank = n := by
    simp only [List.mem_map, List.mem_filter, bankOutlets_mem, h]
  obtain ⟨-, hall, hone⟩ := foldl_min_spec 255
    (((bankOutlets b).filter (fun o => (s.outlet o).isCandidate)).map (fun o => (s.outlet o).cfg.shedRank))
  have hlowest (o : OutletId) (ho : candidate o) : s.bankRank b ≤ (s.outlet o).cfg.shedRank := hall _ ((hmem _).2 ⟨o, ho, rfl⟩)
  refine ⟨hlowest, ?_⟩
  rcases hone with hone | hone
  · refine Or.inl ⟨fun o ho => ?_, hone⟩
    have hlow := hlowest o ho
    rw [show s.bankRank b = 255 from hone] at hlow
    have hrank := ((isCandidate_iff _).1 ((h o).1 ho).2).2.2.2.2
    omega
  · obtain ⟨o, ho, hrank⟩ := (hmem _).1 hone
    exact Or.inr ⟨o, ho, hrank.symm⟩

/-! ## The reserved places (R75, R76) -/

section
variable {s : State} {f : PeerFrame}

theorem takesReserved_of_open (h : s.link.state = .joining ∨ s.link.state = .active ∨ s.link.state = .linkDown) :
    s.link.state.takesReserved = true := by
  rcases h with h | h | h <;> rw [h] <;> rfl

theorem offerReserved_of_closed (h : s.link.state = .silent ∨ s.link.state = .isolated) : s.offerReserved f = s := by
  refine if_neg ?_
  rcases h with h | h <;> rw [h] <;> exact Bool.false_ne_true

/-- What waits to replace a frame, once another one is offered (R76). -/
def mergedWith (old : Option PeerFrame) (f : PeerFrame) : PeerFrame :=
  match old with
  | some old => mergeJoin old f
  | none => f

theorem offerReserved_waits {a : Sending} (hopen : s.link.state.takesReserved = true) (hsending : s.link.sending = some a)
    (hkind : frameKind a.frame.frame = frameKind f) :
    s.offerReserved f =
      { s with link := { s.link with sending := some { a with replacement := some (mergedWith a.replacement f) } } } := by
  unfold State.offerReserved
  rw [if_pos hopen, hsending]
  simp only [if_pos hkind]
  cases a.replacement <;> rfl

theorem replaceReserved_eq : s.replaceReserved f =
    { s with
      link := { s.link with
        queue := insertByKey (queuedFrame 7 s.station (mergedWith ((reservedIn s.link.queue (frameKind f)).map (·.frame)) f))
          (s.link.queue.filter (fun x => decide (frameKind x.frame ≠ frameKind f))) } } := by
  unfold State.replaceReserved
  cases reservedIn s.link.queue (frameKind f) <;> rfl

theorem offerReserved_replaces (hopen : s.link.state.takesReserved = true)
    (hsending : ∀ a, s.link.sending = some a → frameKind a.frame.frame ≠ frameKind f) : s.offerReserved f = s.replaceReserved f := by
  unfold State.offerReserved
  rw [if_pos hopen]
  split
  · next a ha => exact if_neg (hsending a ha)
  · rfl

end

/-- Settles O50: the schedule, the STATUS, the bank load, the JOIN, the reserved places. -/
theorem statusIsComposedFromTheBlocks : Obligations.StatusIsComposedFromTheBlocks := by
  unfold Obligations.StatusIsComposedFromTheBlocks
  intro s
  refine ⟨fun d a hr hd ha => ?schedule,
    ⟨Banked.build s.statusBank, rfl, fun b => ?bank⟩, fun b => ?load, fun r => rfl,
    fun f => ⟨offerReserved_of_closed, fun hopen => ⟨fun a hsending hkind => ?waits, fun hsending => ?replaces⟩, fun _ _ => rfl, fun _ _ => rfl⟩⟩
  case schedule =>
    have hstate : a.link.state = s.link.state := by rw [ha, passTime_linkState hr]
    have hexec : exec .scheduledStatus s = .next a.scheduleStatus := by
      rw [ha, hd]
      exact unlessReset_expire_some (s := s) (fun s => some s.statusDue) State.scheduleStatus hr rfl
    refine ⟨by rw [ha, hd]; exact statusDue_reaches hr, fun h => ?_, fun h => ?_⟩
    · rw [hexec, scheduleStatus_of_open (by rw [hstate]; exact h)]
    · rw [hexec, scheduleStatus_of_closed (by rw [hstate]; exact h)]
  case bank =>
    rw [Banked.get_build]
    refine ⟨rfl, rfl, decide_eq_true_iff, decide_eq_true_iff, fun candidate hcandidate => bankRank_spec s b candidate (fun o => ?_)⟩
    rw [hcandidate, isCandidate_iff]
  case load =>
    refine ⟨((bankOutlets b).map (fun o => (s.meter o).share)).sum, congrArg List.sum (List.map_congr_left (fun o _ => ?_)), ?_, ?_⟩
    · unfold Meter.share
      cases (s.meter o).undisturbed <;> cases (s.meter o).record <;> rfl
    all_goals
      rw [State.bankLoad]
      omega
  case waits =>
    rw [offerReserved_waits (takesReserved_of_open hopen) hsending hkind]
    cases a.replacement <;> rfl
  case replaces =>
    rw [offerReserved_replaces (takesReserved_of_open hopen) hsending, replaceReserved_eq, reservedIn]
    cases s.link.queue.find? (fun x => decide (frameKind x.frame = frameKind f)) <;> rfl

end Sys2Proof.Machine
end

section
/-! PROOFS. Attempts on the bus: how one begins, what its failure leaves, the failure that ends the link (R68, R69, R71, R74, R76, R77, R80). -/

namespace Sys2Proof.Machine
open Sys2Proof

/-! ## The beginning of an attempt (R68) -/

section
variable {s : State} {rivals : List Nat} {x : QueuedFrame} {rest : List QueuedFrame}

theorem offerOnBus_of_head (hsending : s.link.sending = none) (hqueue : s.link.queue = x :: rest) :
    s.offerOnBus rivals =
      if s.link.state.onBus && rivals.all (fun k => decide (x.key ≤ k)) then s.modLink (fun l => { l with sending := some ⟨x, false, none⟩ })
      else s := by
  unfold State.offerOnBus
  rw [hsending, hqueue]

theorem onBus_iff (st : LinkState) : st.onBus = true ↔ st = .joining ∨ st = .active := by cases st <;> decide

/-- The first frame of the queue is offered and wins. -/
theorem offerOnBus_wins (hsending : s.link.sending = none) (hqueue : s.link.queue = x :: rest)
    (hstate : s.link.state = .joining ∨ s.link.state = .active) (hrivals : ∀ k ∈ rivals, x.key ≤ k) :
    s.offerOnBus rivals = { s with link := { s.link with sending := some ⟨x, false, none⟩ } } := by
  rw [offerOnBus_of_head hsending hqueue, if_pos (by simpa [(onBus_iff _).2 hstate] using hrivals)]
  rfl

theorem offerOnBus_passes (h : s.link.sending.isSome = true ∨ s.link.queue = [] ∨ s.link.state ≠ .joining ∧ s.link.state ≠ .active ∨
      (∃ x rest, s.link.queue = x :: rest ∧ ∃ k ∈ rivals, k < x.key)) : s.offerOnBus rivals = s := by
  cases hsending : s.link.sending with
  | some a =>
    unfold State.offerOnBus
    rw [hsending]
  | none =>
    cases hqueue : s.link.queue with
    | nil =>
      unfold State.offerOnBus
      rw [hsending, hqueue]
    | cons x rest =>
      rw [offerOnBus_of_head hsending hqueue]
      refine if_neg ?_
      rw [Bool.and_eq_true, onBus_iff, List.all_eq_true]
      rintro ⟨hbus, hwins⟩
      rw [hsending, hqueue] at h
      rcases h with h | h | ⟨hjoining, hactive⟩ | ⟨y, l, hhead, k, hk, hlower⟩
      · cases h
      · cases h
      · exact hbus.elim hjoining hactive
      · cases hhead
        exact absurd (of_decide_eq_true (hwins k hk)) (Nat.not_le.2 hlower)

end

/-! ## The end of a failed attempt (R71, R74, R76, R77) -/

section
variable {s : State} {a : Sending}

theorem settleAttempt_stays (hremove : a.removeAfter = false) (hreplacement : a.replacement = none) : s.settleAttempt a = s := by
  unfold State.settleAttempt
  rw [hremove, hreplacement]
  rfl

theorem settleAttempt_replaced {f : PeerFrame} (hremove : a.removeAfter = false) (hreplacement : a.replacement = some f) :
    s.settleAttempt a =
      { s with
        link := { s.link with
          queue := insertByKey (queuedFrame 7 s.station (mergeJoin a.frame.frame f)) (s.link.queue.erase a.frame) } } := by
  unfold State.settleAttempt
  rw [hremove, hreplacement]
  rfl

theorem settleAttempt_removed (hremove : a.removeAfter = true) :
    s.settleAttempt a = (s.modLink (fun l => { l with queue := l.queue.erase a.frame })).claimRemoved a.frame.frame := if_pos hremove

/-- A withdrawn CLAIM takes its record to NONE (R113). -/
theorem claimRemoved_withdrawn {p : ClaimPayload} (hsent : (s.claim p.bank).state = .sent) (hwithdrawn : (s.claim p.bank).withdrawn = true) :
    s.claimRemoved (.claim p) = { s with claims := s.claims.set p.bank (s.claim p.bank).toNone } := by
  rw [State.claimRemoved, State.modClaim, if_pos ⟨hsent, hwithdrawn⟩]

theorem claimRemoved_other {f : PeerFrame} (h : ∀ p, f = .claim p → (s.claim p.bank).state ≠ .sent ∨ (s.claim p.bank).withdrawn = false) :
    s.claimRemoved f = s := by
  cases f with
  | claim p =>
    have hnot : ¬ ((s.claim p.bank).state = .sent ∧ (s.claim p.bank).withdrawn = true) := by
      rintro ⟨hsent, hwithdrawn⟩
      rcases h p rfl with hstate | hkept
      · exact hstate hsent
      · rw [hkept] at hwithdrawn
        cases hwithdrawn
    rw [State.claimRemoved, State.modClaim, if_neg hnot, State.claim, Banked.set_get]
  | join | status | forget | openGroup | groupOff | groupOn | groupAbort => rfl

/-- The state at the end of a failed attempt, before what waited for it. -/
def State.attemptOver (s : State) (mismatch : Bool) : State :=
  { s with link := { s.link with sending := none, failures := s.link.failures + 1, rejectDriven := mismatch } }

theorem attemptFails_of_idle (mismatch : Bool) (h : s.link.sending = none) : s.attemptFails mismatch = s := by
  unfold State.attemptFails
  rw [h]

theorem attemptFails_of_sending (mismatch : Bool) {t : State} (h : s.link.sending = some a) (ht : (s.attemptOver mismatch).settleAttempt a = t) :
    s.attemptFails mismatch = if 16 ≤ t.link.failures then t.enterLinkDown (frameKind a.frame.frame) else t := by
  unfold State.attemptFails
  rw [h, ← ht]
  rfl

/-- The attempts that failed are counted with the one that just did, whatever waited for it. -/
theorem attemptFails_of_settled (mismatch : Bool) {t : State} (h : s.link.sending = some a) (ht : (s.attemptOver mismatch).settleAttempt a = t)
    (hfailures : t.link.failures = s.link.failures + 1) :
    (s.link.failures + 1 < 16 → s.attemptFails mismatch = t) ∧
      (16 ≤ s.link.failures + 1 → s.attemptFails mismatch = t.enterLinkDown (frameKind a.frame.frame)) := by
  rw [attemptFails_of_sending mismatch h ht, hfailures]
  exact ⟨fun hfew => if_neg (Nat.not_le.2 hfew), fun hmany => if_pos hmany⟩

end

/-- Settles O51: winning the bus, and the failure of an attempt by what waited for it. -/
theorem attemptsEndByResultOfTheBus : Obligations.AttemptsEndByResultOfTheBus := by
  unfold Obligations.AttemptsEndByResultOfTheBus
  intro s hr
  have hfails (mismatch : Bool) : exec (.attemptFailed mismatch) s = .next (s.attemptFails mismatch).issueClaims :=
    congrArg Host.Outcome.next (unlessReset_running hr _)
  have hoffers (rivals : List Nat) : exec (.busIdleOffer rivals) s = .next (s.offerOnBus rivals) :=
    congrArg Host.Outcome.next (unlessReset_running hr _)
  refine ⟨fun rivals x rest hsending hqueue hstate hrivals => by rw [hoffers, offerOnBus_wins hsending hqueue hstate hrivals],
    fun rivals h => by rw [hoffers, offerOnBus_passes h], fun mismatch h => by rw [hfails, attemptFails_of_idle mismatch h],
    fun mismatch a ended hsending hended t ht => ?fails, fun k => rfl, rfl⟩
  have hsettled : (s.attemptOver mismatch).settleAttempt a = t ∧ t.link.failures = s.link.failures + 1 := by
    subst hended
    rcases ht with ⟨hremove, hreplacement, ht⟩ | ⟨hremove, ⟨f, hreplacement, ht⟩⟩ | ⟨hremove, ⟨p, hclaim, hsent, hwithdrawn, ht⟩⟩ | ⟨hremove, hother, ht⟩
    · exact ⟨(settleAttempt_stays hremove hreplacement).trans ht.symm, by rw [ht]⟩
    · exact ⟨(settleAttempt_replaced hremove hreplacement).trans ht.symm, by rw [ht]⟩
    · refine ⟨?_, by rw [ht]⟩
      rw [settleAttempt_removed hremove, hclaim, ht]
      exact claimRemoved_withdrawn hsent hwithdrawn
    · refine ⟨?_, by rw [ht]⟩
      rw [settleAttempt_removed hremove, ht]
      exact claimRemoved_other hother
  obtain ⟨hfew, hmany⟩ := attemptFails_of_settled mismatch hsending hsettled.1 hsettled.2
  exact ⟨fun h => by rw [hfails, hfew h], fun h => by rw [hfails, hmany h]⟩

end Sys2Proof.Machine
end

section
/-! PROOFS. The link's timers, frames that fail, and carried frames (R65, R70, R71, R73, R76, R79 to R81, R171). -/

namespace Sys2Proof.Machine
open Sys2Proof

/-! ## Timers and the start restore (R79, R80, R171) -/

theorem joiningDue_of_joining {s : State} {d : Nat} (hstate : s.link.state = .joining) (htimer : s.link.joining = some d) :
    s.joiningDue = some d := by
  rw [State.joiningDue, if_pos hstate, htimer]

theorem quietDue_of_down {s : State} {d : Nat} (hstate : s.link.state = .linkDown) (htimer : s.link.quiet = some d) : s.quietDue = some d := by
  rw [State.quietDue, if_pos hstate, htimer]

theorem peersIn_of_same {s t : State} (hpeers : t.peers = s.peers) (hstation : t.station = s.station) (e : EntryState) :
    t.peersIn e = s.peersIn e := by
  refine congrArg List.length (List.filter_congr fun k _ => ?_)
  rw [hstation, State.peer, State.peer, hpeers]

theorem passTime_station {s : State} (hr : s.inReset = false) (d : Nat) : (s.passTime d).station = s.station := by
  simp [State.passTime, hr]

theorem enterActive_passTime {s : State} (hr : s.inReset = false) (d : Nat) :
    (s.passTime d).enterActive =
      (State.post { s.passTime d with link := { (s.passTime d).link with state := .active, joining := none } } .linkUp s.station.val 0
        (s.peersIn .live)).startRestore := by
  rw [State.enterActive, peersIn_of_same (passTime_rest hr d).2.2.2.2 (passTime_station hr d), passTime_station hr d]
  rfl

theorem startTakes_iff (s : State) (o : OutletId) :
    s.startTakes o = true ↔ hasOutlet s.restoreSet o = true ∧ (s.outlet o).state = .off ∨
      (s.outlet o).state = .shed ∧ (s.line (bankOf o)).state = .normal := by
  simp [State.startTakes, State.isHeld]

theorem startRestore_of_first {s : State} (h : s.startRestored = false) :
    s.startRestore =
      { (s.inRestoreOrder (allOutlets.filter s.startTakes)).foldl State.restoreShed s with restoreSet := 0, startRestored := true } :=
  if_neg (by rw [h]; decide)

/-! ## Frames that fail (R70, R80) -/

section
variable {s : State} {r : Reception}

theorem frameFails_on_bus (h : s.link.state = .joining ∨ s.link.state = .active) :
    s.frameFails r =
      if r.idleEarly then State.offerJoin { s with link := { s.link with rejectDriven := false } } true
      else { s with link := { s.link with rejectDriven := inError r.bits } } := by
  rcases h with h | h <;>
    (rw [State.frameFails, h]
     rfl)

theorem frameFails_when_down (h : s.link.state = .linkDown) (hfails : r.idleEarly = true ∨ r.rejectDominant = true ∨ inError r.bits = true) :
    s.frameFails r = { s with link := { s.link with quiet := some 2000, rejectDriven := false } } := by
  rw [State.frameFails, h]
  refine if_pos ?_
  rw [Bool.or_eq_true, Bool.or_eq_true, or_assoc]
  exact hfails

theorem frameFails_of_closed (h : s.link.state = .silent ∨ s.link.state = .isolated) : s.frameFails r = s := by
  rcases h with h | h <;> rw [State.frameFails, h]

end

/-- Settles O52. -/
theorem theStationJoinsAndReturnsToTheLink : Obligations.TheStationJoinsAndReturnsToTheLink := by
  unfold Obligations.TheStationJoinsAndReturnsToTheLink
  intro s
  refine ⟨fun d a hr hstate htimer ha => ?active, fun h => if_pos h, fun h => ⟨_, startRestore_of_first h, fun o => ?member, ?sorted⟩,
    fun d a hr hstate htimer ha => ?joins, rfl, fun hr r => ?fails⟩
  case active =>
    rw [ha, ← enterActive_passTime hr]
    exact unlessReset_expire_some (s := s) (·.joiningDue) (fun s => s.enterActive.issueClaims) hr (joiningDue_of_joining hstate htimer)
  case member =>
    rw [(inRestoreOrder_spec s _ (allOutlets_sorted.filter _)).1, List.mem_filter, startTakes_iff]
    exact and_iff_right (mem_allOutlets o)
  case sorted => exact (inRestoreOrder_spec s _ (allOutlets_sorted.filter _)).2
  case joins =>
    rw [ha]
    exact unlessReset_expire_some (s := s) (·.quietDue) State.enterJoining hr (quietDue_of_down hstate htimer)
  case fails =>
    have hexec : exec (.failedFrame r) s = .next (s.frameFails r) := congrArg Host.Outcome.next (unlessReset_running hr _)
    rw [hexec]
    refine ⟨fun hbus => ⟨fun hearly => ?_, fun hearly hgood => ?_, fun hearly hbad => ?_⟩, fun hdown hfails => ?_,
      fun hclosed => by rw [frameFails_of_closed hclosed]⟩
    · rw [frameFails_on_bus hbus, if_pos hearly]
    · rw [frameFails_on_bus hbus, if_neg (by rw [hearly]; decide), inError_of_good hgood]
    · rw [frameFails_on_bus hbus, if_neg (by rw [hearly]; decide), inError_of_bad hbad]
    · rw [frameFails_when_down hdown (hfails.imp_right (Or.imp_right inError_of_bad))]

/-! ## Carried frames (R65, R70, R71, R73, R81) -/

section
variable {s : State} {k : StationId} {f : PeerFrame} {act : State → State}

theorem receive_of_closed (h : s.link.state = .silent ∨ s.link.state = .isolated) : s.receive k f act = s := by
  rcases h with h | h <;> rw [State.receive, h]

theorem receive_on_bus (h : s.link.state = .joining ∨ s.link.state = .active) :
    s.receive k f act =
      if !payloadInRange f then s.frameInError
      else if k = s.station && !s.isOwnFrame k f then s.leaveSlot.enterIsolated (frameKind f) (revealedSerial f)
      else act (s.takeOwn k f).leaveSlot := by
  rcases h with h | h <;> rw [State.receive, h]

theorem receive_when_down (h : s.link.state = .linkDown) :
    s.receive k f act =
      if !payloadInRange f then s.frameInError
      else if k = s.station then s.leaveSlot.enterIsolated (frameKind f) (revealedSerial f)
      else act s.leaveSlot := by
  rw [State.receive, h]

theorem frameInError_on_bus (h : s.link.state = .joining ∨ s.link.state = .active) :
    s.frameInError = { s with link := { s.link with rejectDriven := true } } := by
  rcases h with h | h <;>
    (rw [State.frameInError, h]
     rfl)

theorem frameInError_when_down (h : s.link.state = .linkDown) :
    s.frameInError = { s with link := { s.link with quiet := some 2000, rejectDriven := false } } := by
  rw [State.frameInError, h]
  rfl

theorem isOwnAttempt_iff : s.isOwnAttempt k f = true ↔ k = s.station ∧ ∃ a, s.link.sending = some a ∧ a.frame.frame = f := by
  unfold State.isOwnAttempt
  cases s.link.sending with
  | none => simp
  | some a => simp

theorem isOwnFrame_iff : s.isOwnFrame k f = true ↔ s.isOwnAttempt k f = true ∨ ∃ p, f = .join p ∧ p.serial = s.serial := by
  cases f <;> simp [State.isOwnFrame]

theorem receive_in_error (h : s.link.state = .joining ∨ s.link.state = .active) (hrange : payloadInRange f = false) :
    s.receive k f act = { s with link := { s.link with rejectDriven := true } } := by
  rw [receive_on_bus h, if_pos (by rw [hrange]; rfl), frameInError_on_bus h]

/-- A frame that is not the end of the own attempt, and that is the station's own or another station's. -/
theorem receive_applies (h : s.link.state = .joining ∨ s.link.state = .active) (hrange : payloadInRange f = true)
    (hown : k ≠ s.station ∨ s.isOwnFrame k f = true) : s.receive k f act = act (s.takeOwn k f).leaveSlot := by
  rw [receive_on_bus h, if_neg (by rw [hrange]; decide)]
  refine if_neg ?_
  rw [Bool.and_eq_true, decide_eq_true_eq, Bool.not_eq_true']
  rintro ⟨hstation, hnotOwn⟩
  rcases hown with hother | hown
  · exact hother hstation
  · rw [hnotOwn] at hown
    cases hown

theorem receive_isolates (h : s.link.state = .joining ∨ s.link.state = .active) (hrange : payloadInRange f = true) (hstation : k = s.station)
    (hown : ¬ s.isOwnFrame k f = true) : s.receive k f act = s.leaveSlot.enterIsolated (frameKind f) (revealedSerial f) := by
  rw [receive_on_bus h, if_neg (by rw [hrange]; decide), if_pos (by simp [hstation, hstation ▸ hown])]

/-- The queue once an attempt is carried (R71, R76). -/
def Sending.queueAfter (a : Sending) (station : StationId) (q : List QueuedFrame) : List QueuedFrame :=
  match a.replacement with
  | some g => insertByKey (queuedFrame 7 station g) (q.erase a.frame)
  | none => q.erase a.frame

theorem attemptCarried_of_sending {a : Sending} (h : s.link.sending = some a) :
    s.attemptCarried.leaveSlot =
      { s with
        link := { s.link with
          queue := a.queueAfter s.station s.link.queue, sending := none, failures := 0, rejectDriven := false } } := by
  unfold State.attemptCarried Sending.queueAfter
  simp only [h]
  cases a.replacement <;> rfl

theorem takeOwn_of_other (h : ¬ s.isOwnAttempt k f = true) : s.takeOwn k f = s := if_neg h

end

/-- Settles O53, by the link state. -/
theorem carriedFramesReachTheStation : Obligations.CarriedFramesReachTheStation := by
  unfold Obligations.CarriedFramesReachTheStation
  intro c k f s hc hr
  rw [exec_carried hc s hr]
  have notSending (h : ∀ a, s.link.sending = some a → a.frame.frame ≠ f) : ¬ s.isOwnAttempt k f = true := by
    rw [isOwnAttempt_iff]
    rintro ⟨-, a, hsending, hframe⟩
    exact h a hsending hframe
  refine ⟨fun hclosed => by rw [receive_of_closed hclosed], fun hbus => ⟨fun hrange => by rw [receive_in_error hbus hrange], fun hrange =>
    ⟨fun a hsending hframe hstation => ?own, fun hother => ?applies, fun hstation hforeign hidle => ?isolates⟩⟩,
    fun hdown => ⟨fun hrange => ?_, fun hrange hother => ?_, fun hrange hstation => ?_⟩,
    fun kind value => rfl⟩
  case own =>
    have hattempt : s.isOwnAttempt k f = true := isOwnAttempt_iff.2 ⟨hstation, a, hsending, hframe⟩
    rw [receive_applies hbus hrange (Or.inr (isOwnFrame_iff.2 (Or.inl hattempt))), State.takeOwn, if_pos hattempt,
      attemptCarried_of_sending hsending, Sending.queueAfter] <;> cases a.replacement <;> rfl
  case applies =>
    have hidle : ¬ s.isOwnAttempt k f = true := by
      rcases hother with hother | ⟨-, hidle⟩
      · exact fun h => hother (isOwnAttempt_iff.1 h).1
      · exact notSending hidle
    rw [receive_applies hbus hrange (hother.imp_right (fun h => isOwnFrame_iff.2 (Or.inr h.1))), takeOwn_of_other hidle]
    rfl
  case isolates =>
    have hnotOwn : ¬ s.isOwnFrame k f = true := by
      rw [isOwnFrame_iff]
      rintro (hattempt | ⟨p, hp, hserial⟩)
      · exact notSending hidle hattempt
      · exact hforeign p hp hserial
    rw [receive_isolates hbus hrange hstation hnotOwn]
    cases f <;> rfl
  · rw [receive_when_down hdown, if_pos (by rw [hrange]; rfl), frameInError_when_down hdown]
  · rw [receive_when_down hdown, if_neg (by rw [hrange]; decide), if_neg hother]
    rfl
  · rw [receive_when_down hdown, if_neg (by rw [hrange]; decide), if_pos hstation]
    cases f <;> rfl

end Sys2Proof.Machine
end

section
/-! PROOFS. Overload shedding: the evaluation, the designated shedder, its shed, the end of a hold (R125 to R132). -/

namespace Sys2Proof.Machine
open Sys2Proof

/-! ## The designated shedder (R128) -/

section
variable {s : State} {n : BranchId} {j : StationId} {v : Nat}

/-- Station `j` holds rank `v` on branch `n` for the designation (R128). -/
def State.holdsRank (s : State) (n : BranchId) (j : StationId) (v : Nat) : Prop :=
  (s.peer j).state = .live ∧ v < 255 ∧ ∃ i b, (s.peer j).info = some i ∧ i.map.get b = n ∧ (s.peer j).ranks.get b = v

theorem mem_banksOn {p : Peer} {b : Bank} : b ∈ allBanks.filter (p.onBranch n) ↔ p.onBranch n b = true := by
  rw [List.mem_filter]
  cases b <;> simp [allBanks]

theorem rankOn_le {i : PeerInfo} {b : Bank} (hlive : (s.peer j).state = .live) (hinfo : (s.peer j).info = some i) (hb : i.map.get b = n) :
    (s.peer j).rankOn n ≤ (s.peer j).ranks.get b :=
  (foldl_min_spec 255 _).2.1 _
    (List.mem_map_of_mem (mem_banksOn.2 (onBranch_iff.2 ⟨by rw [hlive]; decide, i, hinfo, hb⟩)))

theorem holdsRank_rankOn (hlive : (s.peer j).state = .live) (hlow : (s.peer j).rankOn n < 255) :
    s.holdsRank n j ((s.peer j).rankOn n) := by
  refine ⟨hlive, hlow, ?_⟩
  rcases (foldl_min_spec 255 ((allBanks.filter ((s.peer j).onBranch n)).map (s.peer j).ranks.get)).2.2 with hnone | hsome
  · rw [show (s.peer j).rankOn n = 255 from hnone] at hlow
    exact absurd hlow (Nat.lt_irrefl _)
  · obtain ⟨b, hb, hrank⟩ := List.mem_map.1 hsome
    obtain ⟨-, i, hinfo, hmap⟩ := onBranch_iff.1 (mem_banksOn.1 hb)
    exact ⟨i, b, hinfo, hmap, hrank⟩

theorem mem_ranksOn {w : Nat} : w ∈ (s.ranksOn n).map (·.2) ↔ ∃ k, (s.peer k).state = .live ∧ (s.peer k).rankOn n = w := by
  simp [State.ranksOn, mem_allNumbers]

theorem designated_of_no_rank (h : ∀ j v, ¬ s.holdsRank n j v) : s.designated n = none := by
  refine if_pos ?_
  rcases (foldl_min_spec 255 ((s.ranksOn n).map (·.2))).2.2 with hnone | hsome
  · exact hnone
  · obtain ⟨k, hlive, hrank⟩ := mem_ranksOn.1 hsome
    have hle : s.bestRank n ≤ 255 := (foldl_min_spec 255 (List.map Prod.snd (s.ranksOn n))).1
    rcases Nat.lt_or_eq_of_le hle with hlt | heq
    · exact absurd (holdsRank_rankOn hlive (by rw [hrank]; exact hlt)) (h k _)
    · exact heq

theorem find_map_pair {α β : Type} (f : α → β) (q : β → Bool) (l : List α) :
    ((l.map (fun k => (k, f k))).find? (fun x => q x.2)).map (·.1) = l.find? (fun k => q (f k)) := by
  induction l with
  | nil => rfl
  | cons k l ih =>
    rw [List.map_cons, List.find?_cons, List.find?_cons]
    cases hk : q (f k) with
    | true => simp [hk]
    | false => simpa [hk] using ih

theorem designated_of_lowest (h : s.holdsRank n j v) (hlow : ∀ i w, s.holdsRank n i w → v < w ∨ v = w ∧ j ≤ i) : s.designated n = some j := by
  obtain ⟨hlive, hv, i, b, hinfo, hb, hrank⟩ := h
  have atLeast (k : StationId) (hk : (s.peer k).state = .live) (hk255 : (s.peer k).rankOn n < 255) :
      v < (s.peer k).rankOn n ∨ v = (s.peer k).rankOn n ∧ j ≤ k := hlow k _ (holdsRank_rankOn hk hk255)
  have hj : (s.peer j).rankOn n = v := by
    have hle := rankOn_le hlive hinfo hb
    rw [hrank] at hle
    rcases atLeast j hlive (by omega) with hlt | ⟨heq, -⟩ <;> omega
  have hbest : s.bestRank n = v := by
    obtain ⟨-, hall, hone⟩ := foldl_min_spec 255 ((s.ranksOn n).map (·.2))
    have hle : s.bestRank n ≤ v := hall v (mem_ranksOn.2 ⟨j, hlive, hj⟩)
    rcases hone with hnone | hsome
    · rw [show s.bestRank n = 255 from hnone] at hle
      omega
    · obtain ⟨k, hk, hrankk⟩ := mem_ranksOn.1 hsome
      have hkbest : (s.peer k).rankOn n = s.bestRank n := hrankk
      rcases atLeast k hk (by omega) with hlt | ⟨heq, -⟩ <;> omega
  have hfind : ((s.ranksOn n).find? (fun x => decide (x.2 = s.bestRank n))).map (·.1) =
      allNumbers.find? (fun k => decide ((s.peer k).state = .live) && decide ((s.peer k).rankOn n = v)) := by
    rw [hbest, State.ranksOn, find_map_pair (fun k => (s.peer k).rankOn n) (fun r => decide (r = v)), List.find?_filter]
    congr 1
    funext k
    simp
  rw [State.designated, if_neg (by rw [hbest]; omega), hfind]
  refine find_lowest_number (by simp [hlive, hj]) (fun k hk => ?_)
  rw [Bool.and_eq_false_iff, decide_eq_false_iff_not, decide_eq_false_iff_not, ← Decidable.not_and_iff_not_or_not]
  rintro ⟨hklive, hkrank⟩
  rcases atLeast k hklive (by omega) with hlt | ⟨-, hle⟩
  · omega
  · exact absurd hk (Fin.not_lt.2 hle)

end

/-! ## The outlet shed (R130) -/

section
variable (s : State)

/-- Outlet `o` is shed before outlet `q`, or is it. -/
def State.shedFirst (o q : OutletId) : Prop :=
  (s.outlet o).cfg.shedRank < (s.outlet q).cfg.shedRank ∨ (s.outlet o).cfg.shedRank = (s.outlet q).cfg.shedRank ∧ q ≤ o

theorem shedFirst_antisymm {o q : OutletId} (hoq : s.shedFirst o q) (hqo : s.shedFirst q o) : o = q := by
  rcases hoq with hlt | ⟨heq, hle⟩ <;> rcases hqo with hlt' | ⟨heq', hle'⟩
  · omega
  · omega
  · omega
  · exact Fin.le_antisymm hle' hle

/-- Induction from the end of a list. -/
theorem list_concat_induction {α : Type} {p : List α → Prop} (nil : p []) (concat : ∀ l a, p l → p (l ++ [a])) (l : List α) : p l := by
  have hreverse : ∀ r : List α, p r.reverse := fun r => by
    induction r with
    | nil => exact nil
    | cons a r ih =>
      rw [List.reverse_cons]
      exact concat r.reverse a ih
  exact l.reverse_reverse ▸ hreverse l.reverse

theorem foldl_shedBefore (l : List OutletId) (hl : l.Pairwise (· < ·)) :
    l = [] ∧ l.foldl s.shedBefore none = none ∨ ∃ o ∈ l, l.foldl s.shedBefore none = some o ∧ ∀ q ∈ l, s.shedFirst o q := by
  induction l using list_concat_induction with
  | nil => exact Or.inl ⟨rfl, rfl⟩
  | concat l a ih =>
    obtain ⟨hsorted, -, hlast⟩ := List.pairwise_append.1 hl
    have hself : s.shedFirst a a := Or.inr ⟨rfl, Fin.le_refl a⟩
    rw [List.foldl_append, List.foldl_cons, List.foldl_nil]
    refine Or.inr ?_
    rcases ih hsorted with ⟨hnil, hnone⟩ | ⟨o, ho, hsome, hfirst⟩
    · subst hnil
      exact ⟨a, List.mem_append_right _ (List.mem_singleton_self a), rfl, fun q hq => by rw [List.mem_singleton.1 hq]; exact hself⟩
    · rw [hsome, State.shedBefore]
      by_cases hrank : (s.outlet a).cfg.shedRank ≤ (s.outlet o).cfg.shedRank
      · refine ⟨a, List.mem_append_right _ (List.mem_singleton_self a), if_pos hrank, fun q hq => ?_⟩
        rcases List.mem_append.1 hq with hq | hq
        · have hqa : q < a := hlast q hq a (List.mem_singleton_self a)
          rcases hfirst q hq with hlt | ⟨heq, -⟩
          · exact Or.inl (by omega)
          · rcases Nat.lt_or_eq_of_le hrank with hlt | heq'
            · exact Or.inl (by omega)
            · exact Or.inr ⟨by omega, Fin.le_of_lt hqa⟩
        · rw [List.mem_singleton.1 hq]
          exact hself
      · refine ⟨o, List.mem_append_left _ ho, if_neg hrank, fun q hq => ?_⟩
        rcases List.mem_append.1 hq with hq | hq
        · exact hfirst q hq
        · rw [List.mem_singleton.1 hq]
          exact Or.inl (by omega)

/-- Outlet `o` is a shed candidate of branch `n` (R127, R130). -/
def State.sheds (n : BranchId) (o : OutletId) : Prop :=
  (s.bank (bankOf o)).branch = n ∧ (s.outlet o).state = .on ∧ (s.outlet o).isProtected = false ∧ (s.outlet o).cycle ≠ .group ∧
    1 ≤ (s.outlet o).cfg.shedRank ∧ (s.outlet o).cfg.shedRank ≤ 254

variable {s} {n : BranchId}

theorem mem_shedCandidates {o : OutletId} :
    o ∈ allOutlets.filter (fun o => decide ((s.bank (bankOf o)).branch = n) && (s.outlet o).isCandidate) ↔ s.sheds n o := by
  rw [List.mem_filter, Bool.and_eq_true, decide_eq_true_eq, isCandidate_iff]
  exact and_iff_right (mem_allOutlets o)

theorem shedChoice_of_first {o : OutletId} (ho : s.sheds n o) (hfirst : ∀ q, s.sheds n q → s.shedFirst o q) : s.shedChoice n = some o := by
  rcases foldl_shedBefore s _ (allOutlets_sorted.filter (fun o => decide ((s.bank (bankOf o)).branch = n) && (s.outlet o).isCandidate)) with
    ⟨hnil, -⟩ | ⟨x, hx, hchoice, hbefore⟩
  · have hmem := mem_shedCandidates.2 ho
    rw [hnil] at hmem
    cases hmem
  · rw [State.shedChoice, hchoice, shedFirst_antisymm s (hbefore o (mem_shedCandidates.2 ho)) (hfirst x (mem_shedCandidates.1 hx))]

theorem shedChoice_of_none (h : ∀ o, ¬ s.sheds n o) : s.shedChoice n = none := by
  rw [State.shedChoice, List.eq_nil_iff_forall_not_mem.2 (fun o ho => h o (mem_shedCandidates.1 ho))]
  rfl

end

/-! ## The report, the shed, the evaluation (R125, R126, R129 to R131) -/

section
variable {s : State} {n : BranchId} {k : StationId}

theorem reportOverload_of_reported (detail : Nat) (h : (s.over n).reported = true) : s.reportOverload n detail = s := if_pos h

theorem reportOverload_of_new (detail : Nat) (h : (s.over n).reported = false) :
    s.reportOverload n detail =
      State.post { s with overload := s.overload.set n { s.over n with reported := true } } .branchOverload n.val detail (s.branchLoad n) :=
  if_neg (by rw [h]; decide)

theorem modOver_over_self (f : Overload → Overload) : (s.modOver n f).over n = f (s.over n) :=
  (modOver_over s n n f).trans (if_pos rfl)

theorem shedOn_of_choice {o : OutletId} (h : s.shedChoice n = some o) :
    s.shedOn n = ((s.enterOpening o).post .overloadShed (o.val + 1) n.val (s.branchLoad n)).offerStatus := by
  rw [State.shedOn, h]
  rfl

theorem shedOn_of_none (h : s.shedChoice n = none) : s.shedOn n = s.offerStatus.reportOverload n 2 := by
  rw [State.shedOn, h]
  rfl

theorem designate_of_none (h : s.designated n = none) :
    s.designate n = (s.modOver n (fun r => { r with state := .clear, shedder := none })).reportOverload n 1 := by
  rw [State.designate, h]
  rfl

theorem designate_of_some {j : StationId} (h : s.designated n = some j) :
    s.designate n =
      if j = s.station then (s.modOver n (fun r => { r with state := .hold, shedder := some j })).shedOn n
      else s.modOver n (fun r => { r with state := .hold, shedder := some j }) := by
  rw [State.designate, h]

/-- A STATUS of station `k` touches branch `n` (R125). -/
def State.touches (s : State) (k : StationId) (n : BranchId) : Prop :=
  s.uses n = true ∧ (s.peer k).state ≠ .absent ∧ ∃ i b, (s.peer k).info = some i ∧ i.map.get b = n

theorem touches_iff : (s.uses n && allBanks.any ((s.peer k).onBranch n)) = true ↔ s.touches k n := by
  rw [Bool.and_eq_true, List.any_eq_true]
  refine and_congr_right fun _ => ⟨?_, ?_⟩
  · rintro ⟨b, -, hb⟩
    obtain ⟨hstate, i, hinfo, hmap⟩ := onBranch_iff.1 hb
    exact ⟨hstate, i, b, hinfo, hmap⟩
  · rintro ⟨hstate, i, b, hinfo, hmap⟩
    exact ⟨b, by cases b <;> decide, onBranch_iff.2 ⟨hstate, i, hinfo, hmap⟩⟩

theorem overloadStep_of_hold (h : (s.over n).state = .hold) :
    s.overloadStep k n =
      if (s.over n).shedder = some k then s.modOver n (fun r => { r with state := .clear, shedder := none }) else s := if_pos h

theorem overloadStep_touched (h : (s.over n).state ≠ .hold) (htouches : s.touches k n) : s.overloadStep k n = s.evaluate n :=
  (if_neg h).trans (if_pos (touches_iff.2 htouches))

theorem overloadStep_untouched (h : (s.over n).state ≠ .hold) (htouches : ¬ s.touches k n) : s.overloadStep k n = s :=
  (if_neg h).trans (if_neg (mt touches_iff.1 htouches))

theorem evaluate_within (h : s.branchLoad n ≤ s.ownLimit n) :
    s.evaluate n =
      { s with overload := s.overload.set n { s.over n with loadTotal := s.branchLoad n, state := .clear, reported := false } } := by
  rw [State.evaluate, if_neg (Nat.not_lt.2 h)]
  simp only [State.modOver, State.over, Tab.get_set_self, Tab.set_set]

theorem evaluate_first (h : s.ownLimit n < s.branchLoad n) (hstate : (s.over n).state = .clear) :
    s.evaluate n = { s with overload := s.overload.set n { s.over n with loadTotal := s.branchLoad n, state := .overOnce } } := by
  rw [State.evaluate, if_pos h, hstate]
  simp only [State.modOver, State.over, Tab.get_set_self, Tab.set_set]

theorem evaluate_second (h : s.ownLimit n < s.branchLoad n) (hstate : (s.over n).state = .overOnce) :
    s.evaluate n = State.designate { s with overload := s.overload.set n { s.over n with loadTotal := s.branchLoad n } } n := by
  rw [State.evaluate, if_pos h, hstate]
  rfl

theorem endHolds_over :
    (s.endHolds k).over n =
      if (s.over n).state = .hold ∧ (s.over n).shedder = some k then { s.over n with state := .clear, shedder := none } else s.over n := by
  rw [State.over, State.endHolds, Tab.get_mapIdx]
  rfl

end

theorem onBranch_eq (e : Peer) (n : BranchId) (b : Bank) :
    e.onBranch n b = match e.info with
      | some i => e.state != .absent && i.map.get b == n
      | none => false := by
  unfold Peer.onBranch Peer.known
  cases e.info with
  | none => rfl
  | some i => cases e.state <;> rfl

/-- Settles O56: the load total, the step of a branch, the designation, the end of a hold. -/
theorem overloadedBranchesShedOneOutlet : Obligations.OverloadedBranchesShedOneOutlet := by
  unfold Obligations.OverloadedBranchesShedOneOutlet
  intro s e n k r touches candidate hr he htouches hcandidate
  subst hr
  rw [show touches = s.touches k n from htouches, show candidate = s.sheds n from hcandidate]
  refine ⟨rfl, rfl, ?load, fun hstate hshedder => ?ends, fun hother => ?passes, fun hstate htouched =>
    ⟨fun hload => ?within, fun hload hclear => ?first, fun hload honce => ?second⟩,
    ⟨fun hnone => ⟨fun hreported => ?quiet, fun hnew => ?report⟩, fun j hold hj hhold =>
      ⟨fun hother => ?waits, fun hown => ⟨fun o ho hfirst => ?sheds, fun hno hreported => ?noneLeft, fun hno hnew => ?noneLeftReport⟩⟩⟩,
    fun rank hrank => by subst hrank; exact ⟨designated_of_no_rank, fun j v => designated_of_lowest⟩, rfl, endHolds_over⟩
  case load =>
    refine congrArg (fun l : List Nat => min 16384 l.sum) (List.map_congr_left fun e _ => ?_)
    refine congrArg (fun l : List Bank => (l.map (fun b => e.loads.get b)).sum) (List.filter_congr fun b _ => ?_)
    exact onBranch_eq e n b
  case ends => rw [overloadStep_of_hold hstate, if_pos hshedder]; rfl
  case passes =>
    rcases hother with ⟨hstate, hshedder⟩ | ⟨hstate, huntouched⟩
    · rw [overloadStep_of_hold hstate, if_neg hshedder]
    · exact overloadStep_untouched hstate huntouched
  case within => rw [overloadStep_touched hstate htouched, evaluate_within hload]
  case first => rw [overloadStep_touched hstate htouched, evaluate_first hload hclear]
  case second => rw [overloadStep_touched hstate htouched, evaluate_second hload honce, he]
  case quiet =>
    rw [designate_of_none hnone, reportOverload_of_reported _ (by rw [modOver_over_self]; exact hreported)]
    rfl
  case report =>
    rw [designate_of_none hnone, reportOverload_of_new _ (by rw [modOver_over_self]; exact hnew), modOver_over_self]
    simp only [State.modOver, Tab.set_set] <;> rfl
  all_goals
    have hholds : s.modOver n (fun r => { r with state := .hold, shedder := some j }) = hold := hhold.symm
    rw [designate_of_some hj, hholds]
  case waits => rw [if_neg hother]
  case sheds =>
    have hchoice : hold.shedChoice n = some o := by rw [hhold]; exact shedChoice_of_first (s := s) ho hfirst
    rw [if_pos hown, shedOn_of_choice hchoice]
    rw [show hold.branchLoad n = s.branchLoad n by rw [hhold]; rfl]
  all_goals
    have hchoice : hold.shedChoice n = none := by rw [hhold]; exact shedChoice_of_none (s := s) hno
    have hover : hold.offerStatus.over n = { s.over n with state := .hold, shedder := some j } := by
      rw [State.over, offerStatus_overload, hhold]
      exact Tab.get_set_self _ _ _
    rw [if_pos hown, shedOn_of_none hchoice]
  case noneLeft => rw [reportOverload_of_reported _ (by rw [hover]; exact hreported)]
  case noneLeftReport =>
    have hload : hold.offerStatus.branchLoad n = s.branchLoad n := by
      rw [State.branchLoad, offerStatus_peers, hhold]
      rfl
    rw [reportOverload_of_new _ (by rw [hover]; exact hnew), hover, hload, offerStatus_overload, show hold.overload = _ from congrArg State.overload hhold,
      Tab.set_set]

end Sys2Proof.Machine
end

section
/-! PROOFS. The peer table: hearing a station, STATUS, FORGET, liveness (R96 to R98, R101, R109, R118, R155). -/

namespace Sys2Proof.Machine
open Sys2Proof

/-! ## Hearing a station (R97, R98) -/

/-- The entry of a station that is heard. -/
def Peer.heardAt (now : BoardTime) (e : Peer) : Peer :=
  match e.state with
  | .absent => e
  | .live => { e with lastHeard := some now }
  | .lost => { e with state := .live, lastHeard := some now, becameLive := some now }

theorem heardAt_known {now : BoardTime} {e : Peer} (h : e.state ≠ .absent) :
    e.heardAt now =
      { e with state := .live, lastHeard := some now, becameLive := if e.state = .lost then some now else e.becameLive } := by
  unfold Peer.heardAt
  split
  · next habsent => exact absurd habsent h
  · next hlive => rw [if_neg (by rw [hlive]; decide), ← hlive]
  · next hlost => rw [if_pos hlost]

theorem heardAt_absent {now : BoardTime} {e : Peer} (h : e.state = .absent) : e.heardAt now = e := by
  rw [Peer.heardAt, h]

theorem heardAt_live {now : BoardTime} {e : Peer} (h : e.state = .live) : e.heardAt now = { e with lastHeard := some now } := by
  rw [heardAt_known (by rw [h]; decide), if_neg (by rw [h]; decide), ← h]

section
variable {s : State} {k : StationId}

theorem heard_absent (h : (s.peer k).state = .absent) : s.heard k = s := by
  rw [State.heard, h]

theorem heard_live (h : (s.peer k).state = .live) :
    s.heard k = { s with peers := s.peers.set k { s.peer k with lastHeard := some s.boardTime } } := by
  rw [State.heard, h]
  rfl

theorem heard_lost (h : (s.peer k).state = .lost) :
    s.heard k =
      State.post { s with
        peers := s.peers.set k { s.peer k with state := .live, lastHeard := some s.boardTime, becameLive := some s.boardTime } }
        .peerJoined k.val 2 (s.peer k).serialLow := by
  rw [State.heard, h]
  rfl

/-- Hearing writes the entry, and may post. -/
theorem heard_frame (s : State) (k : StationId) :
    s.heard k = { s with peers := s.peers.set k ((s.peer k).heardAt s.boardTime), port := (s.heard k).port } := by
  cases h : (s.peer k).state with
  | absent => rw [heard_absent h, heardAt_absent h, State.peer, Tab.set_get]
  | live => rw [heard_live h, heardAt_live h]
  | lost =>
    have hpeer : (s.peer k).heardAt s.boardTime =
        { s.peer k with state := .live, lastHeard := some s.boardTime, becameLive := some s.boardTime } := by
      rw [Peer.heardAt, h]
    rw [heard_lost h, post_eq, hpeer]

theorem heardFrom_known (h : (s.peer k).state ≠ .absent) : s.heardFrom k = s.heard k := if_neg h

theorem heardFrom_unknown (h : (s.peer k).state = .absent) : s.heardFrom k = if s.link.state.onBus then s.offerJoin true else s := if_pos h

theorem heardFrom_peers (s : State) (k : StationId) : (s.heardFrom k).peers = s.peers.set k ((s.peer k).heardAt s.boardTime) := by
  by_cases h : (s.peer k).state = .absent
  · rw [heardFrom_unknown h, heardAt_absent h, State.peer, Tab.set_get]
    split
    · exact offerJoin_peers s true
    · rfl
  · rw [heardFrom_known h]
    exact (congrArg State.peers (heard_frame s k) :)

end

theorem table_peer {s t : State} (h : t.table = s.table) (j : StationId) : t.peer j = s.peer j := by
  rw [State.peer, State.peer, (table_eq h).1]

/-! ## STATUS (R96, R118) -/

theorem applyStatus_table (s : State) (k : StationId) (p : Banked StatusBank) :
    (s.applyStatus k p).table = ((s.heardFrom k).modPeer k (Peer.reported p)).table := by
  rw [State.applyStatus]
  simp only [table_overloadAfter, table_triggerRetries]
  split
  · exact table_endClaims _ _
  · rfl

/-- The entry a STATUS leaves. -/
theorem applyStatus_peer (s : State) (k : StationId) (p : Banked StatusBank) (j : StationId) :
    (s.applyStatus k p).peer j = if j = k then Peer.reported p ((s.peer k).heardAt s.boardTime) else s.peer j := by
  rw [table_peer (applyStatus_table s k p)]
  simp only [State.modPeer, State.peer, heardFrom_peers, Tab.get_set]
  split <;> simp

/-- A STATUS in the table, and the own claims it ends (R96, R118). -/
def State.statusTaken (s : State) (k : StationId) (p : Banked StatusBank) : State :=
  if k = s.station then ((s.heardFrom k).modPeer k (Peer.reported p)).endClaims p else (s.heardFrom k).modPeer k (Peer.reported p)

theorem statusTaken_other {s : State} {k : StationId} (p : Banked StatusBank) (h : k ≠ s.station) :
    s.statusTaken k p = (s.heardFrom k).modPeer k (Peer.reported p) := if_neg h

theorem statusTaken_own {s : State} {k : StationId} (p : Banked StatusBank) (h : k = s.station) :
    s.statusTaken k p = ((s.heardFrom k).modPeer k (Peer.reported p)).endClaims p := if_pos h

theorem applyStatus_eq (s : State) (k : StationId) (p : Banked StatusBank) :
    s.applyStatus k p = ((s.statusTaken k p).triggerRetries (loweredOrCleared s (s.statusTaken k p))).overloadAfter k := by
  unfold State.applyStatus State.statusTaken
  rfl

theorem endClaims_claim (s : State) (p : Banked StatusBank) (b : Bank) :
    (s.endClaims p).claim b =
      if (s.claim b).state = .granted ∧ (s.claim b).ending ≠ .none ∧ (p.get b).held = 0 then (s.claim b).toNone else s.claim b := by
  rw [State.claim, State.endClaims, Banked.get_build]

theorem endClaims_spec (s : State) (p : Banked StatusBank) :
    { s.endClaims p with claims := s.claims } = s ∧
      ∀ b, (s.endClaims p).claim b =
        if (s.claim b).state = .granted ∧ (s.claim b).ending ≠ .none ∧ (p.get b).held = 0 then (s.claim b).toNone else s.claim b :=
  ⟨rfl, endClaims_claim s p⟩

theorem applyStatus_absent {s : State} {k : StationId} (p : Banked StatusBank) (h : (s.peer k).state = .absent) :
    (s.applyStatus k p).peer k = s.peer k := by
  rw [applyStatus_peer, if_pos rfl, heardAt_absent h, Peer.reported, if_pos h]

theorem applyStatus_known {s : State} {k : StationId} (p : Banked StatusBank) (h : (s.peer k).state ≠ .absent) :
    (s.applyStatus k p).peer k =
      { s.peer k with
        state := .live, lastHeard := some s.boardTime
        becameLive := if (s.peer k).state = .lost then some s.boardTime else (s.peer k).becameLive
        loads := p.map (·.load), helds := p.map (·.held), ranks := p.map (·.rank), flags := p.map (fun x => ⟨x.sag, x.recovering⟩) } := by
  have hlive : ((s.peer k).heardAt s.boardTime).state = .live := by rw [heardAt_known h]
  rw [applyStatus_peer, if_pos rfl, Peer.reported, if_neg (by rw [hlive]; decide), heardAt_known h]

theorem loweredOrCleared_iff (before after : State) (n : BranchId) :
    loweredOrCleared before after n = true ↔
      after.branchTotal n < before.branchTotal n ∨ hasNumber before.conflicts n = true ∧ hasNumber after.conflicts n = false := by
  simp [loweredOrCleared]

/-! ## FORGET (R101, R155) -/

theorem hasNumber_rosterOf (s : State) (g : Nat) (i : StationId) :
    hasNumber (s.rosterOf g) i = true ↔ i = s.station ∨ (s.peer i).state ≠ .absent ∧ g ∈ (s.peer i).groups := by
  simp [State.rosterOf, hasNumber_numbersWhere, Peer.known]

/-- A branch is differed on by some entry (R91, R92). -/
def State.differsOn (s : State) (n : BranchId) : Prop :=
  ∃ i x b, i ≠ s.station ∧ (s.peer i).state ≠ .absent ∧ (s.peer i).info = some x ∧ x.map.get b = n ∧ x.limits.get b ≠ s.ownLimit n

theorem entryDiffers_iff (s : State) (n : BranchId) (i : StationId) :
    s.entryDiffers n i = true ↔
      ∃ x b, i ≠ s.station ∧ (s.peer i).state ≠ .absent ∧ (s.peer i).info = some x ∧ x.map.get b = n ∧ x.limits.get b ≠ s.ownLimit n := by
  unfold State.entryDiffers
  cases hinfo : (s.peer i).info with
  | none => simp
  | some x => simp [Peer.known, limitDiffers_iff, and_assoc]

theorem any_entryDiffers_iff (s : State) (n : BranchId) : allNumbers.any (s.entryDiffers n) = true ↔ s.differsOn n := by
  rw [List.any_eq_true]
  constructor
  · rintro ⟨i, -, hi⟩
    obtain ⟨x, b, h⟩ := (entryDiffers_iff s n i).1 hi
    exact ⟨i, x, b, h⟩
  · rintro ⟨i, x, b, h⟩
    exact ⟨i, mem_allNumbers i, (entryDiffers_iff s n i).2 ⟨x, b, h⟩⟩

theorem ownLimit_of_banks {s t : State} (h : t.banks = s.banks) (n : BranchId) : t.ownLimit n = s.ownLimit n := by
  unfold State.ownLimit State.ownBanksOn State.bank
  rw [h]

theorem differsOn_of_same {s t : State} (hpeers : t.peers = s.peers) (hbanks : t.banks = s.banks) (hstation : t.station = s.station)
    (n : BranchId) : t.differsOn n ↔ s.differsOn n := by
  simp only [State.differsOn, State.peer, hpeers, hstation, ownLimit_of_banks hbanks]

/-- The entries, rosters and conflicts that a recheck leaves (R86, R92). -/
theorem recheck_conflicts_iff (s : State) (k : StationId) (n : BranchId) :
    hasNumber (s.recheckConflicts k).conflicts n = true ↔ hasNumber s.conflicts n = true ∧ s.differsOn n := by
  rw [(recheckConflicts_spec s k n).2.2.2.2, Bool.and_eq_true, any_entryDiffers_iff]

/-- A roster the table rebuilt and nothing rewrote since (R86). -/
theorem roster_of_rebuilt {v t : State} (hgroups : t.groups = v.rebuildRosters.groups) (hpeers : t.peers = v.peers) {g : Nat} {x : GroupEntry} (hx : t.group? g = some x) (i : StationId) :
    hasNumber x.roster i = true ↔ i = v.station ∨ (t.peer i).state ≠ .absent ∧ g ∈ (t.peer i).groups := by
  have hmem := List.mem_of_find?_eq_some hx
  have hgroup : x.group = g := of_decide_eq_true (List.find?_some hx :)
  rw [hgroups] at hmem
  obtain ⟨y, -, hy⟩ := List.mem_map.1 hmem
  have hroster : x.roster = v.rosterOf g := by
    rw [← hgroup, ← hy]
  rw [hroster, hasNumber_rosterOf, State.peer, State.peer, hpeers]

/-- What a recheck leaves of the link and the records. -/
theorem recheckConflicts_rest (s : State) (k : StationId) : (s.recheckConflicts k).link = s.link ∧ (s.recheckConflicts k).records = s.records := by
  have hstep (t : State) (n : BranchId) (h : t.link = s.link ∧ t.records = s.records) :
      (t.clearConflict k n).link = s.link ∧ (t.clearConflict k n).records = s.records := by
    unfold State.clearConflict
    split
    · simpa using h
    · exact h
  exact foldl_keeps (P := fun t : State => t.link = s.link ∧ t.records = s.records) hstep allNumbers s ⟨rfl, rfl⟩

section
variable {s : State} {j : StationId} {former : EntryState}

theorem reportForgotten_other (h : j ≠ s.station) : s.reportForgotten j former = s.post .peerForgotten j.val (entryStateCode former) 0 := if_neg h

theorem reportForgotten_own (h : j = s.station) :
    s.reportForgotten j former = if s.link.state.onBus then s.offerJoin true else s := if_pos h

theorem reportForgotten_table (s : State) (j : StationId) (former : EntryState) : (s.reportForgotten j former).table = s.table := by
  by_cases h : j = s.station
  · rw [reportForgotten_own h]
    split <;> simp
  · rw [reportForgotten_other h, table_post]

theorem reportForgotten_records (s : State) (j : StationId) (former : EntryState) : (s.reportForgotten j former).records = s.records := by
  by_cases h : j = s.station
  · rw [reportForgotten_own h]
    split <;> simp
  · rw [reportForgotten_other h, post_records]

end

/-- The state once a FORGET has struck the entry and the rosters were rebuilt. -/
def State.struck (s : State) (j : StationId) : State := (s.modPeer j (fun _ => Peer.absent)).rebuildRosters

theorem struck_peer (s : State) (i j : StationId) : (s.struck j).peer i = if i = j then Peer.absent else s.peer i :=
  Tab.get_set ..

/-- The peer table after a FORGET, before it is reported. -/
def State.forgotten (s : State) (k j : StationId) : State := ((s.heard k).struck j).recheckConflicts j

section
variable (s : State) (k j : StationId)

theorem heard_rest :
    (s.heard k).station = s.station ∧ (s.heard k).link = s.link ∧ (s.heard k).records = s.records ∧ (s.heard k).banks = s.banks ∧
      (s.heard k).conflicts = s.conflicts := by
  rw [heard_frame s k]
  exact ⟨rfl, rfl, rfl, rfl, rfl⟩

theorem heard_peer (i : StationId) : (s.heard k).peer i = if i = k then (s.peer k).heardAt s.boardTime else s.peer i := by
  rw [heard_frame s k]
  exact Tab.get_set ..

theorem forgotten_rest :
    (s.forgotten k j).station = s.station ∧ (s.forgotten k j).link = s.link ∧ (s.forgotten k j).records = s.records := by
  obtain ⟨hstation, hlink, hrecords, -, -⟩ := heard_rest s k
  obtain ⟨hrlink, hrrecords⟩ := recheckConflicts_rest ((s.heard k).struck j) j
  exact ⟨(recheckConflicts_spec ((s.heard k).struck j) j 0).2.2.2.1.trans hstation, hrlink.trans hlink, hrrecords.trans hrecords⟩

theorem struck_roster (g : Nat) (i : StationId) :
    hasNumber (((s.heard k).modPeer j (fun _ => Peer.absent)).rosterOf g) i = true ↔
      i = s.station ∨ (((s.heard k).struck j).peer i).state ≠ .absent ∧ g ∈ (((s.heard k).struck j).peer i).groups := by
  rw [← (heard_rest s k).1]
  exact hasNumber_rosterOf _ g i

theorem applyForget_table : (s.applyForget k j).table = (s.forgotten k j).table := by
  have hforget : ((s.heard k).tableForget j).table = (s.forgotten k j).table := reportForgotten_table _ _ _
  unfold State.applyForget
  split
  · rw [table_endHolds, table_triggerRetries, hforget]
  · rw [table_foldl (fun t g => table_removeAwaited t g j), table_endHolds, table_triggerRetries, hforget]

/-- The entries, the rosters and the conflicts after a FORGET (R86, R92, R101). -/
theorem applyForget_entries :
    (∀ i, (s.applyForget k j).peer i = if i = j then Peer.absent else (s.heard k).peer i) ∧
      (∀ g x, (s.applyForget k j).group? g = some x → ∀ i, hasNumber x.roster i = true ↔
        i = s.station ∨ ((s.applyForget k j).peer i).state ≠ .absent ∧ g ∈ ((s.applyForget k j).peer i).groups) ∧
      ∀ n, hasNumber (s.applyForget k j).conflicts n = true ↔ hasNumber s.conflicts n = true ∧
        ∃ i x b, i ≠ s.station ∧ ((s.applyForget k j).peer i).state ≠ .absent ∧ ((s.applyForget k j).peer i).info = some x ∧
          x.map.get b = n ∧ x.limits.get b ≠ s.ownLimit n := by
  obtain ⟨hpeers, hconflicts, hgroups, hbanks, hstation⟩ := table_eq (applyForget_table s k j)
  obtain ⟨hrpeers, hrgroups, hrbanks, hrstation, -⟩ := recheckConflicts_spec ((s.heard k).struck j) j 0
  obtain ⟨hhstation, -, -, hhbanks, hhconflicts⟩ := heard_rest s k
  refine ⟨fun i => ?_, fun g x hx i => ?_, fun n => ?_⟩
  · rw [State.peer, hpeers, State.forgotten, hrpeers]
    exact struck_peer _ i j
  · rw [← hhstation]
    exact roster_of_rebuilt (v := (s.heard k).modPeer j (fun _ => Peer.absent)) (hgroups.trans hrgroups) (hpeers.trans hrpeers) hx i
  · have hdiffers := differsOn_of_same (hpeers.trans hrpeers) (hbanks.trans hrbanks) (hstation.trans hrstation) n
    have hconflict := recheck_conflicts_iff ((s.heard k).struck j) j n
    rw [hconflicts, State.forgotten, hconflict, ← hdiffers, State.differsOn, hstation, (forgotten_rest s k j).1,
      ownLimit_of_banks (hbanks.trans (hrbanks.trans hhbanks))]
    exact and_congr_left fun _ => by rw [show ((s.heard k).struck j).conflicts = s.conflicts from hhconflicts]

theorem endHolds_records : (s.endHolds k).records = s.records := rfl

/-- What follows the table's steps: the retries, the end of a hold (R109, R132). -/
def State.forgottenEverywhere (s : State) (k j : StationId) : State :=
  let v := (s.forgotten k j).reportForgotten j ((s.heard k).peer j).state
  (v.triggerRetries (loweredOrCleared s v)).endHolds j

variable {s k j}

theorem applyForget_own (h : j = s.station) : s.applyForget k j = s.forgottenEverywhere k j := if_pos h

theorem applyForget_other (h : j ≠ s.station) :
    s.applyForget k j = (s.records.map (·.group)).foldl (fun x g => x.removeAwaited g j) (s.forgottenEverywhere k j) := by
  have hrecords : (s.forgottenEverywhere k j).records = s.records := by
    rw [State.forgottenEverywhere]
    simp only [endHolds_records, triggerRetries_records, reportForgotten_records]
    exact (forgotten_rest s k j).2.2
  rw [← hrecords]
  exact if_neg h

end

/-! ## Liveness (R98) -/

theorem timesPeers_iff (st : LinkState) : st.timesPeers = true ↔ st ≠ .silent := by cases st <;> decide

theorem livenessDue_of_live {s : State} {k : StationId} {t : BoardTime} (hlink : s.link.state ≠ .silent) (hk : k ≠ s.station)
    (hlive : (s.peer k).state = .live) (hheard : (s.peer k).lastHeard = some t) :
    s.livenessDue k = some (1500 - (s.boardTime - t).toNat) := by
  rw [State.livenessDue, if_pos (by simp [(timesPeers_iff _).2 hlink, hk, hlive]), hheard]
  rfl

theorem livenessDue_of_other {s : State} {k : StationId} (h : s.link.state = .silent ∨ k = s.station ∨ (s.peer k).state ≠ .live) :
    s.livenessDue k = none := by
  refine if_neg ?_
  rw [Bool.and_eq_true, Bool.and_eq_true, timesPeers_iff, decide_eq_true_eq, decide_eq_true_eq]
  rintro ⟨⟨hlink, hk⟩, hlive⟩
  rcases h with h | h | h
  · exact hlink h
  · exact hk h
  · exact h hlive

theorem recordGroups_passTime (s : State) (d : Nat) : (s.passTime d).recordGroups = s.recordGroups := by
  unfold State.passTime State.recordGroups
  split
  · rfl
  · rw [List.map_map]
    rfl

theorem losePeer_eq (s : State) (k : StationId) (records : List Nat) (h : s.recordGroups = records) :
    s.losePeer k = records.foldl (State.groupLost k)
      ((State.post { s with peers := s.peers.set k { s.peer k with state := .lost } } .peerLost k.val 0 (s.liveFor k)).endHolds k) := by
  have hrecords : ((State.post { s with peers := s.peers.set k { s.peer k with state := .lost } } .peerLost k.val 0 (s.liveFor k)).endHolds k).recordGroups =
      records := by
    rw [← h]
    exact congrArg (List.map CycleRecord.group) (post_records ..)
  rw [← hrecords]
  rfl

/-- Settles O55: hearing, STATUS, FORGET, the retry triggers, the loss of a peer. -/
theorem entriesAreHeardReportedLostAndForgotten : Obligations.EntriesAreHeardReportedLostAndForgotten := by
  unfold Obligations.EntriesAreHeardReportedLostAndForgotten
  intro s k e he
  subst he
  refine ⟨⟨fun habsent hbus => ?joins, fun habsent hjoining hactive => ?silent,
      fun hlive => (heardFrom_known (by rw [hlive]; decide)).trans (heard_live hlive), fun i hlost hinfo => ?returns⟩,
    fun p t ht => ?status, fun j t ht => ?forget, fun after n => loweredOrCleared_iff s after n, triggerRetries_spec s,
    fun t d a hr hlink hk hlive hheard hd ha => ?lost, fun hr h => ?quiet⟩
  case joins => rw [heardFrom_unknown habsent, if_pos ((onBus_iff _).2 hbus)]
  case silent => rw [heardFrom_unknown habsent, if_neg (fun h => ((onBus_iff _).1 h).elim hjoining hactive)]
  case returns =>
    have hserial : (s.peer k).serialLow = i.serial.toNat % 2 ^ 32 := by
      rw [Peer.serialLow, hinfo]
      rfl
    rw [heardFrom_known (by rw [hlost]; decide), heard_lost hlost, hserial]
  case status =>
    rw [ht]
    exact ⟨applyStatus_absent p, applyStatus_known p, fun j hj => by rw [applyStatus_peer, if_neg hj],
      (s.heardFrom k).modPeer k (Peer.reported p), s.statusTaken k p, rfl, statusTaken_other p,
      fun hk => by rw [statusTaken_own p hk]; exact endClaims_spec _ p, applyStatus_eq s k p⟩
  case forget =>
    obtain ⟨hstation, hlink, hrecords⟩ := forgotten_rest s k j
    obtain ⟨hpeer, hroster, hconflict⟩ := applyForget_entries s k j
    subst ht
    refine ⟨by rw [hpeer, if_pos rfl], fun i hij hik => by rw [hpeer, if_neg hij, heard_peer, if_neg hik], hroster, hconflict,
      s.heard k, (s.heard k).struck j, s.forgotten k j, (s.forgotten k j).reportForgotten j ((s.heard k).peer j).state, _,
      ((s.heard k).modPeer j (fun _ => Peer.absent)).rosterOf, heard_absent, fun h => (heardFrom_known h).symm, rfl,
      fun i => struck_peer _ i j, rfl, struck_roster s k j, rfl, fun hj => reportForgotten_other (by rw [hstation]; exact hj), fun hj hbus => ?_,
      fun hj hjoining hactive => ?_, rfl, fun hj => applyForget_own hj, fun hj => applyForget_other hj⟩
    · rw [reportForgotten_own (by rw [hstation]; exact hj), hlink, if_pos ((onBus_iff _).2 hbus)]
    · rw [reportForgotten_own (by rw [hstation]; exact hj), hlink, if_neg (fun h => ((onBus_iff _).1 h).elim hjoining hactive)]
  case lost =>
    have hpeer : a.peer k = s.peer k := by rw [ha, State.peer, (passTime_rest hr d).2.2.2.2]; rfl
    have hfor : a.liveFor k = match (s.peer k).becameLive with | some l => (a.boardTime - l).toNat | none => 0 := by
      rw [State.liveFor, hpeer]
      cases (s.peer k).becameLive <;> rfl
    have hexpires := unlessReset_expire_some (s := s) (·.livenessDue k) (fun s => (s.losePeer k).issueClaims) hr
      (livenessDue_of_live hlink hk hlive hheard)
    rw [← hd, ← ha, losePeer_eq a k s.recordGroups (by rw [ha, recordGroups_passTime]), hpeer, hfor] at hexpires
    exact hexpires
  case quiet => exact unlessReset_expire_none (s := s) (·.livenessDue k) _ hr (livenessDue_of_other h)

end Sys2Proof.Machine
end

section
/-! PROOFS. A JOIN that adds a station to the roster of a gathering cycle (R155): the model does not abort the cycle. -/

namespace Sys2Proof.Machine
open Sys2Proof

/-- A cycle of group 9 in OFF-PHASE, waiting for the station itself. -/
def gatheringRecord : CycleRecord :=
  { group := 9, tag := ⟨0, 1⟩, dwell := 10, policy := .strict, phase := .offPhase, awaited := 1, early := 0, gOpened := 0, gHeld := 0,
    gRestored := 0, gFailed := 0, offTimer := some 1000, dwellTimer := none, onTimer := none, abortOffered := false, offOffered := true,
    onOffered := false, members := [], outcome := none }

/-- A board in ACTIVE with that cycle; station 0, its own number, is the roster of group 9. -/
def gatheringBoard : State :=
  { State.reset with
    phase := .running, link := { Link.reset with state := .active }, groups := [⟨9, 10, .strict, none, 1⟩], records := [gatheringRecord] }

/-- A JOIN of a station with a member in group 9. -/
def newcomerJoin : JoinPayload :=
  { serial := 77, map := .fill 0, limits := .fill 100, helds := .fill 0, replyRequested := false, groups := [9] }

/-- The board once station 1 has joined, before the group engine hears of it. -/
def newcomerBoard : State := State.budgetJoin gatheringBoard 1 (gatheringBoard.tableJoin 1 newcomerJoin)

theorem newcomer_joins_roster :
    hasNumber (newcomerBoard.roster 9) 1 = true ∧ hasNumber (gatheringBoard.roster 9) 1 = false ∧ newcomerBoard.record? 9 = some gatheringRecord := by
  decide +kernel

/-- The group engine compares the rosters the wrong way round, and offers nothing. -/
theorem groupJoin_offers_no_abort :
    (State.groupJoin gatheringBoard 1 newcomerJoin newcomerBoard 9).records.map (·.abortOffered) = [false] := by
  decide +kernel

theorem offerAbort_would_be_marked : (newcomerBoard.offerAbort 9 .rejoined).records.map (·.abortOffered) = [true] := by
  decide +kernel

/-- Refutes O54: a roster that gains a station must abort a cycle in OFF-PHASE (R155), but `State.groupJoin` hands `State.joinAborts` the present state as the one
before the JOIN and the earlier one as the one after it, so the cycle goes on; a station leaving a roster aborts it instead. -/
theorem not_joinsWriteTheirEntryAndReachTheBlocks : ¬ Obligations.JoinsWriteTheirEntryAndReachTheBlocks := by
  unfold Obligations.JoinsWriteTheirEntryAndReachTheBlocks
  intro h
  obtain ⟨hgains, hwas, hrecord⟩ := newcomer_joins_roster
  obtain ⟨-, -, -, -, -, -, hcycles⟩ := h 1 newcomerJoin gatheringBoard _ _ rfl rfl
  obtain ⟨-, hjoins⟩ := hcycles newcomerBoard 9 _ _ rfl rfl
  obtain ⟨x, haborts, -, -, hstays⟩ := hjoins gatheringRecord hrecord
  have hoffered : State.groupJoin gatheringBoard 1 newcomerJoin newcomerBoard 9 = newcomerBoard.offerAbort 9 .rejoined := by
    rw [hstays (fun hleaves => by rw [hwas] at hleaves; exact Bool.false_ne_true hleaves.1)]
    exact haborts (Or.inl rfl) (Or.inl ⟨1, hgains, hwas⟩)
  have hmarks := groupJoin_offers_no_abort
  rw [hoffered, offerAbort_would_be_marked] at hmarks
  cases hmarks

end Sys2Proof.Machine
end

section
/-! PROOFS. OPEN-GROUP: ignored, merged, or a record created and its members opened (R138, R140 to R142). -/

namespace Sys2Proof.Machine
open Sys2Proof

/-! ## Sets of stations -/

theorem numberSet_eq_zero_iff (set : NumberSet) : set = 0 ↔ ∀ j : Fin 16, hasNumber set j = false := by
  constructor
  · rintro rfl j
    simp [hasNumber]
  · intro h
    refine BitVec.eq_of_getLsbD_eq fun i hi => ?_
    rw [show set.getLsbD i = false from h ⟨i, hi⟩]
    simp

/-- A roster station is LOST (R141). -/
theorem rosterHasLost_iff (s : State) (g : Nat) :
    s.rosterHasLost g = true ↔ ∃ j, hasNumber (s.roster g) j = true ∧ (s.peer j).state = .lost := by
  rw [State.rosterHasLost, decide_eq_true_eq, ne_eq, numberSet_eq_zero_iff, Classical.not_forall]
  refine exists_congr fun j => ?_
  rw [Bool.not_eq_false, hasNumber_lostOf]

/-! ## The members (R142) -/

section
variable (s : State) (o : OutletId)

theorem withdrawClaim_withOutlet (b : Bank) (x : Outlet) (m : Meter) :
    (s.withOutlet o x m).withdrawClaim b = (s.withdrawClaim b).withOutlet o x m := by
  show (if (s.claim b).state = .sent then _ else _) = State.withOutlet (if (s.claim b).state = .sent then _ else _) o x m
  split
  · show (if s.sendingClaim b = true then _ else _) = State.withOutlet (if s.sendingClaim b = true then _ else _) o x m
    split <;> rfl
  · rfl

theorem leaveClaiming_withOutlet (x : Outlet) (m : Meter) : (s.withOutlet o x m).leaveClaiming o = (s.leaveClaiming o).withOutlet o x m := by
  have hclaim : (s.withOutlet o x m).claim (bankOf o) = s.claim (bankOf o) := rfl
  unfold State.leaveClaiming
  rw [hclaim, withdrawClaim_withOutlet]
  split <;> rfl

theorem joinCycle_eq : s.joinCycle o = s.withOutlet o { s.outlet o with cycle := .group, target := .none } (s.meter o) := modOutlet_eq s o _

variable {s o}

theorem openMember_held (h : (s.outlet o).isProtected = true) : s.openMember o = s := if_pos h

theorem openMember_on (hfree : (s.outlet o).isProtected = false) (h : (s.outlet o).state = .on) :
    s.openMember o =
      (s.withOutlet o { s.outlet o with cycle := .group, target := .none, restoreIntent := true } (s.meter o)).enterOpening o := by
  rw [State.openMember, if_neg (by rw [hfree]; decide), h]
  simp only [joinCycle_eq, setRestore_eq, withOutlet_outlet_self, withOutlet_meter_self, withOutlet_withOutlet]

theorem openMember_claiming (hfree : (s.outlet o).isProtected = false) (h : (s.outlet o).state = .claiming) :
    s.openMember o =
      (s.leaveClaiming o).withOutlet o { (s.outlet o).idle .dwell with cycle := .group, target := .none, restoreIntent := true }
        { s.meter o with overCount := 0 } := by
  rw [State.openMember, if_neg (by rw [hfree]; decide), h]
  simp only [joinCycle_eq, leaveClaiming_withOutlet]
  rw [place_rest _ _ rfl]
  simp only [setRestore_eq, withOutlet_outlet_self, withOutlet_meter_self, withOutlet_withOutlet]
  rfl

theorem openMember_closing (hfree : (s.outlet o).isProtected = false) (h : (s.outlet o).state = .closing) :
    s.openMember o =
      if (s.outlet o).pendingOff = true then s.withOutlet o { s.outlet o with cycle := .group, target := .none } (s.meter o)
      else s.withOutlet o { s.outlet o with cycle := .group, target := .none, restoreIntent := true, pendingOff := true } (s.meter o) := by
  rw [State.openMember, if_neg (by rw [hfree]; decide), h]
  simp only [joinCycle_eq, setRestore_eq, setPendingOff_eq, withOutlet_outlet_self, withOutlet_meter_self, withOutlet_withOutlet]

theorem openMember_dwell (hfree : (s.outlet o).isProtected = false) (h : (s.outlet o).state = .dwell) :
    s.openMember o = s.withOutlet o { s.outlet o with cycle := .group, target := .none, stateTimer := none } (s.meter o) := by
  rw [State.openMember, if_neg (by rw [hfree]; decide), h]
  simp only [joinCycle_eq, modOutlet_eq, withOutlet_outlet_self, withOutlet_meter_self, withOutlet_withOutlet]

theorem openMember_joins (hfree : (s.outlet o).isProtected = false)
    (h : (s.outlet o).state = .closing ∧ (s.outlet o).pendingOff = true ∨ (s.outlet o).state = .opening ∨ (s.outlet o).state = .off ∨
      (s.outlet o).state = .tripped ∨ (s.outlet o).state = .shed) :
    s.openMember o = s.withOutlet o { s.outlet o with cycle := .group, target := .none } (s.meter o) := by
  rcases h with ⟨hstate, hpending⟩ | hother
  · rw [openMember_closing hfree hstate, if_pos hpending]
  · rcases hother with h | h | h | h <;>
      rw [State.openMember, if_neg (by rw [hfree]; decide), h, ← joinCycle_eq]

end

@[simp] theorem table_openMember (s : State) (o : OutletId) : (s.openMember o).table = s.table := by
  unfold State.openMember
  split
  · rfl
  · split
    case h_3 => split <;> rfl
    all_goals simp [State.joinCycle, State.setRestore]

/-! ## OPEN-GROUP (R140, R141) -/

section
variable {u : State} {k : StationId} {p : OpenGroupPayload}

theorem clearPending_own (h : k = u.station) :
    u.clearPending k p =
      { u with groups := u.groups.map (fun e => if e.group = p.group ∧ e.pendingTag = some p.tag then { e with pendingTag := none } else e) } := by
  rw [State.clearPending, if_pos h, State.modGroup]
  congr 1
  refine List.map_congr_left fun e _ => ?_
  by_cases hgroup : e.group = p.group
  · simp only [hgroup, if_true, true_and]
  · simp only [hgroup, if_false, false_and]

theorem clearPending_other (h : k ≠ u.station) : u.clearPending k p = u := if_neg h

theorem heardFrom_station (s : State) (k : StationId) : (s.heardFrom k).station = s.station := by
  by_cases h : (s.peer k).state = .absent
  · rw [heardFrom_unknown h]
    split <;> simp
  · rw [heardFrom_known h]
    exact (heard_rest s k).1

/-- The record an OPEN-GROUP creates, spelled out (R141). -/
theorem newRecord_eq (u : State) (p : OpenGroupPayload) :
    u.newRecord p =
      { group := p.group, tag := p.tag, dwell := p.dwell, policy := p.policy, phase := .offPhase, awaited := u.roster p.group, early := 0
        gOpened := 0, gHeld := 0, gRestored := 0, gFailed := 0, offTimer := some (u.cfg.offGather * 1000), dwellTimer := none, onTimer := none
        abortOffered := false, offOffered := false, onOffered := false, outcome := none
        members := (allOutlets.filter (fun o => (u.outlet o).cfg.group == p.group)).map
          (fun o => ⟨o, (u.outlet o).statusAtOpen, (u.outlet o).statusAtOpen == .opened⟩) } := rfl

/-- What follows a new record: the members are opened, the GROUP-OFF and the request reported (R141 to R143). -/
def State.openedAs (u : State) (k : StationId) (p : OpenGroupPayload) (v : State) : State :=
  (((u.members p.group).foldl State.openMember v).maybeGroupOff p.group).reportRequested k p

/-- The state with the new record (R141). -/
def State.withRecord (u : State) (r : CycleRecord) : State := { u with records := insertRecord r u.records }

variable {r : CycleRecord}

theorem withRecord_rosterHasLost (hgroup : r.group = p.group) : (u.withRecord r).rosterHasLost r.group = u.rosterHasLost p.group := by
  rw [hgroup]
  rfl

theorem abortAtOpen_none (h : (u.withRecord r).rosterHasLost r.group ≠ true) : (u.withRecord r).abortAtOpen r = (u.withRecord r, false) :=
  if_neg h

theorem abortAtOpen_taken {v : State} (h : (u.withRecord r).rosterHasLost r.group = true)
    (hv : (u.withRecord r).queueAbort r .rosterLost = some v) : (u.withRecord r).abortAtOpen r = (v, false) := by
  rw [State.abortAtOpen, if_pos h, hv]

theorem abortAtOpen_refused (h : (u.withRecord r).rosterHasLost r.group = true)
    (hv : (u.withRecord r).queueAbort r .rosterLost = none) :
    (u.withRecord r).abortAtOpen r = ((u.withRecord r).abortNotQueued r, true) := by
  rw [State.abortAtOpen, if_pos h, hv]

theorem openCycle_of {v : State} {acts : Bool} (hr : r = u.newRecord p) (hv : (u.withRecord r).abortAtOpen r = (v, acts)) :
    u.openCycle k p = if acts then (u.openedAs k p v).actAbort p.group .rosterLost else u.openedAs k p v := by
  subst hr
  rw [State.withRecord] at hv
  rw [State.openCycle]
  simp only [hv]
  rfl

/-- The report of the request depends on the station alone. -/
theorem openedAs_eq {v : State} {n : StationId} (hv : v.station = n) :
    u.openedAs k p v =
      if k = n then ((u.members p.group).foldl State.openMember v).maybeGroupOff p.group
      else (((u.members p.group).foldl State.openMember v).maybeGroupOff p.group).post .groupRequested p.group k.val p.dwell := by
  have hstation : (((u.members p.group).foldl State.openMember v).maybeGroupOff p.group).station = n := by
    have htable : (((u.members p.group).foldl State.openMember v).maybeGroupOff p.group).table = v.table := by
      rw [table_maybeGroupOff, table_foldl (fun t o => table_openMember t o)]
    exact (table_eq htable).2.2.2.2.trans hv
  rw [State.openedAs, State.reportRequested, hstation]

theorem queueAbort_station {s t : State} {a : AbortReason} (h : s.queueAbort r a = some t) : t.station = s.station :=
  (table_eq (table_queueAbort h)).2.2.2.2

theorem applyOpenGroup_ignored {s : State} (hu : (s.heardFrom k).clearPending k p = u) (h : u.group? p.group = none ∨ u.link.state = .linkDown) :
    s.applyOpenGroup k p = u := by
  unfold State.applyOpenGroup
  simp only [hu]
  split
  · rfl
  · next e he =>
    rcases h with h | h
    · rw [h] at he
      cases he
    · exact if_pos h

theorem applyOpenGroup_merged {s : State} (hu : (s.heardFrom k).clearPending k p = u) (hgroup : (u.group? p.group).isSome = true)
    (hlink : u.link.state ≠ .linkDown) (hcycle : u.cycle? p.group = some r) : s.applyOpenGroup k p = u.reportMerged k p.group r := by
  unfold State.applyOpenGroup
  simp only [hu]
  split
  · next hnone =>
    rw [hnone] at hgroup
    cases hgroup
  · rw [if_neg hlink, hcycle]

theorem applyOpenGroup_opens {s : State} (hu : (s.heardFrom k).clearPending k p = u) (hgroup : (u.group? p.group).isSome = true)
    (hlink : u.link.state ≠ .linkDown) (hcycle : u.cycle? p.group = none) : s.applyOpenGroup k p = u.openCycle k p := by
  unfold State.applyOpenGroup
  simp only [hu]
  split
  · next hnone =>
    rw [hnone] at hgroup
    cases hgroup
  · rw [if_neg hlink, hcycle]

end

/-- Settles O57: an OPEN-GROUP by what it meets, and a member by its state. -/
theorem openGroupOpensTheMembers : Obligations.OpenGroupOpensTheMembers := by
  unfold Obligations.OpenGroupOpensTheMembers
  intro s u k p r o x hx hown hother hr
  subst hx
  have hu : (s.heardFrom k).clearPending k p = u := by
    by_cases hk : k = s.station
    · rw [hown hk]
      exact clearPending_own (by rw [heardFrom_station]; exact hk)
    · rw [hother hk]
      exact clearPending_other (by rw [heardFrom_station]; exact hk)
  have hstation : u.station = s.station := by
    rw [← hu, ← heardFrom_station s k, State.clearPending]
    split <;> rfl
  have hrecord : r = u.newRecord p := hr.trans (newRecord_eq u p).symm
  have hgroup : r.group = p.group := by rw [hrecord]; rfl
  refine ⟨applyOpenGroup_ignored hu, fun hknown hlink => ⟨fun c hcycle => ⟨fun hk => ?merged, fun hk => ?silent⟩, fun hcycle q hq =>
    ⟨fun hlive => ?opens, fun v j hj hlost hv => ?aborts, fun j hj hlost hv => ?abortsAlone⟩⟩, ?status, openMember_held,
    fun hfree y hy => ?member⟩
  case merged =>
    rw [applyOpenGroup_merged hu hknown hlink hcycle]
    exact if_pos (hk.trans hstation.symm)
  case silent =>
    rw [applyOpenGroup_merged hu hknown hlink hcycle]
    exact if_neg (by rw [hstation]; exact hk)
  case status =>
    unfold Outlet.statusAtOpen
    cases (u.outlet o).isProtected <;> cases (u.outlet o).state <;> rfl
  case member =>
    subst hy
    exact ⟨openMember_on hfree, openMember_claiming hfree,
      fun h hpending => by rw [openMember_closing hfree h, if_neg (by rw [hpending]; decide)], openMember_dwell hfree, openMember_joins hfree⟩
  all_goals
    rw [applyOpenGroup_opens hu hknown hlink hcycle, hq]
  case opens =>
    have hnone : (u.withRecord r).rosterHasLost r.group ≠ true := by
      rw [withRecord_rosterHasLost hgroup, ne_eq, rosterHasLost_iff]
      rintro ⟨j, hj, hlost⟩
      exact hlive j hj hlost
    rw [openCycle_of hrecord (abortAtOpen_none hnone), if_neg Bool.false_ne_true, openedAs_eq (v := u.withRecord r) hstation]
    rfl
  case aborts =>
    have hsome : (u.withRecord r).rosterHasLost r.group = true := by
      rw [withRecord_rosterHasLost hgroup]
      exact (rosterHasLost_iff ..).2 ⟨j, hj, hlost⟩
    rw [openCycle_of hrecord (abortAtOpen_taken hsome hv), if_neg Bool.false_ne_true, openedAs_eq ((queueAbort_station hv).trans hstation)]
  case abortsAlone =>
    have hsome : (u.withRecord r).rosterHasLost r.group = true := by
      rw [withRecord_rosterHasLost hgroup]
      exact (rosterHasLost_iff ..).2 ⟨j, hj, hlost⟩
    have hkept : ((u.withRecord r).abortNotQueued r).station = u.station := by
      rw [State.abortNotQueued, modRecord_station, removeFrames_station]
      rfl
    rw [openCycle_of hrecord (abortAtOpen_refused hsome hv), if_pos rfl, openedAs_eq (hkept.trans hstation)]
    rfl

end Sys2Proof.Machine
end

section
/-! PROOFS. What a member's openings, closings and waits do to its status (R143, R144, R149, R154). -/

namespace Sys2Proof.Machine
open Sys2Proof

section
variable {s : State} {o : OutletId} {r : CycleRecord} {m : Member}

theorem memberOf_of_no_cycle (h : s.cycle? (s.outlet o).cfg.group = none) : s.memberOf o = none := by
  rw [State.memberOf, h]

theorem memberOf_of_stranger (h : s.cycle? (s.outlet o).cfg.group = some r) (ho : ∀ m ∈ r.members, m.outlet ≠ o) : s.memberOf o = none := by
  have hfind : r.members.find? (fun m => decide (m.outlet = o)) = none := by
    rw [List.find?_eq_none]
    exact fun m hm => by simpa using ho m hm
  unfold State.memberOf
  simp only [h, hfind]

theorem memberOf_of_member (h : s.cycle? (s.outlet o).cfg.group = some r) (hm : r.members.find? (fun m => decide (m.outlet = o)) = some m) :
    s.memberOf o = some (r, m) := by
  unfold State.memberOf
  simp only [h, hm]

/-- The status of a member in a record, spelled out (R138). -/
theorem setStatus_eq (s : State) (g : Nat) (o : OutletId) (st : MemberStatus) :
    s.setStatus g o st = s.recordsWith g (fun r => { r with
      members := r.members.map (fun m => if m.outlet = o then { m with status := st, wasOpened := m.wasOpened || st == .opened } else m) }) := rfl

theorem note_of_no_member (h : s.memberOf o = none) :
    s.noteOpened o = s ∧ s.noteRestored o = s ∧ s.noteFailed o = s ∧ s.noteClaiming o = s := by
  unfold State.noteOpened State.noteRestored State.noteFailed State.noteClaiming
  rw [h]
  exact ⟨rfl, rfl, rfl, rfl⟩

variable (h : s.memberOf o = some (r, m))
include h

theorem noteOpened_of_status (hstatus : m.status ≠ .opening) : s.noteOpened o = s := by
  unfold State.noteOpened
  simp only [h]
  exact if_neg hstatus

theorem noteOpened_off (hstatus : m.status = .opening) (hstate : (s.outlet o).state ≠ .dwell) :
    s.noteOpened o = ((s.setStatus r.group o .off).maybeGroupOff r.group).checkAbortDone r.group := by
  unfold State.noteOpened
  simp only [h]
  rw [if_pos hstatus, if_neg hstate]

theorem noteOpened_gathering (hstatus : m.status = .opening) (hstate : (s.outlet o).state = .dwell) (hphase : r.phase = .offPhase) :
    s.noteOpened o = (s.setStatus r.group o .opened).maybeGroupOff r.group := by
  unfold State.noteOpened
  simp only [h]
  rw [if_pos hstatus, if_pos hstate, hphase]

theorem noteOpened_restoring (hstatus : m.status = .opening) (hstate : (s.outlet o).state = .dwell) (hphase : r.phase = .restoringAbort) :
    s.noteOpened o = ((s.setStatus r.group o .opened).restoreByAbort o).checkAbortDone r.group := by
  unfold State.noteOpened
  simp only [h]
  rw [if_pos hstatus, if_pos hstate, hphase]

theorem note_of_restoring (hstatus : m.status = .restoring) :
    s.noteRestored o = (s.setStatus r.group o .restored).maybeGroupOn r.group ∧
      s.noteFailed o = (s.setStatus r.group o .failed).maybeGroupOn r.group := by
  unfold State.noteRestored State.noteFailed
  simp only [h]
  exact ⟨if_pos hstatus, if_pos hstatus⟩

theorem note_of_not_restoring (hstatus : m.status ≠ .restoring) : s.noteRestored o = s ∧ s.noteFailed o = s := by
  unfold State.noteRestored State.noteFailed
  simp only [h]
  exact ⟨if_neg hstatus, if_neg hstatus⟩

theorem noteClaiming_of_status (hstatus : m.status ≠ .off) : s.noteClaiming o = s := by
  unfold State.noteClaiming
  simp only [h]
  exact if_neg hstatus

theorem noteClaiming_withdraws (hstatus : m.status = .off) (hphase : r.phase = .offPhase ∨ r.phase = .dwell) :
    s.noteClaiming o = s.withdrawMember r.group o := by
  unfold State.noteClaiming
  simp only [h]
  rcases hphase with hphase | hphase <;> rw [if_pos hstatus, hphase]

theorem noteClaiming_restores (hstatus : m.status = .off) (hphase : r.phase = .onPhase) :
    s.noteClaiming o = s.setStatus r.group o .restoring := by
  unfold State.noteClaiming
  simp only [h]
  rw [if_pos hstatus, hphase]

theorem noteClaiming_aborted (hstatus : m.status = .off) (hphase : r.phase = .restoringAbort) :
    s.noteClaiming o = s.withOutlet o { s.outlet o with cycle := .none } (s.meter o) := by
  unfold State.noteClaiming
  simp only [h]
  rw [if_pos hstatus, hphase, ← setCycle_eq]

end

/-- Settles O58, by the member's status and its record's phase. -/
theorem membersReportToTheirCycle : Obligations.MembersReportToTheirCycle := by
  unfold Obligations.MembersReportToTheirCycle
  intro s o g set hg hset
  have hstatus (st : MemberStatus) : set st = s.setStatus g o st := (hset st).trans (setStatus_eq s g o st).symm
  subst hg
  refine ⟨fun hnone => note_of_no_member ?_, fun r m before after hcycle hmembers hm hbefore => ?_⟩
  · rcases hnone with hnone | ⟨r, hcycle, hstranger⟩
    · exact memberOf_of_no_cycle hnone
    · exact memberOf_of_stranger hcycle hstranger
  have h : s.memberOf o = some (r, m) := memberOf_of_member hcycle (find_member hmembers hm hbefore)
  simp only [hstatus, ← cycle_group hcycle]
  exact ⟨noteOpened_of_status h, noteOpened_off h, noteOpened_gathering h, noteOpened_restoring h, note_of_restoring h, note_of_not_restoring h,
    noteClaiming_of_status h, noteClaiming_withdraws h, noteClaiming_restores h, noteClaiming_aborted h⟩

end Sys2Proof.Machine
end

section
/-! PROOFS. The records of cycles: what awaits, what is offered, aborts, the end (R143, R145, R149, R150, R152 to R157). -/

namespace Sys2Proof.Machine
open Sys2Proof

/-! ## One record rewritten -/

section
variable {s : State} {g : Nat} {r : CycleRecord} {f : CycleRecord → CycleRecord}

theorem record_recordsWith (hf : ∀ r, (f r).group = r.group) : (s.recordsWith g f).record? g = (s.record? g).map f := by
  unfold State.record? State.recordsWith
  induction s.records with
  | nil => rfl
  | cons x l ih =>
    by_cases hx : x.group = g
    · simp [hx, hf]
    · simpa [hx, hf, List.find?_cons] using ih

theorem record_of_cycle (h : s.cycle? g = some r) : s.record? g = some r ∧ r.phase ≠ .done := by
  unfold State.cycle? at h
  cases hrecord : s.record? g with
  | none =>
    rw [hrecord] at h
    cases h
  | some r' =>
    rw [hrecord] at h
    dsimp only at h
    by_cases hprogress : r'.inProgress = true
    · rw [if_pos hprogress] at h
      cases h
      exact ⟨rfl, of_decide_eq_true hprogress⟩
    · rw [if_neg hprogress] at h
      cases h

theorem cycle_of_record (h : s.record? g = some r) (hphase : r.phase ≠ .done) : s.cycle? g = some r := by
  unfold State.cycle?
  rw [h]
  exact if_pos (decide_eq_true hphase)

theorem cycle_recordsWith (h : s.cycle? g = some r) (hf : ∀ r, (f r).group = r.group) (hphase : (f r).phase ≠ .done) :
    (s.recordsWith g f).cycle? g = some (f r) :=
  cycle_of_record (by rw [record_recordsWith hf, (record_of_cycle h).1]; rfl) hphase

end

/-! ## The awaited set (R145, R150, R155) -/

section
variable {s : State} {g : Nat} {r : CycleRecord} {k : StationId}

theorem removeNumber_eq_zero_iff (set : NumberSet) (k : Fin 16) : removeNumber set k = 0 ↔ ∀ j, hasNumber set j = true → j = k := by
  rw [numberSet_eq_zero_iff]
  refine forall_congr' fun j => ?_
  rw [hasNumber_removeNumber]
  cases hasNumber set j <;> simp

/-- Station `k` struck from the awaited set (R145). -/
def CycleRecord.withoutAwaited (k : StationId) (r : CycleRecord) : CycleRecord := { r with awaited := removeNumber r.awaited k }

theorem removeAwaited_absent (h : s.record? g = some r) (hk : hasNumber r.awaited k = false) : s.removeAwaited g k = s := by
  unfold State.removeAwaited
  simp only [h]
  exact if_neg (by rw [hk]; decide)

theorem removeAwaited_more (h : s.record? g = some r) (hk : hasNumber r.awaited k = true) (hmore : ∃ j, j ≠ k ∧ hasNumber r.awaited j = true) :
    s.removeAwaited g k = s.recordsWith g (CycleRecord.withoutAwaited k) := by
  unfold State.removeAwaited
  simp only [h]
  rw [if_pos hk, if_neg]
  · rfl
  · rw [removeNumber_eq_zero_iff]
    obtain ⟨j, hj, hawaited⟩ := hmore
    exact fun hall => hj (hall j hawaited)

theorem removeAwaited_last (h : s.record? g = some r) (hk : hasNumber r.awaited k = true) (hlast : ∀ j, hasNumber r.awaited j = true → j = k) :
    (r.phase = .offPhase → s.removeAwaited g k = (s.recordsWith g (CycleRecord.withoutAwaited k)).startDwell g) ∧
      (r.phase = .onPhase → s.removeAwaited g k = (s.recordsWith g (CycleRecord.withoutAwaited k)).finishCycle g .complete) ∧
      (r.phase ≠ .offPhase → r.phase ≠ .onPhase → s.removeAwaited g k = s.recordsWith g (CycleRecord.withoutAwaited k)) := by
  unfold State.removeAwaited
  simp only [h]
  rw [if_pos hk, if_pos ((removeNumber_eq_zero_iff _ _).2 hlast)]
  cases r.phase with
  | offPhase => exact ⟨fun _ => rfl, nofun, fun hno => absurd rfl hno⟩
  | onPhase => exact ⟨nofun, fun _ => rfl, fun _ hno => absurd rfl hno⟩
  | dwell | restoringAbort | done => exact ⟨nofun, nofun, fun _ _ => rfl⟩

end

/-! ## The end of a cycle, and aborts (R153, R154, R156, R157) -/

section
variable {s : State} {g : Nat} {r : CycleRecord} (h : s.cycle? g = some r)
include h

theorem finishCycle_eq (out : CycleOutcome) :
    s.finishCycle g out =
      State.post (r.members.foldl
          (fun t m =>
            t.withOutlet m.outlet
              { t.outlet m.outlet with
                cycle := if (t.outlet m.outlet).cycle = .group then .none else (t.outlet m.outlet).cycle, restoreIntent := false }
              (t.meter m.outlet))
          (s.recordsWith g (fun r => { r with phase := .done, offTimer := none, dwellTimer := none, onTimer := none, outcome := some out })))
        .groupDone g (outcomeCode out) (r.gOpened * 2 ^ 24 + r.gHeld * 2 ^ 16 + r.gRestored * 2 ^ 8 + r.gFailed) := by
  have hrelease : (fun (t : State) (m : Member) => t.modOutlet m.outlet Outlet.releaseMember) = fun (t : State) (m : Member) =>
      t.withOutlet m.outlet
        { t.outlet m.outlet with
          cycle := if (t.outlet m.outlet).cycle = .group then .none else (t.outlet m.outlet).cycle, restoreIntent := false }
        (t.meter m.outlet) := funext fun t => funext fun m => modOutlet_eq t m.outlet _
  unfold State.finishCycle
  simp only [h]
  rw [State.releaseMembers, hrelease]
  rfl

/-- A record in OFF-PHASE or DWELL aborted: its OPEN members claim (R154). -/
theorem actAbort_opened (reason : EndReason) (hphase : r.phase = .offPhase ∨ r.phase = .dwell) :
    s.actAbort g reason = s.abortCycle g reason := by
  unfold State.actAbort
  simp only [h]
  rcases hphase with hphase | hphase <;> rw [hphase]

theorem abortCycle_eq (reason : EndReason) :
    s.abortCycle g reason =
      ((s.openMembers r).foldl State.restoreByAbort
        (s.recordsWith g (fun r => { r with
          phase := .restoringAbort, offTimer := none, dwellTimer := none, outcome := some (.aborted reason) }))).checkAbortDone g := by
  unfold State.abortCycle
  simp only [h]
  rfl

theorem actAbort_onPhase (reason : EndReason) (hphase : r.phase = .onPhase) : s.actAbort g reason = s.finishCycle g (.aborted reason) := by
  unfold State.actAbort
  simp only [h]
  rw [hphase]

theorem actAbort_restoring (reason : EndReason) (hphase : r.phase = .restoringAbort) : s.actAbort g reason = s := by
  unfold State.actAbort
  simp only [h]
  rw [hphase]

end

theorem anyOpening_iff (r : CycleRecord) : r.anyOpening = true ↔ ∃ m ∈ r.members, m.status = .opening := by
  simp [CycleRecord.anyOpening]

theorem anyOpening_false_iff (r : CycleRecord) : r.anyOpening = false ↔ ∀ m ∈ r.members, m.status ≠ .opening := by
  simp [CycleRecord.anyOpening]

theorem anyRestoring_iff (r : CycleRecord) : r.anyRestoring = true ↔ ∃ m ∈ r.members, m.status = .restoring := by
  simp [CycleRecord.anyRestoring]

theorem anyRestoring_false_iff (r : CycleRecord) : r.anyRestoring = false ↔ ∀ m ∈ r.members, m.status ≠ .restoring := by
  simp [CycleRecord.anyRestoring]

/-! ## The members restored, in restore order (R148, R154) -/

theorem insertByOrder_monotone (order : OutletId → Nat) (o : OutletId) {q : List OutletId} (hq : q.Pairwise (fun x y => order x ≤ order y)) :
    (insertByOrder order o q).Pairwise (fun x y => order x ≤ order y) := by
  rw [insertByOrder_sorted order o hq, List.pairwise_append, List.pairwise_cons]
  refine ⟨hq.filter _, ⟨fun y hy => ?_, hq.filter _⟩, fun x hx y hy => ?_⟩
  · exact Nat.le_of_lt (of_decide_eq_true (List.mem_filter.1 hy).2)
  · have hxo : order x ≤ order o := of_decide_eq_true (List.mem_filter.1 hx).2
    rcases List.mem_cons.1 hy with hy | hy
    · rw [hy]
      exact hxo
    · exact Nat.le_trans hxo (Nat.le_of_lt (of_decide_eq_true (List.mem_filter.1 hy).2))

/-- Outlets in restore order are the same outlets, in order. -/
theorem inRestoreOrder_monotone (s : State) (l : List OutletId) :
    (∀ o, o ∈ s.inRestoreOrder l ↔ o ∈ l) ∧ (s.inRestoreOrder l).Pairwise (fun o p => s.restoreOrder o ≤ s.restoreOrder p) := by
  have hfold : ∀ (l q : List OutletId), q.Pairwise (fun o p => s.restoreOrder o ≤ s.restoreOrder p) →
      (∀ o, o ∈ l.foldl (fun q o => insertByOrder s.restoreOrder o q) q ↔ o ∈ q ∨ o ∈ l) ∧
        (l.foldl (fun q o => insertByOrder s.restoreOrder o q) q).Pairwise (fun o p => s.restoreOrder o ≤ s.restoreOrder p) := by
    intro l
    induction l with
    | nil => exact fun q hq => ⟨by simp, hq⟩
    | cons a l ih =>
      intro q hq
      obtain ⟨hmem, hsorted⟩ := ih (insertByOrder s.restoreOrder a q) (insertByOrder_monotone s.restoreOrder a hq)
      refine ⟨fun o => ?_, hsorted⟩
      rw [List.foldl_cons, hmem, insertByOrder_mem, List.mem_cons, or_comm (a := o = a), or_assoc]
  obtain ⟨hmem, hsorted⟩ := hfold l [] List.Pairwise.nil
  exact ⟨fun o => (hmem o).trans (by simp), hsorted⟩

/-- The members of a record that are restored are the OPEN ones in DWELL, in restore order and, where they stand in outlet order, each once. -/
theorem openMembers_spec (s : State) (r : CycleRecord) :
    (∀ o, o ∈ s.openMembers r ↔ (∃ m ∈ r.members, m.outlet = o ∧ m.status = .opened) ∧ (s.outlet o).state = .dwell) ∧
      (s.openMembers r).Pairwise (fun o p => s.restoreOrder o ≤ s.restoreOrder p) ∧
      ((r.members.map (·.outlet)).Pairwise (· < ·) →
        (s.openMembers r).Pairwise (fun o p => s.restoreOrder o < s.restoreOrder p ∨ s.restoreOrder o = s.restoreOrder p ∧ o < p)) := by
  obtain ⟨hmem, hsorted⟩ := inRestoreOrder_monotone s
    ((r.members.filter (fun m : Member => decide (m.status = .opened) && decide ((s.outlet m.outlet).state = .dwell))).map Member.outlet)
  refine ⟨fun o => (hmem o).trans ?_, hsorted, fun hmembers => (inRestoreOrder_spec s _ ?_).2⟩
  · simp only [List.mem_map, List.mem_filter, Bool.and_eq_true, decide_eq_true_eq]
    constructor
    · rintro ⟨m, ⟨hm, hstatus, hdwell⟩, rfl⟩
      exact ⟨⟨m, hm, rfl, hstatus⟩, hdwell⟩
    · rintro ⟨⟨m, hm, rfl, hstatus⟩, hdwell⟩
      exact ⟨m, ⟨hm, hstatus, hdwell⟩, rfl⟩
  · exact hmembers.sublist (List.filter_sublist.map _)

theorem offer_modRecord_of_full {s : State} {g : Nat} {f : CycleRecord → CycleRecord} {urgency : Nat} {frame : PeerFrame}
    (hroom : s.queueHasRoom = false) : (s.modRecord g f).offer urgency frame = none := by
  refine if_neg ?_
  rw [show (s.modRecord g f).queueHasRoom = s.queueHasRoom from rfl, hroom]
  exact Bool.false_ne_true

/-! ## The end of an abort (R154) -/

section
variable {s : State} {g : Nat} {r : CycleRecord} (h : s.cycle? g = some r)
include h

theorem checkAbortDone_ends {out : CycleOutcome} (hphase : r.phase = .restoringAbort) (hout : r.outcome = some out)
    (hclosed : ∀ m ∈ r.members, m.status ≠ .opening) : s.checkAbortDone g = s.finishCycle g out := by
  unfold State.checkAbortDone
  simp only [h]
  rw [if_pos ⟨hphase, (anyOpening_false_iff r).2 hclosed⟩, hout]

theorem checkAbortDone_waits (hopening : ∃ m ∈ r.members, m.status = .opening) : s.checkAbortDone g = s := by
  unfold State.checkAbortDone
  simp only [h]
  refine if_neg ?_
  rintro ⟨-, hclosed⟩
  rw [(anyOpening_iff r).2 hopening] at hclosed
  cases hclosed

/-! ## The offers (R143, R149, R156) -/

/-- GROUP-OFF may be offered (R143). -/
def CycleRecord.offersOff (r : CycleRecord) : Prop :=
  r.phase = .offPhase ∧ (∀ m ∈ r.members, m.status ≠ .opening) ∧ r.abortOffered = false ∧ r.offOffered = false

/-- GROUP-ON may be offered (R149). -/
def CycleRecord.offersOn (r : CycleRecord) : Prop :=
  r.phase = .onPhase ∧ (∀ m ∈ r.members, m.status ≠ .restoring) ∧ r.abortOffered = false ∧ r.onOffered = false

/-- The state in which GROUP-OFF is offered. -/
def State.offeringOff (s : State) (g : Nat) : State := s.recordsWith g (fun r => { r with offOffered := true })

/-- The state in which GROUP-ON is offered. -/
def State.offeringOn (s : State) (g : Nat) : State := s.recordsWith g (fun r => { r with onOffered := true })

/-- The counts of a GROUP-OFF are those of the record (R143, log 20). -/
theorem maybeGroupOff_taken (hoffers : r.offersOff) {t : State}
    (ht : (s.offeringOff g).offer 7
      (.groupOff ⟨r.tag, g, (r.members.filter (·.wasOpened)).length, (r.members.filter (·.status == .held)).length⟩) = some t) :
    s.maybeGroupOff g = t := by
  obtain ⟨hphase, hclosed, habort, hoff⟩ := hoffers
  have hoffer : (s.modRecord g (fun r => { r with offOffered := true })).offer plainUrgency
      (.groupOff ⟨r.tag, g, r.ownOpened, r.countStatus .held⟩) = some t := ht
  unfold State.maybeGroupOff
  simp only [h]
  rw [if_pos ⟨hphase, (anyOpening_false_iff r).2 hclosed, habort, hoff⟩, hoffer]

theorem maybeGroupOff_refused (hoffers : r.offersOff) (hroom : s.queueHasRoom = false) :
    s.maybeGroupOff g = (s.offeringOff g).actAbort g .link := by
  obtain ⟨hphase, hclosed, habort, hoff⟩ := hoffers
  have hoffer : (s.modRecord g (fun r => { r with offOffered := true })).offer plainUrgency
      (.groupOff ⟨r.tag, g, r.ownOpened, r.countStatus .held⟩) = none :=
    offer_modRecord_of_full hroom
  have hcycle : (s.offeringOff g).cycle? g = some { r with offOffered := true } :=
    cycle_recordsWith h (fun _ => rfl) (record_of_cycle h).2
  rw [actAbort_opened hcycle _ (Or.inl hphase)]
  unfold State.maybeGroupOff
  simp only [h]
  rw [if_pos ⟨hphase, (anyOpening_false_iff r).2 hclosed, habort, hoff⟩, hoffer]
  rfl

theorem maybeGroupOff_stays (hnot : r.phase ≠ .offPhase ∨ (∃ m ∈ r.members, m.status = .opening) ∨ r.abortOffered = true ∨ r.offOffered = true) :
    s.maybeGroupOff g = s := by
  unfold State.maybeGroupOff
  simp only [h]
  refine if_neg ?_
  rintro ⟨hphase, hclosed, habort, hoff⟩
  rcases hnot with hnot | hnot | hnot | hnot
  · exact hnot hphase
  · rw [(anyOpening_iff r).2 hnot] at hclosed
    cases hclosed
  · rw [hnot] at habort
    cases habort
  · rw [hnot] at hoff
    cases hoff

theorem maybeGroupOn_taken (hoffers : r.offersOn) {t : State}
    (ht : (s.offeringOn g).offer 7
      (.groupOn ⟨r.tag, g, (r.members.filter (·.status == .restored)).length, (r.members.filter (·.status == .failed)).length⟩) = some t) :
    s.maybeGroupOn g = t := by
  obtain ⟨hphase, hclosed, habort, hon⟩ := hoffers
  have hoffer : (s.modRecord g (fun r => { r with onOffered := true })).offer plainUrgency
      (.groupOn ⟨r.tag, g, r.countStatus .restored, r.countStatus .failed⟩) = some t := ht
  unfold State.maybeGroupOn
  simp only [h]
  rw [if_pos ⟨hphase, (anyRestoring_false_iff r).2 hclosed, habort, hon⟩, hoffer]

theorem maybeGroupOn_refused (hoffers : r.offersOn) (hroom : s.queueHasRoom = false) :
    s.maybeGroupOn g = (s.offeringOn g).finishCycle g (.aborted .link) := by
  obtain ⟨hphase, hclosed, habort, hon⟩ := hoffers
  have hoffer : (s.modRecord g (fun r => { r with onOffered := true })).offer plainUrgency
      (.groupOn ⟨r.tag, g, r.countStatus .restored, r.countStatus .failed⟩) = none :=
    offer_modRecord_of_full hroom
  unfold State.maybeGroupOn
  simp only [h]
  rw [if_pos ⟨hphase, (anyRestoring_false_iff r).2 hclosed, habort, hon⟩, hoffer]
  rfl

theorem maybeGroupOn_stays (hnot : r.phase ≠ .onPhase ∨ (∃ m ∈ r.members, m.status = .restoring) ∨ r.abortOffered = true ∨ r.onOffered = true) :
    s.maybeGroupOn g = s := by
  unfold State.maybeGroupOn
  simp only [h]
  refine if_neg ?_
  rintro ⟨hphase, hclosed, habort, hon⟩
  rcases hnot with hnot | hnot | hnot | hnot
  · exact hnot hphase
  · rw [(anyRestoring_iff r).2 hnot] at hclosed
    cases hclosed
  · rw [hnot] at habort
    cases habort
  · rw [hnot] at hon
    cases hon

theorem offerAbort_refused {reason : AbortReason} (hoffered : r.abortOffered = false) (hnone : s.queueAbort r reason = none) :
    s.offerAbort g reason = (s.abortNotQueued r).actAbort g (endReasonOf reason) := by
  unfold State.offerAbort
  simp only [h]
  rw [if_neg (by rw [hoffered]; decide), hnone]

end

theorem offerAbort_queued {s t : State} {g : Nat} {r : CycleRecord} {reason : AbortReason} (h : s.cycle? g = some r)
    (hoffered : r.abortOffered = false) (ht : s.queueAbort r reason = some t) : s.offerAbort g reason = t := by
  unfold State.offerAbort
  simp only [h]
  rw [if_neg (by rw [hoffered]; decide), ht]

theorem queueAbort_waiting {s : State} {r : CycleRecord} (reason : AbortReason)
    (h : ∃ x ∈ (s.abortNotQueued r).link.queue, isAbortOf r.tag x.frame = true) : s.queueAbort r reason = some (s.abortNotQueued r) :=
  if_pos (List.any_eq_true.2 h)

theorem queueAbort_new {s : State} {r : CycleRecord} (reason : AbortReason)
    (h : ∀ x ∈ (s.abortNotQueued r).link.queue, isAbortOf r.tag x.frame = false) :
    s.queueAbort r reason = (s.abortNotQueued r).offer 7 (.groupAbort ⟨r.tag, r.group, reason⟩) := by
  refine if_neg ?_
  rw [List.any_eq_true]
  rintro ⟨x, hx, habort⟩
  rw [h x hx] at habort
  cases habort

/-- Settles O59: the awaited set, the end, the aborts, the offers. -/
theorem cyclesGatherAbortAndEnd : Obligations.CyclesGatherAbortAndEnd := by
  unfold Obligations.CyclesGatherAbortAndEnd
  intro s g r hrecord
  refine ⟨fun k b hb => ?awaited, fun h => ⟨finishCycle_eq h, fun reason => ⟨fun hphase => ?opened, actAbort_onPhase h reason, actAbort_restoring h reason⟩,
    fun out hphase hout => ⟨checkAbortDone_ends h hphase hout, checkAbortDone_waits h⟩,
    fun b => ⟨fun hoffers hb => ?off, fun hoffers hb => ?on⟩, maybeGroupOff_stays h, maybeGroupOn_stays h,
    fun reason => ⟨offerAbort_of_offered reason h, fun hoffered => ⟨fun t ht => offerAbort_queued h hoffered ht, offerAbort_refused h hoffered⟩⟩,
    fun b hb => ?queued⟩⟩
  case awaited =>
    have hstruck : s.recordsWith g (CycleRecord.withoutAwaited k) = b := hb.symm
    refine ⟨removeAwaited_absent hrecord, fun hk hmore => (removeAwaited_more hrecord hk hmore).trans hstruck, fun hk hlast => ?_⟩
    have hcases := removeAwaited_last hrecord hk hlast
    rw [hstruck] at hcases
    exact hcases
  case opened => exact ⟨s.openMembers r, (actAbort_opened h reason hphase).trans (abortCycle_eq h reason), openMembers_spec s r⟩
  case off =>
    subst hb
    exact ⟨fun t ht => maybeGroupOff_taken h hoffers ht, maybeGroupOff_refused h hoffers⟩
  case on =>
    subst hb
    exact ⟨fun t ht => maybeGroupOn_taken h hoffers ht, maybeGroupOn_refused h hoffers⟩
  case queued =>
    subst hb
    exact ⟨rfl, fun reason => ⟨queueAbort_waiting reason, queueAbort_new reason⟩⟩

end Sys2Proof.Machine
end

section
/-! PROOFS. The group frames as they are applied, the loss of a roster station, and the timers of a cycle (R145 to R151, R153, R155, R158). -/

namespace Sys2Proof.Machine
open Sys2Proof

/-! ## The record of a tag (R158) -/

section
variable {s : State} {g : Nat} {t : Tag} {r : CycleRecord}

theorem cycleOf_some (h : s.cycle? g = some r) (ht : r.tag = t) : s.cycleOf g t = some r := by
  unfold State.cycleOf
  simp only [h]
  exact if_pos ht

theorem of_cycleOf (h : s.cycleOf g t = some r) : s.cycle? g = some r ∧ r.tag = t := by
  unfold State.cycleOf at h
  split at h
  · next r' hcycle =>
    split at h
    · next htag =>
      cases h
      exact ⟨hcycle, htag⟩
    · cases h
  · cases h

end

/-! ## GROUP-OFF (R145) -/

/-- The counts of a GROUP-OFF gathered. -/
def CycleRecord.gatherOff (p : GroupOffPayload) (r : CycleRecord) : CycleRecord :=
  { r with gOpened := min 255 (r.gOpened + p.opened), gHeld := min 255 (r.gHeld + p.held) }

section
variable {s h b : State} {k : StationId} {r : CycleRecord}

theorem applyGroupOff_ignored {p : GroupOffPayload} (hh : h = s.heardFrom k)
    (hno : ∀ r, h.cycle? p.group = some r → r.tag ≠ p.tag ∨ r.phase ≠ .offPhase ∨ hasNumber r.awaited k = false) : s.applyGroupOff k p = h := by
  unfold State.applyGroupOff
  simp only [← hh]
  split
  · rfl
  · next r hr =>
    obtain ⟨hcycle, htag⟩ := of_cycleOf hr
    refine if_neg ?_
    rintro ⟨hphase, hawaited⟩
    rcases hno r hcycle with hno | hno | hno
    · exact hno htag
    · exact hno hphase
    · rw [hno] at hawaited
      cases hawaited

theorem applyGroupOff_taken {p : GroupOffPayload} (hh : h = s.heardFrom k) (hcycle : h.cycle? p.group = some r) (htag : r.tag = p.tag)
    (hphase : r.phase = .offPhase) (hawaited : hasNumber r.awaited k = true)
    (hb : b = h.recordsWith p.group (CycleRecord.gatherOff p)) :
    s.applyGroupOff k p =
      if r.policy = .strict ∧ 0 < p.held then (b.recordsWith p.group (CycleRecord.withoutAwaited k)).abortCycle p.group .held
      else b.removeAwaited p.group k := by
  unfold State.applyGroupOff
  simp only [← hh, cycleOf_some hcycle htag]
  rw [if_pos ⟨hphase, hawaited⟩, hb]
  rfl

theorem applyGroupOff_held {p : GroupOffPayload} (hh : h = s.heardFrom k) (hcycle : h.cycle? p.group = some r) (htag : r.tag = p.tag)
    (hphase : r.phase = .offPhase) (hawaited : hasNumber r.awaited k = true)
    (hb : b = h.recordsWith p.group (CycleRecord.gatherOff p)) (hpolicy : r.policy = .strict) (hheld : 0 < p.held) :
    s.applyGroupOff k p = (b.recordsWith p.group (CycleRecord.withoutAwaited k)).actAbort p.group .held := by
  have hdone : r.phase ≠ .done := by rw [hphase]; decide
  have hgathered : b.cycle? p.group = some (r.gatherOff p) := by
    rw [hb]
    exact cycle_recordsWith hcycle (fun _ => rfl) hdone
  have hstruck : (b.recordsWith p.group (CycleRecord.withoutAwaited k)).cycle? p.group = some ((r.gatherOff p).withoutAwaited k) :=
    cycle_recordsWith hgathered (fun _ => rfl) hdone
  rw [applyGroupOff_taken hh hcycle htag hphase hawaited hb, if_pos ⟨hpolicy, hheld⟩, actAbort_opened hstruck _ (Or.inl hphase)]

theorem applyGroupOff_gathers {p : GroupOffPayload} (hh : h = s.heardFrom k) (hcycle : h.cycle? p.group = some r) (htag : r.tag = p.tag)
    (hphase : r.phase = .offPhase) (hawaited : hasNumber r.awaited k = true)
    (hb : b = h.recordsWith p.group (CycleRecord.gatherOff p)) (hheld : r.policy = .lenient ∨ p.held = 0) :
    s.applyGroupOff k p = b.removeAwaited p.group k := by
  rw [applyGroupOff_taken hh hcycle htag hphase hawaited hb]
  refine if_neg ?_
  rintro ⟨hpolicy, hpositive⟩
  rcases hheld with hheld | hheld
  · rw [hheld] at hpolicy
    cases hpolicy
  · omega

/-! ## GROUP-ON (R147, R150) -/

theorem applyGroupOn_ignored {p : GroupOnPayload} (hh : h = s.heardFrom k)
    (hno : ∀ r, h.cycle? p.group = some r → r.tag ≠ p.tag ∨ r.phase = .offPhase ∨ r.phase = .restoringAbort) : s.applyGroupOn k p = h := by
  unfold State.applyGroupOn
  simp only [← hh]
  split
  · rfl
  · next r hr =>
    obtain ⟨hcycle, htag⟩ := of_cycleOf hr
    rcases hno r hcycle with hno | hno | hno
    · exact absurd htag hno
    · rw [hno]
    · rw [hno]

theorem applyGroupOn_early {p : GroupOnPayload} (hh : h = s.heardFrom k) (hcycle : h.cycle? p.group = some r) (htag : r.tag = p.tag)
    (hphase : r.phase = .dwell) :
    s.applyGroupOn k p =
      if hasNumber (h.roster p.group) k = true then
        h.recordsWith p.group (fun r => { r.gatherOn p with early := addNumber r.early k })
      else h := by
  unfold State.applyGroupOn
  simp only [← hh, cycleOf_some hcycle htag]
  rw [hphase]
  rfl

theorem applyGroupOn_late {p : GroupOnPayload} (hh : h = s.heardFrom k) (hcycle : h.cycle? p.group = some r) (htag : r.tag = p.tag)
    (hphase : r.phase = .onPhase) :
    s.applyGroupOn k p =
      if hasNumber r.awaited k = true then (h.recordsWith p.group (CycleRecord.gatherOn p)).removeAwaited p.group k else h := by
  unfold State.applyGroupOn
  simp only [← hh, cycleOf_some hcycle htag]
  rw [hphase]
  rfl

theorem recordsWith_recordsWith (s : State) (g : Nat) (f f' : CycleRecord → CycleRecord) (hf : ∀ r, (f r).group = r.group) :
    (s.recordsWith g f).recordsWith g f' = s.recordsWith g (fun r => f' (f r)) := by
  have hrecords : (s.records.map (fun r => if r.group = g then f r else r)).map (fun r => if r.group = g then f' r else r) =
      s.records.map (fun r => if r.group = g then f' (f r) else r) := by
    rw [List.map_map]
    refine List.map_congr_left fun r _ => ?_
    by_cases hr : r.group = g
    · simp [hr, hf]
    · simp [hr]
  exact congrArg (fun l : List CycleRecord => { s with records := l }) hrecords

/-! ## GROUP-ABORT (R153) and the loss of a roster station (R155) -/

theorem applyGroupAbort_ignored {p : GroupAbortPayload} (hh : h = s.heardFrom k) (hno : ∀ r, h.cycle? p.group = some r → r.tag ≠ p.tag) :
    s.applyGroupAbort k p = h := by
  unfold State.applyGroupAbort
  simp only [← hh]
  split
  · rfl
  · next r hr =>
    obtain ⟨hcycle, htag⟩ := of_cycleOf hr
    exact absurd htag (hno r hcycle)

theorem applyGroupAbort_acts {p : GroupAbortPayload} (hh : h = s.heardFrom k) (hcycle : h.cycle? p.group = some r) (htag : r.tag = p.tag) :
    s.applyGroupAbort k p = h.actAbort p.group (endReasonOf p.reason) := by
  unfold State.applyGroupAbort
  simp only [← hh, cycleOf_some hcycle htag]

variable {g : Nat}

theorem groupLost_of_roster (hcycle : s.cycle? g = some r) (hroster : hasNumber (s.roster g) k = true) :
    (r.phase = .offPhase ∨ r.phase = .dwell → State.groupLost k s g = s.offerAbort g .peerLost) ∧
      (r.phase = .onPhase → State.groupLost k s g = s.removeAwaited g k) ∧ (r.phase = .restoringAbort → State.groupLost k s g = s) := by
  unfold State.groupLost
  simp only [hcycle]
  rw [if_pos hroster]
  refine ⟨fun hphase => ?_, fun hphase => by rw [hphase], fun hphase => by rw [hphase]⟩
  rcases hphase with hphase | hphase <;> rw [hphase]

theorem groupLost_of_stranger (hno : s.cycle? g = none ∨ hasNumber (s.roster g) k = false) : State.groupLost k s g = s := by
  unfold State.groupLost
  split
  · rfl
  · next r hcycle =>
    rcases hno with hno | hno
    · rw [hno] at hcycle
      cases hcycle
    · exact if_neg (by rw [hno]; decide)

end

/-! ## The timers of a cycle (R146, R148, R151) -/

section
variable {s : State} {g : Nat} {r : CycleRecord} {d : Nat} (h : s.cycle? g = some r)
include h

theorem offGatherDue_of_offPhase (hphase : r.phase = .offPhase) (htimer : r.offTimer = some d) : s.offGatherDue g = some d := by
  unfold State.offGatherDue
  simp only [h]
  rw [if_pos hphase, htimer]

theorem onGatherDue_of_onPhase (hphase : r.phase = .onPhase) (htimer : r.onTimer = some d) : s.onGatherDue g = some d := by
  unfold State.onGatherDue
  simp only [h]
  rw [if_pos hphase, htimer]

theorem dwellDue_of_dwell (hphase : r.phase = .dwell) (htimer : r.dwellTimer = some d) (hrun : s.dwellFrozen r = false) :
    s.dwellDue g = some d := by
  unfold State.dwellDue
  simp only [h]
  rw [if_pos ⟨hphase, hrun⟩, htimer]

theorem dwellDue_of_frozen (hfrozen : s.dwellFrozen r = true) : s.dwellDue g = none := by
  unfold State.dwellDue
  simp only [h]
  refine if_neg ?_
  rintro ⟨-, hrun⟩
  rw [hfrozen] at hrun
  cases hrun

theorem endDwell_eq :
    s.endDwell g =
      (((s.openMembers r).foldl (State.restoreByDwell g) (s.recordsWith g (fun r => { r with dwellTimer := none }))).recordsWith g
        (fun r' => { r' with phase := .onPhase, awaited := s.awaitedOn r, onTimer := some (s.cfg.onGather * 1000) })).maybeGroupOn g := by
  unfold State.endDwell
  simp only [h]
  rfl

/-- The record, when time has passed (R137, R147). -/
theorem cycle_passTime (hr : s.inReset = false) (d : Nat) : (s.passTime d).cycle? g = some (r.age d (s.dwellFrozen r)) := by
  obtain ⟨hrecord, hphase⟩ := record_of_cycle h
  refine cycle_of_record ?_ hphase
  have hrecords : (s.passTime d).records = s.records.map (fun r => r.age d (s.dwellFrozen r)) := by simp [State.passTime, hr]
  rw [State.record?, hrecords, List.find?_map]
  rw [State.record?] at hrecord
  exact congrArg (Option.map _) hrecord

end

theorem dwellFrozen_iff (s : State) (r : CycleRecord) :
    s.dwellFrozen r = true ↔ ∃ m ∈ r.members, (s.line (bankOf m.outlet)).state ≠ .normal := by
  simp [State.dwellFrozen, State.isHeld]

theorem dwellFrozen_false_iff (s : State) (r : CycleRecord) :
    s.dwellFrozen r = false ↔ ∀ m ∈ r.members, (s.line (bankOf m.outlet)).state = .normal := by
  simp [State.dwellFrozen, State.isHeld]

/-- What the end of the dwell reads of the board does not change with time (R148). -/
theorem passTime_kept {s : State} (hr : s.inReset = false) (d : Nat) :
    (s.passTime d).groups = s.groups ∧ (s.passTime d).cfg = s.cfg ∧ ∀ o, ((s.passTime d).outlet o).cfg = (s.outlet o).cfg := by
  refine ⟨by simp [State.passTime, hr], by simp [State.passTime, hr], fun o => ?_⟩
  rw [passTime_outlet s d o hr]
  rfl

theorem awaitedOn_iff (s : State) (r : CycleRecord) (j : StationId) :
    hasNumber (s.awaitedOn r) j = true ↔ hasNumber (s.roster r.group) j = true ∧ (s.peer j).state ≠ .lost ∧ hasNumber r.early j = false := by
  rw [State.awaitedOn, hasNumber_numbersWhere]
  simp [isLost, and_assoc]

theorem roster_of_groups {s t : State} (h : t.groups = s.groups) (g : Nat) : t.roster g = s.roster g := by
  unfold State.roster State.group?
  rw [h]

/-- Settles O60: the frames, the loss, the timers. -/
theorem groupFramesAndTimersMoveTheCycle : Obligations.GroupFramesAndTimersMoveTheCycle := by
  unfold Obligations.GroupFramesAndTimersMoveTheCycle
  intro s k g h hh
  refine ⟨fun p hg => ?off, fun p hg => ?on, fun p hg => ?abort, fun r hcycle hroster => groupLost_of_roster hcycle hroster,
    groupLost_of_stranger, fun r d a hr hcycle ha => ⟨fun hphase htimer => ?offTimer, fun hphase hheld => ?frozen,
      fun hphase htimer hnormal => ?dwellTimer, fun hphase htimer => ?onTimer⟩⟩
  case off =>
    subst hg
    exact ⟨applyGroupOff_ignored hh, fun r b hcycle htag hphase hawaited hb =>
      ⟨applyGroupOff_gathers hh hcycle htag hphase hawaited hb, applyGroupOff_held hh hcycle htag hphase hawaited hb⟩⟩
  case on =>
    subst hg
    refine ⟨applyGroupOn_ignored hh, fun r b hcycle htag hb => ⟨fun hphase hroster => ?_, fun hphase hroster => ?_, fun hphase hawaited => ?_,
      fun hphase hawaited => ?_⟩⟩
    · rw [applyGroupOn_early hh hcycle htag hphase, if_pos hroster, hb]
      exact (recordsWith_recordsWith h p.group (CycleRecord.gatherOn p)
        (fun x => { x with early := addNumber x.early k }) (fun _ => rfl)).symm
    · rw [applyGroupOn_early hh hcycle htag hphase, if_neg (by rw [hroster]; decide)]
    · rw [applyGroupOn_late hh hcycle htag hphase, if_pos hawaited, hb]
      rfl
    · rw [applyGroupOn_late hh hcycle htag hphase, if_neg (by rw [hawaited]; decide)]
  case abort =>
    subst hg
    exact ⟨applyGroupAbort_ignored hh, fun r hcycle htag => applyGroupAbort_acts hh hcycle htag⟩
  case offTimer =>
    rw [ha]
    exact unlessReset_expire_some (s := s) (·.offGatherDue g) (fun s => (s.endOffGather g).issueClaims) hr
      (offGatherDue_of_offPhase hcycle hphase htimer)
  case onTimer =>
    rw [ha]
    exact unlessReset_expire_some (s := s) (·.onGatherDue g) (fun s => s.finishCycle g .incomplete) hr
      (onGatherDue_of_onPhase hcycle hphase htimer)
  case frozen =>
    exact unlessReset_expire_none (s := s) (·.dwellDue g) _ hr (dwellDue_of_frozen hcycle ((dwellFrozen_iff s r).2 hheld))
  case dwellTimer =>
    have hrun : s.dwellFrozen r = false := (dwellFrozen_false_iff s r).2 hnormal
    obtain ⟨hgroups, hcfg, hcfgs⟩ := passTime_kept hr d
    have hpeers : a.peers = s.peers := by rw [ha, (passTime_rest hr d).2.2.2.2]
    rw [← ha] at hgroups hcfg hcfgs
    have hstate (o : OutletId) : (a.outlet o).state = (s.outlet o).state := by rw [ha, passTime_state]
    have horder : a.restoreOrder = s.restoreOrder := funext fun o => congrArg OutletConfig.restoreOrder (hcfgs o)
    have haged : a.cycle? g = some (r.age d (s.dwellFrozen r)) := by rw [ha, cycle_passTime hcycle hr]
    obtain ⟨hmem, hsorted, hstrict⟩ := openMembers_spec a (r.age d (s.dwellFrozen r))
    rw [horder] at hsorted hstrict
    refine ⟨a.openMembers (r.age d (s.dwellFrozen r)), a.awaitedOn (r.age d (s.dwellFrozen r)), ?_, fun o => ?_, hsorted, hstrict, fun j => ?_⟩
    · have hexpires := unlessReset_expire_some (s := s) (·.dwellDue g) (fun s => (s.endDwell g).issueClaims) hr
        (dwellDue_of_dwell hcycle hphase htimer hrun)
      rw [← ha, endDwell_eq haged, hcfg] at hexpires
      exact hexpires
    · rw [hmem, hstate]
      rfl
    · have hawaited := awaitedOn_iff a (r.age d (s.dwellFrozen r)) j
      have hgroup : (r.age d (s.dwellFrozen r)).group = g := cycle_group haged
      rw [hgroup, roster_of_groups hgroups, State.peer, hpeers] at hawaited
      exact hawaited

end Sys2Proof.Machine
end
